-- ==== Sys2Proof/Word.lean ====
section
/-! DEFINITION. The words of the UP24: bytes on the links (spec/10), 16-bit event values and 32-bit uptimes
(spec/00 Conventions), millimetres on the platform coordinate, and the indices of bays and general lines. -/

namespace Sys2Proof

/-- A byte on a serial link (spec/10 R170). -/
abbrev Byte := BitVec 8

/-- The value field of an event record and the detail of a fault frame (spec/10 R177, spec/07 R136). -/
abbrev Word16 := BitVec 16

/-- Uptime, in milliseconds, wrapping to zero (spec/00 Conventions, Uptime). -/
abbrev Uptime := BitVec 32

/-- A position or distance along the face, in millimetres (spec/00 Conventions, Platform coordinate). -/
abbrev Mm := Int

/-- A bay position: bay n of the spec is index n - 1 (spec/00 Conventions, Bay numbering). -/
abbrev BayIx := Fin 24

/-- A general line: line n of the spec is index n - 1 (spec/03 R60). -/
abbrev LineIx := Fin 24

end Sys2Proof
end

