-- ==== Sys2Proof/Syntax.lean ====
section
/-! DEFINITION. The commands of the UP24: one constructor for each row of spec/opcode_table.json, in the table's order.
Request rows carry the link a request came on and its body as bytes (spec/10 R170, R171; spec/11, 11.7). -/

namespace Sys2Proof

/-- The two serial links (spec/10). -/
inductive Link
  | station | signalling
  deriving DecidableEq, Repr

/-- The eight input lines of a bay (spec/01 R4), in the order of spec/11, READ_LINES content. -/
inductive BayInput
  | closed | locked | fullyOpen | obstructed | driveFault | gap | curtain | releaseKey
  deriving DecidableEq, Repr

/-- A line whose level the outside world sets: a bay input (spec/01 R4) or a general line (spec/03 R60). -/
inductive InputLine
  | bay (b : BayIx) (input : BayInput)
  | general (n : LineIx)
  deriving DecidableEq, Repr

/-- The two passenger sensors of a sliding bay (spec/03 R73). -/
inductive Sensor
  | gap | curtain
  deriving DecidableEq, Repr

/-- The commands. Each docstring names the rule the table cites for the row. -/
inductive Instr
  /-- spec/08 R146 -/
  | powerOn
  /-- spec/08 R146 -/
  | supplyOutOfRange
  /-- spec/08 R146 -/
  | resetNAsserted
  /-- spec/08 R146 -/
  | resetNReleased
  /-- spec/08 R147 -/
  | loadingEnds
  /-- spec/03 R57: the raw level of the line becomes high or low. -/
  | rawLevelChange (line : InputLine) (high : Bool)
  /-- spec/03 R57 -/
  | filterHoldExpires (line : InputLine)
  /-- spec/01 R8 -/
  | unlockLimitExpires (b : BayIx)
  /-- spec/01 R9, R13 -/
  | openLimitExpires (b : BayIx)
  /-- spec/01 R12 -/
  | closeLimitExpires (b : BayIx)
  /-- spec/01 R14 -/
  | lockLimitExpires (b : BayIx)
  /-- spec/01 R11 -/
  | warningPeriodExpires (b : BayIx)
  /-- spec/01 R11 -/
  | curtainHoldLimitExpires (b : BayIx)
  /-- spec/01 R13 -/
  | reopenPauseExpires (b : BayIx)
  /-- spec/03 R73, R74 -/
  | stuckTimerExpires (b : BayIx) (sensor : Sensor)
  /-- spec/03 R77 -/
  | gapScanTimerExpires
  /-- spec/06 R120 -/
  | supervisionTimerExpires
  /-- spec/02 R52 -/
  | dwellDue
  /-- spec/02 R52 -/
  | dwellOverstay
  /-- spec/09 R165, R167: the record write completes, and verifies or does not. -/
  | recordWriteCompletes (verified : Bool)
  /-- spec/10 R170 -/
  | interByteGap (l : Link)
  /-- spec/10 R170 -/
  | frameCrcMismatch (l : Link)
  /-- spec/10 R173 -/
  | byteWhileReplyOwed (l : Link)
  /-- spec/10 R173 -/
  | replySent (l : Link)
  /-- spec/10 R171 -/
  | unknownKind (l : Link) (kind : Byte) (body : List Byte)
  /-- spec/04 R94 -/
  | poll (l : Link) (body : List Byte)
  /-- spec/02 R32 -/
  | announce (l : Link) (body : List Byte)
  /-- spec/02 R33 -/
  | cancel (l : Link) (body : List Byte)
  /-- spec/02 R34 -/
  | berth (l : Link) (body : List Byte)
  /-- spec/02 R42 to R45 -/
  | openMap (l : Link) (body : List Byte)
  /-- spec/02 R47 -/
  | closeMap (l : Link) (body : List Byte)
  /-- spec/02 R48 -/
  | depart (l : Link) (body : List Byte)
  /-- spec/06 R125 -/
  | resume (l : Link) (body : List Byte)
  /-- spec/10 R175 -/
  | readStatus (l : Link) (body : List Byte)
  /-- spec/10 R176 -/
  | readBays (l : Link) (body : List Byte)
  /-- spec/02 R54 -/
  | readTrain (l : Link) (body : List Byte)
  /-- spec/02 R54 -/
  | readMap (l : Link) (body : List Byte)
  /-- spec/07 R143 -/
  | readFault (l : Link) (body : List Byte)
  /-- spec/05 R115 -/
  | readReleases (l : Link) (body : List Byte)
  /-- spec/03 R69 -/
  | readLines (l : Link) (body : List Byte)
  /-- spec/09 R163 -/
  | readConfig (l : Link) (body : List Byte)
  /-- spec/10 R179 -/
  | takeEvents (l : Link) (body : List Byte)
  /-- spec/10 R180 -/
  | setAttention (l : Link) (body : List Byte)
  /-- spec/01 R25 -/
  | setTrace (l : Link) (body : List Byte)
  /-- spec/01 R26, R27 -/
  | bayCommandOpen (l : Link) (body : List Byte)
  /-- spec/01 R26, R27 -/
  | bayCommandClose (l : Link) (body : List Byte)
  /-- spec/01 R17, R26 -/
  | bayCommandStop (l : Link) (body : List Byte)
  /-- spec/01 R20, R26 -/
  | bayCommandHold (l : Link) (body : List Byte)
  /-- spec/01 R20, R26 -/
  | bayCommandFree (l : Link) (body : List Byte)
  /-- spec/01 R21, R26 -/
  | bayCommandIsolate (l : Link) (body : List Byte)
  /-- spec/01 R22, R26 -/
  | bayCommandRestore (l : Link) (body : List Byte)
  /-- spec/07 R141, spec/01 R26 -/
  | bayCommandClearFault (l : Link) (body : List Byte)
  /-- spec/05 R116 -/
  | ackRelease (l : Link) (body : List Byte)
  /-- spec/05 R106 -/
  | emergencyOpen (l : Link) (body : List Byte)
  /-- spec/02 R53 -/
  | extendDwell (l : Link) (body : List Byte)
  /-- spec/03 R68 -/
  | setOutput (l : Link) (body : List Byte)
  /-- spec/08 R149 -/
  | enterMaintenance (l : Link) (body : List Byte)
  /-- spec/08 R150 -/
  | leaveMaintenance (l : Link) (body : List Byte)
  /-- spec/08 R151 -/
  | halt (l : Link) (body : List Byte)
  /-- spec/08 R156 -/
  | prepareRestart (l : Link) (body : List Byte)
  /-- spec/08 R156 -/
  | restart (l : Link) (body : List Byte)
  /-- spec/01 R2, spec/09 R160 -/
  | writeBay (l : Link) (body : List Byte)
  /-- spec/02 R30, spec/09 R160 -/
  | writeProfile (l : Link) (body : List Byte)
  /-- spec/02 R30, spec/09 R160 -/
  | eraseProfile (l : Link) (body : List Byte)
  /-- spec/07 R130, spec/09 R160 -/
  | writeResponse (l : Link) (body : List Byte)
  /-- spec/03 R62, R63, spec/09 R160 -/
  | writeLine (l : Link) (body : List Byte)
  /-- spec/09 R162 -/
  | writePlatform (l : Link) (body : List Byte)
  /-- spec/09 R164 -/
  | commit (l : Link) (body : List Byte)
  /-- spec/09 R168 -/
  | freezeConfig (l : Link) (body : List Byte)
  /-- spec/09 R169 -/
  | fixGeometry (l : Link) (body : List Byte)
  /-- spec/10 R170 -/
  | byteReceived (l : Link) (byte : Byte)
  deriving DecidableEq, Repr

end Sys2Proof
end

