-- ==== Sys2Proof/Config.lean ====
section
/-! DEFINITION. What is fixed for the part (spec/00, Quantities used throughout), and the free values: what the
manual leaves to the hardware. -/

namespace Sys2Proof.Config

/-- The event queue holds up to 64 records (spec/10 R177). -/
def queueLimit : Nat := 64

/-- The release log holds up to 32 records (spec/05 R96). -/
def logLimit : Nat := 32

/-- A gap of more than 20 ms abandons a partial frame (spec/10 R170). -/
def byteGapLimit : Nat := 20

/-- The dwell limit is at most 900 s (spec/02 R28, R53). -/
def dwellLimitMax : Nat := 900

/-- Dwell elapsed stops at this maximum, in ms (spec/02 R52). -/
def dwellElapsedMax : Nat := 4294967

/-- The lower end of the platform coordinate (spec/00 Conventions). -/
def coordinateMin : Mm := -20000

/-- The upper end of the platform coordinate (spec/00 Conventions). -/
def coordinateMax : Mm := 250000

/-- How many steps of one event the model carries out before it holds the event to be endless.
DESIGN CHOICE, log 5: the spec's rules give no end to some events of a host-written response table. -/
def eventBound : Nat := 100000

/-- FREE VALUE, log 12: whether the verify of the one-time area passes at the n-th attempt (spec/09 R169 gives the
outcome of either case and does not say which comes about). -/
opaque areaVerifies : Nat → Bool

end Sys2Proof.Config
end

