-- ==== Sys2Proof/Machine/Records.lean ====
section
/-! DEFINITION. The configuration records of the store (spec/09 R158): their fields, their ranges and their defaults. -/

namespace Sys2Proof.Machine

/-- What stands at a bay position (spec/01 R1). -/
inductive BayKind
  | absent | sliding | escape | endDoor
  deriving DecidableEq, Repr

/-- The link-loss action of a bay (spec/06 R121). -/
inductive LinkLoss
  | stand | close
  deriving DecidableEq, Repr

/-- The filter classes (spec/03 R57). -/
inductive FilterClass
  | none | short | medium | long
  deriving DecidableEq, Repr

/-- The functions of a general line (spec/03 R60, R61). -/
inductive LineFunction
  | berthSensor | fireInput | panelOpen | keyReset | bypassKey | maintenanceKey | fieldSupplyOk | generalInput
  | secureOut | bypassLamp | alarmOut | generalOutput | unused
  deriving DecidableEq, Repr

/-- The polarity of a general line (spec/03 R56, R60). -/
inductive Polarity
  | activeHigh | activeLow
  deriving DecidableEq, Repr

/-- The action of a fault response entry (spec/07 R129). -/
inductive ResponseAction
  | faultBay | advise
  deriving DecidableEq, Repr

/-- The platform effect of a fault response entry (spec/07 R129). -/
inductive PlatformEffect
  | none | closeMap | halt
  deriving DecidableEq, Repr

/-- The configuration part of a bay entry (spec/01 R1). Lengths in mm, limits in ms. -/
structure BayRecord where
  kind : BayKind
  centre : Nat
  clearWidth : Nat
  minOverlap : Nat
  unlockLimit : Nat
  openLimit : Nat
  closeLimit : Nat
  lockLimit : Nat
  linkLoss : LinkLoss
  proofFilter : FilterClass
  sensorFilter : FilterClass
  keyFilter : FilterClass
  deriving DecidableEq, Repr

/-- One doorway of a profile: its centre's offset from the A end, and its width, in mm (spec/02 R30). -/
structure Doorway where
  offset : Nat
  width : Nat
  deriving DecidableEq, Repr

/-- A consist profile slot (spec/02 R30). -/
structure Profile where
  valid : Bool
  consist : Nat
  unitLength : Nat
  doorways : List Doorway
  deriving DecidableEq, Repr

/-- An entry of the fault response table (spec/07 R129). -/
structure Response where
  action : ResponseAction
  retries : Nat
  severity : Nat
  platformEffect : PlatformEffect
  deriving DecidableEq, Repr

/-- A general line record (spec/03 R60). -/
structure LineRecord where
  function : LineFunction
  index : Nat
  polarity : Polarity
  filter : FilterClass
  rising : Bool
  falling : Bool
  safe : Bool
  deriving DecidableEq, Repr

/-- The platform settings record (spec/09 R162). Lengths in mm; periods in ms, but the sensor stuck period and the
overstay margin in s. -/
structure Platform where
  stopTolerance : Nat
  extendedWindow : Nat
  agreementMargin : Nat
  positions : Vector (Option Mm) 12
  warningPeriod : Nat
  reopenPause : Nat
  recloseAttempts : Nat
  curtainHold : Nat
  gapScanPeriod : Nat
  stuckPeriod : Nat
  supervisionPeriod : Nat
  overstayMargin : Nat
  deriving DecidableEq, Repr

/-- A whole configuration: the 93 records of spec/09 R158 by group. -/
structure Records where
  bays : Vector BayRecord 24
  profiles : Vector Profile 12
  responses : Vector Response 32
  lines : Vector LineRecord 24
  platform : Platform
  deriving DecidableEq, Repr

/-- The defaults of spec/01 R1. -/
def BayRecord.defaults : BayRecord :=
  { kind := .absent, centre := 0, clearWidth := 1600, minOverlap := 700, unlockLimit := 800, openLimit := 4000
    closeLimit := 4500, lockLimit := 800, linkLoss := .close, proofFilter := .short, sensorFilter := .medium
    keyFilter := .long }

/-- spec/09 R158: valid no, other fields 0. -/
def Profile.defaults : Profile := { valid := false, consist := 0, unitLength := 0, doorways := [] }

/-- The defaults of spec/07 R129 for the codes that are not raised. -/
def Response.unraised : Response := { action := .faultBay, retries := 0, severity := 1, platformEffect := .none }

/-- The default entry of a code, by its number (spec/07 R129). -/
def Response.defaults : Nat → Response
  | 1 => ⟨.faultBay, 1, 1, .none⟩
  | 2 => ⟨.faultBay, 1, 1, .none⟩
  | 3 => ⟨.faultBay, 1, 2, .none⟩
  | 4 => ⟨.faultBay, 1, 2, .none⟩
  | 5 => ⟨.faultBay, 0, 2, .none⟩
  | 6 => ⟨.faultBay, 0, 3, .none⟩
  | 7 => ⟨.faultBay, 0, 3, .none⟩
  | 8 => ⟨.faultBay, 1, 2, .none⟩
  | 9 => ⟨.advise, 0, 1, .none⟩
  | 10 => ⟨.faultBay, 0, 3, .none⟩
  | 11 => ⟨.faultBay, 0, 3, .none⟩
  | 16 => ⟨.faultBay, 0, 3, .closeMap⟩
  | 17 => ⟨.faultBay, 0, 2, .none⟩
  | 18 => ⟨.faultBay, 0, 1, .none⟩
  | 19 => ⟨.faultBay, 0, 3, .halt⟩
  | 20 => ⟨.faultBay, 0, 3, .halt⟩
  | _ => Response.unraised

/-- The defaults of spec/03 R60. -/
def LineRecord.defaults : LineRecord :=
  { function := .unused, index := 1, polarity := .activeHigh, filter := .medium, rising := false, falling := false
    safe := false }

/-- The defaults of spec/09 R162. -/
def Platform.defaults : Platform :=
  { stopTolerance := 300, extendedWindow := 800, agreementMargin := 250, positions := Vector.replicate 12 none
    warningPeriod := 2000, reopenPause := 1000, recloseAttempts := 3, curtainHold := 8000, gapScanPeriod := 1500
    stuckPeriod := 30, supervisionPeriod := 1000, overstayMargin := 30 }

/-- The whole table of response defaults, entry by entry. -/
def Response.table : Vector Response 32 :=
  ⟨((List.range 32).map Response.defaults).toArray, by rfl⟩

/-- Every record at its default (spec/09 R158). -/
def Records.defaults : Records :=
  { bays := Vector.replicate 24 BayRecord.defaults, profiles := Vector.replicate 12 Profile.defaults
    responses := Response.table, lines := Vector.replicate 24 LineRecord.defaults, platform := Platform.defaults }

/-- The ranges of spec/01 R1. -/
def BayRecord.inRange (r : BayRecord) : Bool :=
  r.centre ≤ 250000 && 800 ≤ r.clearWidth && r.clearWidth ≤ 3000 && 300 ≤ r.minOverlap && r.minOverlap ≤ r.clearWidth
    && 200 ≤ r.unlockLimit && r.unlockLimit ≤ 3000 && 1000 ≤ r.openLimit && r.openLimit ≤ 10000
    && 1000 ≤ r.closeLimit && r.closeLimit ≤ 10000 && 200 ≤ r.lockLimit && r.lockLimit ≤ 3000

/-- Offsets strictly increasing (spec/02 R30). -/
def Doorway.increasing : List Doorway → Bool
  | [] => true
  | [_] => true
  | d :: e :: ds => d.offset < e.offset && Doorway.increasing (e :: ds)

/-- The conditions of spec/02 R30 on the fields of a valid slot. -/
def Profile.fieldsInRange (p : Profile) : Bool :=
  1 ≤ p.consist && p.consist ≤ 250 && 10000 ≤ p.unitLength && p.unitLength ≤ 130000
    && 1 ≤ p.doorways.length && p.doorways.length ≤ 40
    && p.doorways.all (fun d => d.offset ≤ p.unitLength && 600 ≤ d.width && d.width ≤ 2200)
    && Doorway.increasing p.doorways

/-- spec/09 R159: the fields of a slot whose valid flag is no are not held to their ranges. -/
def Profile.inRange (p : Profile) : Bool := !p.valid || p.fieldsInRange

/-- The ranges of spec/07 R129. -/
def Response.inRange (r : Response) : Bool := r.retries ≤ 3 && 1 ≤ r.severity && r.severity ≤ 3

/-- The ranges of spec/03 R60. -/
def LineRecord.inRange (r : LineRecord) : Bool := 1 ≤ r.index && r.index ≤ 12

/-- A coordinate in the range of spec/00 Conventions. -/
def coordinateOk (x : Mm) : Bool := Config.coordinateMin ≤ x && x ≤ Config.coordinateMax

/-- A sensor position: absent, or a platform coordinate (spec/09 R162). -/
def positionOk : Option Mm → Bool
  | none => true
  | some x => coordinateOk x

/-- The ranges of spec/09 R162. -/
def Platform.inRange (p : Platform) : Bool :=
  50 ≤ p.stopTolerance && p.stopTolerance ≤ 1000 && p.stopTolerance ≤ p.extendedWindow && p.extendedWindow ≤ 2000
    && 50 ≤ p.agreementMargin && p.agreementMargin ≤ 1000 && p.positions.toList.all positionOk
    && p.warningPeriod ≤ 5000 && 200 ≤ p.reopenPause && p.reopenPause ≤ 5000
    && 1 ≤ p.recloseAttempts && p.recloseAttempts ≤ 5 && 2000 ≤ p.curtainHold && p.curtainHold ≤ 30000
    && 500 ≤ p.gapScanPeriod && p.gapScanPeriod ≤ 5000 && 5 ≤ p.stuckPeriod && p.stuckPeriod ≤ 300
    && (p.supervisionPeriod == 0 || (200 ≤ p.supervisionPeriod && p.supervisionPeriod ≤ 5000))
    && p.overstayMargin ≤ 120

end Sys2Proof.Machine
end

