-- ==== Sys2Proof/Machine/State.lean ====
section
/-! DEFINITION. The state of the UP24 as plain data: every field, record, timer, buffer and output pin that spec/01 to
spec/11 give the part, the queue of waiting commands, and State.reset. INVENTORY.md lists each field with its rule. -/

namespace Sys2Proof.Machine

/-- A running timer: the limit it started with and how long it has run, in ms (spec/01 R6). -/
structure Timer where
  limit : Nat
  elapsed : Nat
  deriving DecidableEq, Repr

/-- Phases of a bay, in the order of spec/11 R181. -/
inductive Phase
  | closedLocked | unlocking | opening | opened | warning | closing | reopening | closedUnlocked | stopped | released
  | isolated | faulted | notFitted
  deriving DecidableEq, Repr

/-- The movement a bay is carrying out (spec/01 R3): NONE, OPEN, CLOSE. -/
inductive Movement
  | none | opens | closes
  deriving DecidableEq, Repr

/-- Presence states (spec/03 R70). -/
inductive Presence
  | clear | passing | blocking | trapped | stuck
  deriving DecidableEq, Repr

/-- Train states (spec/02 R28). -/
inductive TrainState
  | empty | announced | berthed | enabled | closing | departing
  deriving DecidableEq, Repr

/-- Alignment results (spec/02 R28). -/
inductive Alignment
  | none | aligned | offset | misaligned | disagree | stale
  deriving DecidableEq, Repr

/-- Which way a unit stands (spec/02 R28). -/
inductive Orientation
  | aEndToDatum | bEndToDatum
  deriving DecidableEq, Repr

/-- Gap results (spec/03 R76). -/
inductive GapResult
  | none | pending | scanning | clear | occupied
  deriving DecidableEq, Repr

/-- The platform secure value (spec/04 R80). -/
inductive SecureValue
  | notSecure | secure | bypassed
  deriving DecidableEq, Repr

/-- Supervision states (spec/06 R117). -/
inductive SupervisionState
  | disarmed | armed | expired
  deriving DecidableEq, Repr

/-- Part modes (spec/08 R145). -/
inductive Mode
  | starting | service | maintenance | halted
  deriving DecidableEq, Repr

/-- Restart causes (spec/08 R146). -/
inductive RestartCause
  | powerOn | resetLine | request
  deriving DecidableEq, Repr

/-- Fault codes that are raised (spec/07 R128). -/
inductive FaultCode
  | unlockTimeout | openTimeout | closeTimeout | lockTimeout | recloseExhausted | proofConflict | lockLost | driveFault
  | sensorStuck | isolatedUnlocked | leafForced
  | trainMoved | linkExpired | storeFailed | storeInvalid | fieldSupplyLost
  deriving DecidableEq, Repr

/-- The halt cause (spec/08 R145). -/
inductive HaltCause
  | none
  | request
  | fault (c : FaultCode)
  deriving DecidableEq, Repr

/-- States of a fault frame (spec/07 R136). -/
inductive FrameState
  | empty | active | advised | cleared
  deriving DecidableEq, Repr

/-- What set the fire latch (spec/05 R104). -/
inductive FireSource
  | fireInput | panelOpen | station
  deriving DecidableEq, Repr

/-- Kinds of release record (spec/05 R96). -/
inductive ReleaseKind
  | key | pushBar | staffDoor | fireUnlock | fireLatch
  deriving DecidableEq, Repr

/-- Store states (spec/09 R157). -/
inductive StoreState
  | valid | committing | suspended | invalid
  deriving DecidableEq, Repr

/-- Event classes (spec/10 R177). -/
inductive EventClass
  | safety | fault | train | bay | sensing | link | store | dwell
  deriving DecidableEq, Repr

/-- Event kinds, class by class in the order of spec/11 R181. -/
inductive EventKind
  | secureChanged | fireLatched | fireCleared | fireResetIgnored | releaseOpened | releaseRestored
  | releaseRecordDropped | bypassChanged | gapOccupied | gapCleared
  | faultTaken | faultRetry | faultEscalated | faultCleared | modeChanged
  | announced | berthed | mapFormed | mapClosing | departed | trainCleared | announceCancelled | alignmentStale
  | phaseChanged | reopened | closeForced
  | lineChanged | presenceChanged
  | supervisionExpired | supervisionResumed | authorityRefused
  | commitDone | commitSuspended | commitResumed
  | dwellDue | dwellOverstay | dwellExtended
  deriving DecidableEq, Repr

/-- Result codes (spec/10, 10.2). -/
inductive Result
  | done | partly | refused | malformed | unknown | range | mode | wrongLink | sequence | emptyMap | notAligned
  | notSecure | emergency | expired | busy | guarded | conflict | key | noProfile
  deriving DecidableEq, Repr

/-- Per-bay reasons (spec/10, 10.2). -/
inductive Reason
  | absent | wrongKind | phase | inMap | held | emergency | faulted | released | isolated
  deriving DecidableEq, Repr

/-- An input line with its filter (spec/03 R56, R57): the raw level at the connector (true is high), the filtered
level, and the hold of a candidate level. A candidate is always the level opposite to the filtered one. -/
structure Line where
  raw : Bool
  level : Bool
  candidate : Option Timer
  deriving DecidableEq, Repr

/-- The eight input lines of a bay (spec/01 R4). -/
structure BayLines where
  closed : Line
  locked : Line
  fullyOpen : Line
  obstructed : Line
  driveFault : Line
  gap : Line
  curtain : Line
  releaseKey : Line
  deriving DecidableEq, Repr

/-- The fields of a fault frame that is not EMPTY (spec/07 R136). Phase and movement are absent in the platform frame. -/
structure FrameInfo where
  code : FaultCode
  phase : Option Phase
  movement : Option Movement
  time : Uptime
  detail : Word16
  count : Nat
  retriesUsed : Nat
  later : Option FaultCode
  deriving DecidableEq, Repr

/-- A fault frame (spec/07 R136): every field other than the state is absent in an EMPTY frame. -/
structure Frame where
  state : FrameState
  info : Option FrameInfo
  deriving DecidableEq, Repr

/-- The runtime part of a bay entry (spec/01 R3), its timers (R6), stuck watch (spec/03 R73), lines and fault frame. -/
structure Bay where
  phase : Phase
  pausing : Bool
  forced : Bool
  movement : Movement
  retry : Nat
  reclose : Nat
  hold : Bool
  trace : Bool
  presence : Presence
  timer : Option Timer
  cap : Option Timer
  gapStuck : Bool
  curtainStuck : Bool
  gapStuckTimer : Option Timer
  curtainStuckTimer : Option Timer
  lines : BayLines
  frame : Frame
  deriving DecidableEq, Repr

/-- The volatile part of a general line entry (spec/03 R60). -/
structure GeneralLine where
  line : Line
  changeLatch : Bool
  outputLatch : Bool
  deriving DecidableEq, Repr

/-- One unit of a train (spec/02 R28). -/
structure TrainUnit where
  consist : Nat
  orientation : Orientation
  deriving DecidableEq, Repr

/-- A bay of the aligned set with its matched doorway and overlap (spec/02 R36). -/
structure AlignedBay where
  bay : BayIx
  unitNo : Nat
  doorway : Nat
  overlap : Nat
  deriving DecidableEq, Repr

/-- The train record (spec/02 R28). Dwell limit in s, elapsed in ms. -/
structure Train where
  state : TrainState
  units : List TrainUnit
  target : Option Mm
  measured : Option Mm
  stopError : Option Mm
  alignment : Alignment
  checked : Bool
  aligned : List AlignedBay
  map : List BayIx
  dwellLimit : Nat
  dwellElapsed : Nat
  due : Bool
  overstay : Bool
  deriving DecidableEq, Repr

/-- The gap result with its scan timer (spec/03 R76, R77). -/
structure GapScan where
  result : GapResult
  timer : Option Timer
  deriving DecidableEq, Repr

/-- The withheld conditions (spec/04 R80, R81). -/
structure Withheld where
  mode : Bool
  fire : Bool
  link : Bool
  bays : Bool
  fault : Bool
  gap : Bool
  deriving DecidableEq, Repr

/-- The proof unit (spec/04 R80). The holding bay is none for 0. -/
structure Proof where
  value : SecureValue
  keyLevel : Bool
  withheld : Withheld
  holding : Option BayIx
  deriving DecidableEq, Repr

/-- A release record (spec/05 R96). -/
structure ReleaseRecord where
  number : Nat
  kind : ReleaseKind
  bay : Option BayIx
  source : Option FireSource
  opened : Uptime
  restored : Option Uptime
  acked : Bool
  deriving DecidableEq, Repr

/-- The release unit (spec/05 R96, R97, R104, R114). The latch is set when it holds a source. -/
structure Release where
  latch : Option FireSource
  log : List ReleaseRecord
  nextNumber : Nat
  alarm : Bool
  deriving DecidableEq, Repr

/-- The supervision unit (spec/06 R117). -/
structure Supervision where
  state : SupervisionState
  timer : Option Timer
  expiredAt : Option Uptime
  deriving DecidableEq, Repr

/-- The stored copy (spec/09 R158, R159): its records, the completion mark, whether it is in the 93-record numbering,
and for each record, counted as in that numbering, whether it passes its check value. -/
structure StoredCopy where
  records : Records
  completion : Bool
  full : Bool
  sound : Vector Bool 93
  deriving DecidableEq, Repr

/-- The one-time area (spec/09 R169): the geometry mark, the bay records, and whether the area passes its check value. -/
structure GeometryArea where
  mark : Bool
  bays : Vector BayRecord 24
  sound : Bool
  deriving DecidableEq, Repr

/-- The store unit (spec/09 R157). -/
structure Store where
  state : StoreState
  dirty : Bool
  written : Nat
  total : Nat
  frozen : Bool
  working : Records
  stored : StoredCopy
  area : GeometryArea
  deriving DecidableEq, Repr

/-- Mode control (spec/08 R145, R156). restartAccepted: a RESTART has been accepted and its reply is not yet sent. -/
structure ModeControl where
  mode : Mode
  restartCause : RestartCause
  haltCause : HaltCause
  preparation : Bool
  restartAccepted : Bool
  deriving DecidableEq, Repr

/-- The supply and the reset line (spec/08 R146). supplyReturned and resetSeen are since loading last began. -/
structure Power where
  supplyInRange : Bool
  resetAsserted : Bool
  supplyReturned : Bool
  resetSeen : Bool
  deriving DecidableEq, Repr

/-- The receive buffer of a link (spec/10 R170). -/
inductive Buffer
  | hunting
  | synced
  | awaiting (length : Byte) (bytes : List Byte)
  deriving DecidableEq, Repr

/-- A reply that is owed (spec/10 R172, R174): its kind, the result code, the head block, the content, and whether
it carries the OVERRUN flag set. -/
structure Reply where
  kind : Byte
  result : Result
  block : List Byte
  content : List Byte
  showsOverrun : Bool
  deriving DecidableEq, Repr

/-- One link of the link unit (spec/10 R170, R173). -/
structure Port where
  buffer : Buffer
  sinceByte : Nat
  reply : Option Reply
  overrun : Bool
  discarded : Bool
  deriving DecidableEq, Repr

/-- An event record (spec/10 R177). The bay is none for 0. -/
structure EventRecord where
  time : Uptime
  kind : EventKind
  bay : Option BayIx
  value : Word16
  deriving DecidableEq, Repr

/-- The event queue, EVENTS_LOST, the attention mask (bit n enables the class of code n) and the AUTHORITY flag
(spec/10 R177 to R180, spec/08 R155). -/
structure EventUnit where
  queue : List EventRecord
  lost : Bool
  mask : Byte
  authority : Bool
  deriving DecidableEq, Repr

/-- The four outputs of a bay (spec/01 R5). -/
structure BayOutputs where
  unlock : Bool
  driveOpen : Bool
  driveClose : Bool
  warning : Bool
  deriving DecidableEq, Repr

/-- The pins the part drives: bay outputs (spec/01 R5), general lines as raw levels or undriven (spec/03 R66), and
ATTN (spec/10 R180). -/
structure Pins where
  bays : Vector BayOutputs 24
  lines : Vector (Option Bool) 24
  attn : Bool
  deriving DecidableEq, Repr

/-- The state of the UP24. The last three fields are the model's own (log 5, 28): an event that never ends is under
way; a counter for free values; the commands that wait, first in, first out. -/
structure State where
  power : Power
  uptime : Uptime
  mode : ModeControl
  bays : Vector Bay 24
  lines : Vector GeneralLine 24
  gap : GapScan
  train : Train
  proof : Proof
  release : Release
  supervision : Supervision
  platformFrame : Frame
  store : Store
  station : Port
  signalling : Port
  events : EventUnit
  pins : Pins
  stalled : Bool
  freeCount : Nat
  pending : List Instr
  deriving DecidableEq, Repr

/-- Why a step stops with a fault: never. Every command of spec/opcode_table.json has an effect in every state, and
the spec's own faults (spec/07) are state. The type has no constructor; this is safe. -/
inductive Fault
  deriving DecidableEq, Repr

/-- Why a command is refused. -/
inductive Refusal
  /-- Raised by an arm of exec whose command has no meaning yet: no arm does. Safe. -/
  | notModelled (mnemonic : String)
  deriving DecidableEq, Repr

/-- An input line at rest: low, inactive (log 4). -/
def Line.reset : Line := { raw := false, level := false, candidate := none }

/-- The eight input lines of a bay at rest (log 4). -/
def BayLines.reset : BayLines :=
  { closed := .reset, locked := .reset, fullyOpen := .reset, obstructed := .reset, driveFault := .reset
    gap := .reset, curtain := .reset, releaseKey := .reset }

/-- An EMPTY frame (spec/07 R127). -/
def Frame.reset : Frame := { state := .empty, info := none }

/-- The restart values of a bay's runtime part (spec/01 R24); the phase is derived when loading ends. -/
def Bay.reset : Bay :=
  { phase := .notFitted, pausing := false, forced := false, movement := .none, retry := 0, reclose := 0
    hold := true, trace := false, presence := .clear, timer := none, cap := none, gapStuck := false
    curtainStuck := false, gapStuckTimer := none, curtainStuckTimer := none, lines := .reset, frame := .reset }

/-- The restart values of a general line (spec/03 R60). -/
def GeneralLine.reset : GeneralLine := { line := .reset, changeLatch := false, outputLatch := false }

/-- The values of the train record after a restart, after CANCEL and at the return to EMPTY (spec/02 R28). -/
def Train.reset : Train :=
  { state := .empty, units := [], target := none, measured := none, stopError := none, alignment := .none
    checked := false, aligned := [], map := [], dwellLimit := 0, dwellElapsed := 0, due := false, overstay := false }

/-- During STARTING (spec/04 R80): NOT_SECURE, key inactive, MODE withheld, no holding bay. -/
def Proof.reset : Proof :=
  { value := .notSecure, keyLevel := false
    withheld := { mode := true, fire := false, link := false, bays := false, fault := false, gap := false }
    holding := none }

/-- spec/05 R96, R97, R113. -/
def Release.reset : Release := { latch := none, log := [], nextNumber := 1, alarm := false }

/-- spec/06 R117. -/
def Supervision.reset : Supervision := { state := .disarmed, timer := none, expiredAt := none }

/-- The stored copy a module leaves the factory with (spec/09 R158). -/
def StoredCopy.factory : StoredCopy :=
  { records := Records.defaults, completion := true, full := true, sound := Vector.replicate 93 true }

/-- The one-time area of a new module: unmarked (spec/09 R158), with default bay records and a sound check (log 41, the
model's choice). -/
def GeometryArea.factory : GeometryArea :=
  { mark := false, bays := Vector.replicate 24 BayRecord.defaults, sound := true }

/-- The store of a new module: VALID, its working copy loaded from the factory copy (spec/09 R157 to R159). -/
def Store.reset : Store :=
  { state := .valid, dirty := false, written := 0, total := 93, frozen := false, working := Records.defaults
    stored := .factory, area := .factory }

/-- spec/08 R145, at a restart with cause POWER_ON. -/
def ModeControl.reset : ModeControl :=
  { mode := .starting, restartCause := .powerOn, haltCause := .none, preparation := false, restartAccepted := false }

/-- spec/10 R170, R173: empty and hunting, nothing owed, OVERRUN clear. A reply that was still owed when the restart began is
dropped unsent (log 47, the model's choice). -/
def Port.reset : Port := { buffer := .hunting, sinceByte := 0, reply := none, overrun := false, discarded := false }

/-- spec/10 R177, R180, spec/08 R155: queue empty, every class enabled except BAY (bit 3), AUTHORITY clear. -/
def EventUnit.reset : EventUnit := { queue := [], lost := false, mask := 0xF7#8, authority := false }

/-- De-energised bay outputs. -/
def BayOutputs.off : BayOutputs := { unlock := false, driveOpen := false, driveClose := false, warning := false }

/-- spec/03 R66, spec/10 R180: during STARTING nothing is driven and ATTN is not asserted. -/
def Pins.off : Pins :=
  { bays := Vector.replicate 24 .off, lines := Vector.replicate 24 none, attn := false }

/-- The part right after power-on: the supply is in range, RESET_N is not asserted, and a restart with cause POWER_ON
has begun on a new module (spec/08 R146, spec/09 R158). Levels of the input lines: log 4. -/
def State.reset : State :=
  { power := { supplyInRange := true, resetAsserted := false, supplyReturned := false, resetSeen := false }
    uptime := 0, mode := .reset, bays := Vector.replicate 24 .reset, lines := Vector.replicate 24 .reset
    gap := { result := .none, timer := none }, train := .reset, proof := .reset, release := .reset
    supervision := .reset, platformFrame := .reset, store := .reset, station := .reset, signalling := .reset
    events := .reset, pins := .off, stalled := false, freeCount := 0, pending := [] }

end Sys2Proof.Machine
end

