-- ==== Sys2Proof/Machine/Codes.lean ====
section
/-! DEFINITION. The codes of enumerated fields (spec/11 R181), of result codes and reasons (spec/10, 10.2) and of
request kinds (spec/10, 10.3). -/

namespace Sys2Proof.Machine

/-- A flag byte's value (spec/11 R181): 0 clear, 1 set. -/
def flagCode (b : Bool) : Nat := if b then 1 else 0

/-- spec/11 R181, bay kind. -/
def BayKind.code : BayKind → Nat
  | .absent => 0 | .sliding => 1 | .escape => 2 | .endDoor => 3

/-- spec/11 R181, bay kind. -/
def BayKind.ofCode : Nat → Option BayKind
  | 0 => some .absent | 1 => some .sliding | 2 => some .escape | 3 => some .endDoor | _ => none

/-- spec/11 R181, phase. -/
def Phase.code : Phase → Nat
  | .closedLocked => 0 | .unlocking => 1 | .opening => 2 | .opened => 3 | .warning => 4 | .closing => 5
  | .reopening => 6 | .closedUnlocked => 7 | .stopped => 8 | .released => 9 | .isolated => 10 | .faulted => 11
  | .notFitted => 12

/-- spec/11 R181, movement. -/
def Movement.code : Movement → Nat
  | .none => 0 | .opens => 1 | .closes => 2

/-- spec/11 R181, presence state. -/
def Presence.code : Presence → Nat
  | .clear => 0 | .passing => 1 | .blocking => 2 | .trapped => 3 | .stuck => 4

/-- spec/11 R181, link-loss action. -/
def LinkLoss.code : LinkLoss → Nat
  | .stand => 0 | .close => 1

/-- spec/11 R181, link-loss action. -/
def LinkLoss.ofCode : Nat → Option LinkLoss
  | 0 => some .stand | 1 => some .close | _ => none

/-- spec/11 R181, filter class. -/
def FilterClass.code : FilterClass → Nat
  | .none => 0 | .short => 1 | .medium => 2 | .long => 3

/-- spec/11 R181, filter class. -/
def FilterClass.ofCode : Nat → Option FilterClass
  | 0 => some .none | 1 => some .short | 2 => some .medium | 3 => some .long | _ => none

/-- spec/11 R181, orientation. -/
def Orientation.code : Orientation → Nat
  | .aEndToDatum => 0 | .bEndToDatum => 1

/-- spec/11 R181, orientation. -/
def Orientation.ofCode : Nat → Option Orientation
  | 0 => some .aEndToDatum | 1 => some .bEndToDatum | _ => none

/-- spec/11 R181, train state. -/
def TrainState.code : TrainState → Nat
  | .empty => 0 | .announced => 1 | .berthed => 2 | .enabled => 3 | .closing => 4 | .departing => 5

/-- spec/11 R181, alignment result. -/
def Alignment.code : Alignment → Nat
  | .none => 0 | .aligned => 1 | .offset => 2 | .misaligned => 3 | .disagree => 4 | .stale => 5

/-- spec/11 R181, secure value. -/
def SecureValue.code : SecureValue → Nat
  | .notSecure => 0 | .secure => 1 | .bypassed => 2

/-- spec/11 R181, supervision state. -/
def SupervisionState.code : SupervisionState → Nat
  | .disarmed => 0 | .armed => 1 | .expired => 2

/-- spec/11 R181, mode. -/
def Mode.code : Mode → Nat
  | .starting => 0 | .service => 1 | .maintenance => 2 | .halted => 3

/-- spec/11 R181, restart cause. -/
def RestartCause.code : RestartCause → Nat
  | .powerOn => 0 | .resetLine => 1 | .request => 2

/-- spec/11 R181, gap result. -/
def GapResult.code : GapResult → Nat
  | .none => 0 | .pending => 1 | .scanning => 2 | .clear => 3 | .occupied => 4

/-- spec/11 R181, store state. -/
def StoreState.code : StoreState → Nat
  | .valid => 0 | .committing => 1 | .suspended => 2 | .invalid => 3

/-- spec/11 R181, frame state. -/
def FrameState.code : FrameState → Nat
  | .empty => 0 | .active => 1 | .advised => 2 | .cleared => 3

/-- spec/11 R181, fire source; 0 while the latch is clear. -/
def fireSourceCode : Option FireSource → Nat
  | none => 0 | some .fireInput => 1 | some .panelOpen => 2 | some .station => 3

/-- spec/11 R181, release kind. -/
def ReleaseKind.code : ReleaseKind → Nat
  | .key => 0 | .pushBar => 1 | .staffDoor => 2 | .fireUnlock => 3 | .fireLatch => 4

/-- spec/11 R181, line function. -/
def LineFunction.code : LineFunction → Nat
  | .berthSensor => 0 | .fireInput => 1 | .panelOpen => 2 | .keyReset => 3 | .bypassKey => 4 | .maintenanceKey => 5
  | .fieldSupplyOk => 6 | .generalInput => 7 | .secureOut => 8 | .bypassLamp => 9 | .alarmOut => 10
  | .generalOutput => 11 | .unused => 12

/-- spec/11 R181, line function. -/
def LineFunction.ofCode : Nat → Option LineFunction
  | 0 => some .berthSensor | 1 => some .fireInput | 2 => some .panelOpen | 3 => some .keyReset | 4 => some .bypassKey
  | 5 => some .maintenanceKey | 6 => some .fieldSupplyOk | 7 => some .generalInput | 8 => some .secureOut
  | 9 => some .bypassLamp | 10 => some .alarmOut | 11 => some .generalOutput | 12 => some .unused | _ => none

/-- spec/11 R181, polarity. -/
def Polarity.code : Polarity → Nat
  | .activeHigh => 0 | .activeLow => 1

/-- spec/11 R181, polarity. -/
def Polarity.ofCode : Nat → Option Polarity
  | 0 => some .activeHigh | 1 => some .activeLow | _ => none

/-- spec/11 R181, response action. -/
def ResponseAction.code : ResponseAction → Nat
  | .faultBay => 0 | .advise => 1

/-- spec/11 R181, response action. -/
def ResponseAction.ofCode : Nat → Option ResponseAction
  | 0 => some .faultBay | 1 => some .advise | _ => none

/-- spec/11 R181, platform effect. -/
def PlatformEffect.code : PlatformEffect → Nat
  | .none => 0 | .closeMap => 1 | .halt => 2

/-- spec/11 R181, platform effect. -/
def PlatformEffect.ofCode : Nat → Option PlatformEffect
  | 0 => some .none | 1 => some .closeMap | 2 => some .halt | _ => none

/-- A received flag byte (spec/11 R181): a value other than 0 or 1 is outside its range. -/
def flagOfCode : Nat → Option Bool
  | 0 => some false | 1 => some true | _ => none

/-- The number of a fault code (spec/07 R128). -/
def FaultCode.number : FaultCode → Nat
  | .unlockTimeout => 1 | .openTimeout => 2 | .closeTimeout => 3 | .lockTimeout => 4 | .recloseExhausted => 5
  | .proofConflict => 6 | .lockLost => 7 | .driveFault => 8 | .sensorStuck => 9 | .isolatedUnlocked => 10
  | .leafForced => 11 | .trainMoved => 16 | .linkExpired => 17 | .storeFailed => 18 | .storeInvalid => 19
  | .fieldSupplyLost => 20

/-- The halt cause byte (spec/11 R181): 0 NONE, the code, or 0xFF for REQUEST. -/
def HaltCause.code : HaltCause → Nat
  | .none => 0 | .request => 0xFF | .fault c => c.number

/-- The class of an event kind (spec/10, 10.4). -/
def EventKind.cls : EventKind → EventClass
  | .secureChanged | .fireLatched | .fireCleared | .fireResetIgnored | .releaseOpened | .releaseRestored
  | .releaseRecordDropped | .bypassChanged | .gapOccupied | .gapCleared => .safety
  | .faultTaken | .faultRetry | .faultEscalated | .faultCleared | .modeChanged => .fault
  | .announced | .berthed | .mapFormed | .mapClosing | .departed | .trainCleared | .announceCancelled
  | .alignmentStale => .train
  | .phaseChanged | .reopened | .closeForced => .bay
  | .lineChanged | .presenceChanged => .sensing
  | .supervisionExpired | .supervisionResumed | .authorityRefused => .link
  | .commitDone | .commitSuspended | .commitResumed => .store
  | .dwellDue | .dwellOverstay | .dwellExtended => .dwell

/-- spec/11 R181, event class. -/
def EventClass.code : EventClass → Nat
  | .safety => 0 | .fault => 1 | .train => 2 | .bay => 3 | .sensing => 4 | .link => 5 | .store => 6 | .dwell => 7

/-- The position of a kind in its class list (spec/11 R181). -/
def EventKind.position : EventKind → Nat
  | .secureChanged => 0 | .fireLatched => 1 | .fireCleared => 2 | .fireResetIgnored => 3 | .releaseOpened => 4
  | .releaseRestored => 5 | .releaseRecordDropped => 6 | .bypassChanged => 7 | .gapOccupied => 8 | .gapCleared => 9
  | .faultTaken => 0 | .faultRetry => 1 | .faultEscalated => 2 | .faultCleared => 3 | .modeChanged => 4
  | .announced => 0 | .berthed => 1 | .mapFormed => 2 | .mapClosing => 3 | .departed => 4 | .trainCleared => 5
  | .announceCancelled => 6 | .alignmentStale => 7
  | .phaseChanged => 0 | .reopened => 1 | .closeForced => 2
  | .lineChanged => 0 | .presenceChanged => 1
  | .supervisionExpired => 0 | .supervisionResumed => 1 | .authorityRefused => 2
  | .commitDone => 0 | .commitSuspended => 1 | .commitResumed => 2
  | .dwellDue => 0 | .dwellOverstay => 1 | .dwellExtended => 2

/-- The kind byte of an event record (spec/11 R181): class in the high four bits, position in the low four. -/
def EventKind.code (k : EventKind) : Nat := k.cls.code * 16 + k.position

/-- Result codes (spec/10, 10.2). -/
def Result.code : Result → Byte
  | .done => 0x00 | .partly => 0x01 | .refused => 0x02 | .malformed => 0x10 | .unknown => 0x11 | .range => 0x12
  | .mode => 0x13 | .wrongLink => 0x14 | .sequence => 0x15 | .emptyMap => 0x16 | .notAligned => 0x17
  | .notSecure => 0x18 | .emergency => 0x19 | .expired => 0x1A | .busy => 0x1B | .guarded => 0x1C | .conflict => 0x1D
  | .key => 0x1E | .noProfile => 0x1F

/-- Per-bay reasons, from 1 (spec/11 R181). -/
def Reason.code : Reason → Nat
  | .absent => 1 | .wrongKind => 2 | .phase => 3 | .inMap => 4 | .held => 5 | .emergency => 6 | .faulted => 7
  | .released => 8 | .isolated => 9

/-- MODE, WRONG_LINK, KEY and GUARD are authority refusals (spec/08 R155). -/
def Result.isAuthority : Result → Bool
  | .mode | .wrongLink | .key | .guarded => true
  | .done | .partly | .refused | .malformed | .unknown | .range | .sequence | .emptyMap | .notAligned | .notSecure
  | .emergency | .expired | .busy | .conflict | .noProfile => false

/-- The actions of BAY_COMMAND, in code order (spec/11 R181). -/
inductive BayAction
  | opens | closes | stop | hold | free | isolate | restore | clearFault
  deriving DecidableEq, Repr

/-- spec/11 R181, BAY_COMMAND action. -/
def BayAction.code : BayAction → Nat
  | .opens => 0 | .closes => 1 | .stop => 2 | .hold => 3 | .free => 4 | .isolate => 5 | .restore => 6
  | .clearFault => 7

/-- spec/11 R181, BAY_COMMAND action. -/
def BayAction.ofCode : Nat → Option BayAction
  | 0 => some .opens | 1 => some .closes | 2 => some .stop | 3 => some .hold | 4 => some .free | 5 => some .isolate
  | 6 => some .restore | 7 => some .clearFault | _ => none

/-- The request kinds of the catalogue (spec/10, 10.3). -/
inductive RequestKind
  | readStatus | readBays | readTrain | readMap | readFault | readReleases | readLines | readConfig | takeEvents
  | setAttention | setTrace | bayCommand | ackRelease | emergencyOpen | extendDwell | setOutput
  | enterMaintenance | leaveMaintenance | halt | prepareRestart | restart
  | writeBay | writeProfile | eraseProfile | writeResponse | writeLine | writePlatform | commit | freezeConfig
  | fixGeometry
  | poll | announce | cancel | berth | openMap | closeMap | depart | resume
  deriving DecidableEq, Repr

/-- The kind byte of a request (spec/10, 10.3). -/
def RequestKind.code : RequestKind → Byte
  | .readStatus => 0x01 | .readBays => 0x02 | .readTrain => 0x03 | .readMap => 0x04 | .readFault => 0x05
  | .readReleases => 0x06 | .readLines => 0x07 | .readConfig => 0x08 | .takeEvents => 0x09 | .setAttention => 0x0A
  | .setTrace => 0x0B | .bayCommand => 0x10 | .ackRelease => 0x11 | .emergencyOpen => 0x12 | .extendDwell => 0x13
  | .setOutput => 0x14 | .enterMaintenance => 0x18 | .leaveMaintenance => 0x19 | .halt => 0x1A
  | .prepareRestart => 0x1B | .restart => 0x1C | .writeBay => 0x20 | .writeProfile => 0x21 | .eraseProfile => 0x22
  | .writeResponse => 0x23 | .writeLine => 0x24 | .writePlatform => 0x25 | .commit => 0x26 | .freezeConfig => 0x27
  | .fixGeometry => 0x28 | .poll => 0x40 | .announce => 0x41 | .cancel => 0x42 | .berth => 0x43 | .openMap => 0x44
  | .closeMap => 0x45 | .depart => 0x46 | .resume => 0x47

/-- The request a kind byte names, if one of the two links has it (spec/10, 10.3). -/
def RequestKind.ofCode (k : Byte) : Option RequestKind :=
  match k.toNat with
  | 0x01 => some .readStatus | 0x02 => some .readBays | 0x03 => some .readTrain | 0x04 => some .readMap
  | 0x05 => some .readFault | 0x06 => some .readReleases | 0x07 => some .readLines | 0x08 => some .readConfig
  | 0x09 => some .takeEvents | 0x0A => some .setAttention | 0x0B => some .setTrace | 0x10 => some .bayCommand
  | 0x11 => some .ackRelease | 0x12 => some .emergencyOpen | 0x13 => some .extendDwell | 0x14 => some .setOutput
  | 0x18 => some .enterMaintenance | 0x19 => some .leaveMaintenance | 0x1A => some .halt
  | 0x1B => some .prepareRestart | 0x1C => some .restart | 0x20 => some .writeBay | 0x21 => some .writeProfile
  | 0x22 => some .eraseProfile | 0x23 => some .writeResponse | 0x24 => some .writeLine | 0x25 => some .writePlatform
  | 0x26 => some .commit | 0x27 => some .freezeConfig | 0x28 => some .fixGeometry | 0x40 => some .poll
  | 0x41 => some .announce | 0x42 => some .cancel | 0x43 => some .berth | 0x44 => some .openMap
  | 0x45 => some .closeMap | 0x46 => some .depart | 0x47 => some .resume | _ => none

/-- The link a request kind belongs to (spec/08 R153). -/
def RequestKind.link : RequestKind → Link
  | .poll | .announce | .cancel | .berth | .openMap | .closeMap | .depart | .resume => .signalling
  | .readStatus | .readBays | .readTrain | .readMap | .readFault | .readReleases | .readLines | .readConfig
  | .takeEvents | .setAttention | .setTrace | .bayCommand | .ackRelease | .emergencyOpen | .extendDwell | .setOutput
  | .enterMaintenance | .leaveMaintenance | .halt | .prepareRestart | .restart | .writeBay | .writeProfile
  | .eraseProfile | .writeResponse | .writeLine | .writePlatform | .commit | .freezeConfig | .fixGeometry => .station

/-- The code of a link in AUTHORITY_REFUSED (spec/08 R155). -/
def linkCode : Link → Nat
  | .station => 1 | .signalling => 2

end Sys2Proof.Machine
end

