-- ==== Sys2Proof/Machine/Ops.lean ====
section
/-! DEFINITION. The named operations over the state: one accessor and one update for each part, timers, the event queue
and the fault response table. Every meaning reads and writes the state through these. -/

namespace Sys2Proof.Machine

/-! ### Bays, lines and records -/

/-- The 24 bays in increasing bay number. -/
def allBays : List BayIx := List.finRange 24

/-- The 24 general lines in increasing line number. -/
def allLines : List LineIx := List.finRange 24

/-- The number of a bay, 1 to 24 (spec/00 Conventions). -/
def bayNumber (b : BayIx) : Nat := b.val + 1

/-- The number of a bay, or 0 for none. -/
def bayField : Option BayIx → Nat
  | none => 0
  | some b => bayNumber b

/-- The runtime part of a bay (spec/01 R3). -/
def State.bay (s : State) (b : BayIx) : Bay := s.bays[b.val]

/-- Replaces the runtime part of a bay. -/
def State.setBay (s : State) (b : BayIx) (x : Bay) : State := { s with bays := s.bays.set b.val x b.isLt }

/-- The volatile part of a general line (spec/03 R60). -/
def State.line (s : State) (n : LineIx) : GeneralLine := s.lines[n.val]

/-- Replaces the volatile part of a general line. -/
def State.setLine (s : State) (n : LineIx) (x : GeneralLine) : State := { s with lines := s.lines.set n.val x n.isLt }

/-- The configuration part of a bay in the working copy (spec/01 R1). -/
def State.bayRecord (s : State) (b : BayIx) : BayRecord := s.store.working.bays[b.val]

/-- The line record of a general line in the working copy (spec/03 R60). -/
def State.lineRecord (s : State) (n : LineIx) : LineRecord := s.store.working.lines[n.val]

/-- The platform settings in the working copy (spec/09 R162). -/
def State.platform (s : State) : Platform := s.store.working.platform

/-- The kind of a bay (spec/01 R1). -/
def State.kind (s : State) (b : BayIx) : BayKind := (s.bayRecord b).kind

/-- Whether a bay is SLIDING. -/
def State.sliding (s : State) (b : BayIx) : Bool := s.kind b == .sliding

/-- Whether a bay is fitted (spec/00 Terms): of a kind other than ABSENT. -/
def State.fitted (s : State) (b : BayIx) : Bool := s.kind b != .absent

/-- Whether a bay is in the opening map (spec/01 R3, map member). -/
def State.isMember (s : State) (b : BayIx) : Bool := s.train.map.contains b

/-- The aligned entry of a bay: its matched unit, matched doorway and overlap (spec/01 R3). -/
def State.matched (s : State) (b : BayIx) : Option AlignedBay := s.train.aligned.find? (fun a => a.bay == b)

/-- The code numbers fit the table. -/
theorem FaultCode.number_lt (c : FaultCode) : c.number < 32 := by cases c <;> decide

/-- The response table entry of a code (spec/07 R129). -/
def State.response (s : State) (c : FaultCode) : Response := s.store.working.responses[c.number]'c.number_lt

/-- The bay input that a name stands for (spec/01 R4). -/
def BayLines.get (l : BayLines) : BayInput → Line
  | .closed => l.closed
  | .locked => l.locked
  | .fullyOpen => l.fullyOpen
  | .obstructed => l.obstructed
  | .driveFault => l.driveFault
  | .gap => l.gap
  | .curtain => l.curtain
  | .releaseKey => l.releaseKey

/-- Replaces one input line of a bay. -/
def BayLines.put (l : BayLines) (x : Line) : BayInput → BayLines
  | .closed => { l with closed := x }
  | .locked => { l with locked := x }
  | .fullyOpen => { l with fullyOpen := x }
  | .obstructed => { l with obstructed := x }
  | .driveFault => { l with driveFault := x }
  | .gap => { l with gap := x }
  | .curtain => { l with curtain := x }
  | .releaseKey => { l with releaseKey := x }

/-- The filtered level of a bay input (spec/00 Conventions, Filtered levels). -/
def Bay.input (b : Bay) (i : BayInput) : Bool := (b.lines.get i).level

/-- The input line that a command names. -/
def State.inputLine (s : State) : InputLine → Line
  | .bay b i => (s.bay b).lines.get i
  | .general n => (s.line n).line

/-- Replaces the input line that a command names. -/
def State.setInputLine (s : State) (l : InputLine) (x : Line) : State :=
  match l with
  | .bay b i => s.setBay b { s.bay b with lines := (s.bay b).lines.put x i }
  | .general n => s.setLine n { s.line n with line := x }

/-- Changes every entry of a table in one way. -/
def mapVector {α β : Type} {n : Nat} (f : α → β) (v : Vector α n) : Vector β n :=
  ⟨(v.toList.map f).toArray, by simp⟩

/-- A table given by its entries. -/
def tableOf {α : Type} {n : Nat} (f : Fin n → α) : Vector α n := ⟨((List.finRange n).map f).toArray, by simp⟩

/-! ### Links and modes -/

/-- One of the two links. -/
def State.port (s : State) : Link → Port
  | .station => s.station
  | .signalling => s.signalling

/-- Replaces one of the two links. -/
def State.setPort (s : State) (l : Link) (p : Port) : State :=
  match l with
  | .station => { s with station := p }
  | .signalling => { s with signalling := p }

/-- The part runs: the supply is in range, RESET_N is not asserted (spec/08 R146), and no endless event is under way
(log 5). -/
def State.runs (s : State) : Bool := s.power.supplyInRange && !s.power.resetAsserted && !s.stalled

/-- The part runs and STARTING is over: blocks take events (spec/08 R146). -/
def State.active (s : State) : Bool := s.runs && s.mode.mode != .starting

/-- The fire latch is set (spec/05 R104). -/
def State.fire (s : State) : Bool := s.release.latch.isSome

/-! ### Timers -/

/-- A timer started from zero. -/
def Timer.start (limit : Nat) : Timer := { limit := limit, elapsed := 0 }

/-- The same timer started again from zero with its full limit (spec/01 R11). -/
def Timer.again (t : Timer) : Timer := { t with elapsed := 0 }

/-- One more millisecond. -/
def Timer.tick (t : Timer) : Timer := { t with elapsed := t.elapsed + 1 }

/-- The limit has been reached. -/
def Timer.isDue (t : Timer) : Bool := t.limit ≤ t.elapsed

/-! ### The event queue -/

/-- Removes the first element that p holds of, if there is one. -/
def removeFirst {α : Type} (p : α → Bool) : List α → Option (List α)
  | [] => none
  | x :: xs => if p x then some xs else (removeFirst p xs).map (x :: ·)

/-- A full queue makes room for a record of a class, or does not (spec/10 R178). -/
def makeRoom (c : EventClass) (q : List EventRecord) : Option (List EventRecord) :=
  match c with
  | .safety =>
    match removeFirst (fun r => r.kind.cls != .safety && r.kind.cls != .fault) q with
    | some q' => some q'
    | none => removeFirst (fun r => r.kind.cls == .fault) q
  | .fault => removeFirst (fun r => r.kind.cls != .safety && r.kind.cls != .fault) q
  | .train | .bay | .sensing | .link | .store | .dwell => none

/-- A record joins the queue, or finds it full (spec/10 R177, R178). -/
def EventUnit.add (u : EventUnit) (r : EventRecord) : EventUnit :=
  if u.queue.length < Config.queueLimit then { u with queue := u.queue ++ [r] }
  else
    match makeRoom r.kind.cls u.queue with
    | some q => { u with queue := q ++ [r], lost := true }
    | none => { u with lost := true }

/-- Posts an event at the present uptime (spec/10 R177). -/
def State.post (s : State) (k : EventKind) (b : Option BayIx) (value : Nat) : State :=
  { s with events := s.events.add { time := s.uptime, kind := k, bay := b, value := BitVec.ofNat 16 value } }

/-- A value field with a high and a low byte. -/
def highLow (high low : Nat) : Nat := high * 256 + low

/-- ATTN is asserted while the queue holds a record of an enabled class (spec/10 R180). -/
def EventUnit.attention (u : EventUnit) : Bool := u.queue.any (fun r => u.mask.getLsbD r.kind.cls.code)

/-! ### Functions of general lines -/

/-- The line that holds a function (spec/03 R62: at most one for the functions this is asked of). -/
def State.holder (s : State) (f : LineFunction) : Option LineIx :=
  allLines.find? (fun n => (s.lineRecord n).function == f)

/-- The level of an input function (spec/03 R61): of the line that holds it, or as the last column gives. -/
def State.functionLevel (s : State) (f : LineFunction) : Bool :=
  match s.holder f with
  | some n => (s.line n).line.level
  | none => f == .fieldSupplyOk

/-- The functions a line is read for as an input (spec/03 R61); UNUSED is read and owned by no block. -/
def LineFunction.isInput : LineFunction → Bool
  | .berthSensor | .fireInput | .panelOpen | .keyReset | .bypassKey | .maintenanceKey | .fieldSupplyOk
  | .generalInput | .unused => true
  | .secureOut | .bypassLamp | .alarmOut | .generalOutput => false

/-- The logical level of a raw level under a polarity, and the raw level of a logical one (spec/03 R56). -/
def Polarity.apply (p : Polarity) (level : Bool) : Bool :=
  match p with
  | .activeHigh => level
  | .activeLow => !level

/-- The logical level of an input line (spec/03 R56). Bay inputs are active when high. -/
def State.logicalLevel (s : State) : InputLine → Bool
  | .bay b i => ((s.bay b).lines.get i).raw
  | .general n => (s.lineRecord n).polarity.apply (s.line n).line.raw

/-- The hold time of a filter class in ms (spec/03 R57). -/
def FilterClass.holdTime : FilterClass → Nat
  | .none => 0
  | .short => 4
  | .medium => 32
  | .long => 256

/-- The filter class of an input line (spec/03 R57, spec/01 R4). -/
def State.filterClass (s : State) : InputLine → FilterClass
  | .bay b .closed | .bay b .locked | .bay b .fullyOpen | .bay b .obstructed | .bay b .driveFault =>
    (s.bayRecord b).proofFilter
  | .bay b .gap | .bay b .curtain => (s.bayRecord b).sensorFilter
  | .bay b .releaseKey => (s.bayRecord b).keyFilter
  | .general n => (s.lineRecord n).filter

end Sys2Proof.Machine
end

