-- ==== Sys2Proof/Machine/Flags.lean ====
section
/-! DEFINITION. Every condition, flag and level that the rules compute from the state: phase classes and conflicts
(spec/01), outputs (spec/01 R5, spec/03 R66), presence and the scan condition (spec/03), the withheld set and the secure
value (spec/04), the alarm (spec/05 R114), the bounds of the dwell flags (spec/02 R52) and the placed sensors (R38). -/

namespace Sys2Proof.Machine

/-! ### Phases and inputs of one bay -/

/-- The moving phases (spec/01 R6). -/
def Phase.isMoving : Phase → Bool
  | .unlocking | .opening | .warning | .closing | .reopening => true
  | .closedLocked | .opened | .closedUnlocked | .stopped | .released | .isolated | .faulted | .notFitted => false

/-- The phases at whose entry movement becomes NONE (spec/01 R6), NOT_FITTED among them (R2). -/
def Phase.endsMovement : Phase → Bool
  | .opened | .closedLocked | .stopped | .released | .isolated | .faulted | .notFitted => true
  | .unlocking | .opening | .warning | .closing | .reopening | .closedUnlocked => false

/-- The first sort of proof conflict (spec/01 R16): CLOSED and FULLY_OPEN both active. -/
def BayLines.shutAndOpen (l : BayLines) : Bool := l.closed.level && l.fullyOpen.level

/-- The second sort of proof conflict (spec/01 R16): LOCKED active and CLOSED inactive. -/
def BayLines.partedBolt (l : BayLines) : Bool := l.locked.level && !l.closed.level

/-- A proof conflict stands on a SLIDING bay (spec/01 R16). -/
def BayLines.conflict (l : BayLines) : Bool := l.shutAndOpen || l.partedBolt

/-- A conflict stands on an ESCAPE or END bay (spec/01 R19). -/
def BayLines.doorConflict (l : BayLines) : Bool := l.partedBolt

/-- The CLOSED_LOCKED condition of an ESCAPE or END bay (spec/01 R19). -/
def BayLines.doorShut (l : BayLines) : Bool := l.closed.level && l.locked.level && !l.releaseKey.level

/-- The detail of PROOF_CONFLICT (spec/07 R128): 1 CLOSED with FULLY_OPEN, 2 LOCKED without CLOSED. -/
def BayLines.conflictDetail (l : BayLines) : Nat := if l.shutAndOpen then 1 else 2

/-- CLOSED and LOCKED both active. -/
def Bay.bothProofs (b : Bay) : Bool := b.lines.closed.level && b.lines.locked.level

/-- The derived phase of a fitted bay (spec/01 R23), from its filtered inputs. -/
def derivedPhase (kind : BayKind) (l : BayLines) : Phase :=
  match kind with
  | .absent => .notFitted
  | .sliding =>
    if l.releaseKey.level then .released
    else if l.conflict then .faulted
    else if l.closed.level && l.locked.level then .closedLocked
    else if l.closed.level then .closedUnlocked
    else .stopped
  | .escape | .endDoor =>
    if l.releaseKey.level then .released
    else if l.doorConflict then .faulted
    else if l.closed.level && l.locked.level then .closedLocked
    else .released

/-- A bay has an open release record, of any kind or of one kind (spec/05 R96). -/
def State.hasOpenRecord (s : State) (b : BayIx) : Bool :=
  s.release.log.any (fun r => r.bay == some b && r.restored.isNone)

/-- A bay's open release record is of a kind. -/
def State.hasOpenKind (s : State) (b : BayIx) (k : ReleaseKind) : Bool :=
  s.release.log.any (fun r => r.bay == some b && r.restored.isNone && r.kind == k)

/-! ### Outputs -/

/-- The outputs of a SLIDING bay by its phase (spec/01 R5). -/
def phaseOutputs (fireUnlocked : Bool) (b : Bay) : BayOutputs :=
  match b.phase with
  | .unlocking => { unlock := true, driveOpen := false, driveClose := false, warning := false }
  | .opening => { unlock := true, driveOpen := true, driveClose := false, warning := false }
  | .opened => { unlock := true, driveOpen := false, driveClose := false, warning := false }
  | .warning => { unlock := true, driveOpen := false, driveClose := false, warning := true }
  | .closing => { unlock := true, driveOpen := false, driveClose := true, warning := true }
  | .reopening => { unlock := true, driveOpen := !b.pausing, driveClose := false, warning := true }
  | .stopped => { unlock := !b.lines.closed.level, driveOpen := false, driveClose := false, warning := false }
  | .released => { unlock := fireUnlocked, driveOpen := false, driveClose := false, warning := false }
  | .closedLocked | .closedUnlocked | .isolated | .faulted | .notFitted => .off

/-- The outputs of a bay while the part runs (spec/01 R4, R5): those of ESCAPE, END and ABSENT positions are held
de-energised. -/
def State.bayOutputs (s : State) (b : BayIx) : BayOutputs :=
  if s.sliding b then phaseOutputs (s.hasOpenKind b .fireUnlock) (s.bay b) else .off

/-- The logical level driven on a general line, none where the line is not driven (spec/03 R66, R67). -/
def State.drivenLevel (s : State) (n : LineIx) : Option Bool :=
  match (s.lineRecord n).function with
  | .secureOut => some (s.proof.value != .notSecure)
  | .bypassLamp => some (s.proof.value == .bypassed)
  | .alarmOut => some s.release.alarm
  | .generalOutput =>
    if s.supervision.state == .expired then some (s.lineRecord n).safe else some (s.line n).outputLatch
  | .berthSensor | .fireInput | .panelOpen | .keyReset | .bypassKey | .maintenanceKey | .fieldSupplyOk
  | .generalInput | .unused => none

/-- The raw level driven on a general line (spec/03 R56). -/
def State.drivenRaw (s : State) (n : LineIx) : Option Bool :=
  (s.drivenLevel n).map (fun v => (s.lineRecord n).polarity.apply v)

/-- The pins, as functions of the rest of the state: nothing is driven and ATTN is not asserted while the part does not
run or is STARTING (spec/03 R66, spec/08 R146, spec/10 R180). -/
def State.pinsNow (s : State) : Pins :=
  if s.power.supplyInRange && !s.power.resetAsserted && s.mode.mode != .starting then
    { bays := ⟨(allBays.map s.bayOutputs).toArray, by simp [allBays]⟩
      lines := ⟨(allLines.map s.drivenRaw).toArray, by simp [allLines]⟩
      attn := s.events.attention }
  else Pins.off

/-! ### Presence and the gap scan -/

/-- The presence state of a bay (spec/03 R70): the first state of the table that applies. -/
def State.presenceNow (s : State) (b : BayIx) : Presence :=
  let x := s.bay b
  if !s.sliding b then .clear
  else if x.gapStuck || x.curtainStuck then .stuck
  else if s.isMember b && x.lines.gap.level
      && (s.gap.result == .scanning || s.gap.result == .clear || s.gap.result == .occupied) then .trapped
  else if x.lines.curtain.level && (x.phase == .warning || x.phase == .closing) then .blocking
  else if x.lines.curtain.level && (x.phase == .opening || x.phase == .opened || x.phase == .reopening) then .passing
  else .clear

/-- The warning of a bay is held: its phase timer stands still (spec/01 R11, spec/03 R71). -/
def Bay.warningHeld (b : Bay) : Bool := b.phase == .warning && b.presence == .blocking

/-- The scan condition (spec/03 R76). -/
def State.scanCondition (s : State) : Bool :=
  (s.train.state == .closing || s.train.state == .departing)
    && s.train.map.all (fun b => (s.bay b).phase == .closedLocked)

/-- The map members whose GAP is occupied, in increasing bay number (spec/03 R76, R78). -/
def State.occupiedMembers (s : State) : List BayIx := s.train.map.filter (fun b => (s.bay b).lines.gap.level)

/-- The gap result that the table of spec/03 R76 gives for the state that stands, timer and train events apart. -/
def State.gapNow (s : State) : GapResult :=
  let occupied := !s.occupiedMembers.isEmpty
  match s.gap.result with
  | .none => .none
  | .pending => if s.scanCondition then (if occupied then .occupied else .scanning) else .pending
  | .scanning => if !s.scanCondition then .pending else if occupied then .occupied else .scanning
  | .clear => if !s.scanCondition then .pending else if occupied then .occupied else .clear
  | .occupied => if !s.scanCondition then .pending else if occupied then .occupied else .scanning

/-- The conditions under which the stuck timer of a sensor runs (spec/03 R73). -/
def State.stuckConditions (s : State) (b : BayIx) (level marked : Bool) : Bool :=
  s.sliding b && level && !marked && (s.bay b).phase == .closedLocked && s.train.state == .empty

/-! ### The proof -/

/-- A bay meets the bay condition (spec/04 R83, R84); an ABSENT bay is not tested. -/
def State.meetsBayCondition (s : State) (b : BayIx) : Bool :=
  match s.kind b with
  | .absent => true
  | .sliding => (s.bay b).phase == .closedLocked || ((s.bay b).phase == .isolated && (s.bay b).bothProofs)
  | .escape | .endDoor => (s.bay b).phase == .closedLocked

/-- The lowest-numbered fitted bay that fails the bay condition (spec/04 R83). -/
def State.holdingBay (s : State) : Option BayIx := allBays.find? (fun b => !s.meetsBayCondition b)

/-- The withheld set (spec/04 R81): an entry is set while its condition fails. -/
def State.withheldNow (s : State) : Withheld :=
  { mode := !(s.mode.mode == .service || s.mode.mode == .maintenance)
    fire := s.fire
    link := s.supervision.state == .expired
    bays := s.holdingBay.isSome
    fault := allBays.any (fun b => (s.bay b).phase == .faulted)
    gap := !(s.gap.result == .none || s.gap.result == .clear) }

/-- An authority condition fails (spec/04 R81). -/
def Withheld.authority (w : Withheld) : Bool := w.mode || w.fire || w.link

/-- A face condition fails (spec/04 R81). -/
def Withheld.face (w : Withheld) : Bool := w.bays || w.fault || w.gap

/-- The platform secure value (spec/04 R82). -/
def secureValue (w : Withheld) (key : Bool) (mode : Mode) : SecureValue :=
  if w.authority then .notSecure
  else if !w.face then .secure
  else if key && mode == .service then .bypassed
  else .notSecure

/-- What an evaluation of the proof forms (spec/04 R82, R83, R86). -/
def State.proofNow (s : State) : Proof :=
  { value := secureValue s.withheldNow s.proof.keyLevel s.mode.mode
    keyLevel := s.proof.keyLevel
    withheld := s.withheldNow
    holding := s.holdingBay }

/-- The alarm (spec/05 R114). -/
def State.alarmNow (s : State) : Bool :=
  s.fire || allBays.any (fun b => s.fitted b && ((s.bay b).phase == .released || (s.bay b).phase == .faulted))

/-- Map members whose phase is not CLOSED_LOCKED (spec/04 R93). -/
def State.membersNotLocked (s : State) : Nat :=
  (s.train.map.filter (fun b => (s.bay b).phase != .closedLocked)).length

/-! ### Dwell -/

/-- The dwell clock runs (spec/02 R52). -/
def Train.dwellRuns (t : Train) : Bool := t.state == .enabled || t.state == .closing

/-- Elapsed at which DUE is set, in ms (spec/02 R52). -/
def Train.dueAt (t : Train) : Nat := t.dwellLimit * 1000

/-- Elapsed at which OVERSTAY is set, in ms (spec/02 R52). -/
def State.overstayAt (s : State) : Nat := (s.train.dwellLimit + s.platform.overstayMargin) * 1000

/-! ### Placed berthing sensors -/

/-- A placed berthing sensor (spec/02 R38). -/
structure Placed where
  position : Mm
  index : Nat
  line : LineIx
  deriving DecidableEq, Repr

/-- The position entry of an index, 1 to 12 (spec/09 R162). -/
def Platform.position (p : Platform) (index : Nat) : Option Mm := (p.positions.toList[index - 1]?).join

/-- The sensor a general line is, if it is placed (spec/02 R38). -/
def State.placedOn (s : State) (n : LineIx) : Option Placed :=
  let r := s.lineRecord n
  if r.function == .berthSensor then
    (s.platform.position r.index).map (fun p => { position := p, index := r.index, line := n })
  else none

/-- Increasing position, and at one position increasing index (spec/02 R38). -/
def Placed.before (a b : Placed) : Bool := a.position < b.position || (a.position == b.position && a.index ≤ b.index)

/-- Puts a sensor in its place in the order. -/
def Placed.insert (a : Placed) : List Placed → List Placed
  | [] => [a]
  | b :: bs => if a.before b then a :: b :: bs else b :: Placed.insert a bs

/-- The placed sensors in order (spec/02 R38). -/
def State.placed (s : State) : List Placed :=
  (allLines.filterMap s.placedOn).foldr Placed.insert []

/-- A placed sensor is occupied (spec/02 R38). -/
def State.sensorOccupied (s : State) (p : Placed) : Bool := (s.line p.line).line.level

/-- Every placed sensor is clear, or there is none (spec/02 R49). -/
def State.sensorsClear (s : State) : Bool := s.placed.all (fun p => !s.sensorOccupied p)

end Sys2Proof.Machine
end

