-- ==== Sys2Proof/Machine/Agenda.lean ====
section
/-! DEFINITION. What an event still has to do. The rules of spec/01 to spec/09 let one event hand claims, faults and
effects from block to block (spec/07 R139); an event is a list of tasks, carried out from the front, each of which may
put further tasks before the rest. -/

namespace Sys2Proof.Machine

/-- One thing an event has to do. -/
inductive Task
  /-- The field unit examines the gap result (spec/03 R76). -/
  | formGap
  /-- The field unit evaluates the presence state of a bay (spec/03 R70). -/
  | presence (b : BayIx)
  /-- What is judged at entry to a phase (spec/01 R6, R12, R16; spec/07 R133). -/
  | arrive (b : BayIx)
  /-- An obstruction is taken in CLOSING (spec/01 R12): one that stood at entry, or one that has come since. -/
  | obstruct (atEntry : Bool) (b : BayIx)
  /-- A proof conflict that has begun is raised, except in RELEASED (spec/01 R16). -/
  | conflict (b : BayIx)
  /-- A bay code is raised (spec/07 R131). -/
  | raise (b : BayIx) (c : FaultCode) (detail : Nat)
  /-- A bay code is raised at entry to a phase, ahead of a conflict that stands there (spec/01 R16; log 6). -/
  | raiseAtEntry (b : BayIx) (c : FaultCode) (detail : Nat)
  /-- A platform code is raised (spec/07 R138). -/
  | raiseFace (c : FaultCode) (detail : Nat)
  /-- A platform effect is handed on (spec/07 R139). -/
  | effect (p : PlatformEffect) (c : FaultCode)
  /-- An OPEN claim of OPEN_MAP (spec/02 R44), or of a re-open (again, R45). -/
  | openMember (again : Bool) (b : BayIx)
  /-- A CLOSE claim of CLOSE_MAP (reported in its reply) or of its effect (spec/02 R47, R51). -/
  | closeMember (reported : Bool) (b : BayIx)
  /-- The entry to HALTED stops a bay in a moving phase (spec/08 R151). -/
  | haltStop (b : BayIx)
  /-- The fire latch is set by a source (spec/05 R105). -/
  | fireSet (source : FireSource)
  /-- The fire opening of the face at a bay (spec/05 R107). -/
  | fireOpen (b : BayIx)
  /-- The fire latch releases a bay by hand in HALTED (spec/05 R109). -/
  | fireRelease (b : BayIx)
  /-- The fire latch acts on a bay that comes back into control (spec/05 R108, R109). -/
  | fireBack (b : BayIx)
  /-- The clearing of the latch closes a bay (spec/05 R111). -/
  | fireClose (b : BayIx)
  /-- The clearing of the latch in HALTED restores a bay (spec/05 R112). -/
  | fireUndo (b : BayIx)
  /-- The link-loss action of a bay (spec/06 R121). -/
  | linkLoss (b : BayIx)
  /-- SUPERVISION_EXPIRED is posted with the period that ran (spec/06 R120). -/
  | postExpired (period : Nat)
  /-- The departure watch is examined (spec/02 R49). -/
  | departWatch
  /-- The exit from maintenance closes a bay (spec/08 R150). -/
  | exitClose (b : BayIx)
  /-- A BAY_COMMAND judges a bay (spec/01 R26). -/
  | command (a : BayAction) (b : BayIx)
  deriving DecidableEq, Repr

/-- An event under way: the state, the bays whose entry to a phase has not been judged yet, whether STARTING ends in the
event (presence is then formed from the phases that the release unit's evaluation leaves, spec/08 R147), the bays refused
or skipped so far with their reasons, and the bays accepted so far. -/
structure Ev where
  s : State
  awaiting : List BayIx
  starting : Bool
  refused : List (BayIx × Reason)
  accepted : List BayIx
  deriving DecidableEq, Repr

/-- An event begins. -/
def Ev.start (s : State) : Ev := { s := s, awaiting := [], starting := false, refused := [], accepted := [] }

/-- Changes the state of an event. -/
def Ev.on (e : Ev) (f : State → State) : Ev := { e with s := f e.s }

/-- A bay is reported refused or skipped. -/
def Ev.report (e : Ev) (b : BayIx) (r : Reason) : Ev := { e with refused := e.refused ++ [(b, r)] }

end Sys2Proof.Machine
end

