-- ==== Sys2Proof/Machine/Frames.lean ====
section
/-! DEFINITION. The fault frames (spec/07, 7.5): writing, counting and clearing. -/

namespace Sys2Proof.Machine

/-- The answers that FAULT_TAKEN carries (spec/07 R140). -/
inductive FaultAnswer
  | faulted | advised | platform | counted
  deriving DecidableEq, Repr

/-- spec/07 R140. -/
def FaultAnswer.code : FaultAnswer → Nat
  | .faulted => 1 | .advised => 2 | .platform => 3 | .counted => 4

/-- What cleared a frame (spec/07 R140). -/
inductive ClearCause
  | clearFault | isolate | release | kindChange | readFault
  deriving DecidableEq, Repr

/-- spec/07 R140. -/
def ClearCause.code : ClearCause → Nat
  | .clearFault => 1 | .isolate => 2 | .release => 3 | .kindChange => 4 | .readFault => 5

/-- A frame becomes CLEARED and keeps every other field (spec/07 R136). -/
def Frame.clear (f : Frame) : Frame := { f with state := .cleared }

/-- The number of a frame's first code, 0 where it has none. -/
def Frame.firstCode (f : Frame) : Nat :=
  match f.info with
  | some i => i.code.number
  | none => 0

/-- A frame counts one more fault, at most 255 (spec/07 R137). -/
def FrameInfo.counted (i : FrameInfo) : FrameInfo := { i with count := min 255 (i.count + 1) }

/-- A fault that finds its frame ACTIVE escalates it (spec/07 R137): its severity exceeds the first code's and, where one
is held, the later code's. -/
def State.escalates (s : State) (c : FaultCode) (i : FrameInfo) : Bool :=
  (s.response i.code).severity < (s.response c).severity
    && (match i.later with
        | none => true
        | some l => (s.response l).severity < (s.response c).severity)

/-- Sets the fault frame of a bay. -/
def State.setFrame (s : State) (b : BayIx) (f : Frame) : State := s.setBay b { s.bay b with frame := f }

/-- A bay's frame is set to CLEARED and FAULT_CLEARED is posted with the first code and the cause (spec/07 R141). -/
def State.clearFrame (s : State) (cause : ClearCause) (b : BayIx) : State :=
  (s.setFrame b (s.bay b).frame.clear).post .faultCleared (some b) (highLow (s.bay b).frame.firstCode cause.code)

/-- The frame that a bay fault writes (spec/07 R136), from the phase, movement and retry count read before the answer. -/
def State.newFrame (s : State) (st : FrameState) (c : FaultCode) (detail : Nat) (q : Phase) (m : Movement)
    (retries : Nat) : Frame :=
  { state := st
    info := some { code := c, phase := some q, movement := some m, time := s.uptime
                   detail := BitVec.ofNat 16 detail, count := 1, retriesUsed := retries, later := none } }

/-- Posts FAULT_TAKEN (spec/07 R140). -/
def State.postTaken (s : State) (b : Option BayIx) (c : FaultCode) (a : FaultAnswer) : State :=
  s.post .faultTaken b (highLow c.number a.code)

end Sys2Proof.Machine
end

