-- ==== Sys2Proof/Machine/Log.lean ====
section
/-! DEFINITION. The release log (spec/05, 5.1): opening, restoring, dropping and acknowledging records. -/

namespace Sys2Proof.Machine

/-- The number after n, 255 being followed by 1 (spec/05 R97). -/
def nextNumber (n : Nat) : Nat := if 255 ≤ n then 1 else n + 1

/-- The first number from n upward that no record holds, looking at most k further (spec/05 R97). -/
def freeNumber (log : List ReleaseRecord) : Nat → Nat → Nat
  | 0, n => n
  | k + 1, n => if log.any (fun r => r.number == n) then freeNumber log k (nextNumber n) else n

/-- The oldest restored record of a log and the rest; the oldest record where none is restored, which spec/05 R98 shows
cannot be in a full log (log 30). -/
def takeOldest (log : List ReleaseRecord) : Option (ReleaseRecord × List ReleaseRecord) :=
  match log.find? (fun r => r.restored.isSome), removeFirst (fun r => r.restored.isSome) log with
  | some r, some rest => some (r, rest)
  | _, _ =>
    match log with
    | [] => none
    | r :: rest => some (r, rest)

/-- A full log makes room (spec/05 R98): RELEASE_RECORD_DROPPED carries the removed record's bay, kind and number. -/
def State.makeLogRoom (s : State) : State :=
  if s.release.log.length < Config.logLimit then s
  else
    match takeOldest s.release.log with
    | some (r, rest) =>
      ({ s with release := { s.release with log := rest } }).post .releaseRecordDropped r.bay
        (highLow r.kind.code r.number)
    | none => s

/-- Opens a record (spec/05 R96 to R99): a FIRE_LATCH record posts FIRE_LATCHED, every other RELEASE_OPENED. -/
def State.openRecord (s : State) (k : ReleaseKind) (b : Option BayIx) (source : Option FireSource) : State :=
  let s1 := s.makeLogRoom
  let n := freeNumber s1.release.log 255 s1.release.nextNumber
  let r : ReleaseRecord :=
    { number := n, kind := k, bay := b, source := source, opened := s1.uptime, restored := none, acked := false }
  let s2 := { s1 with release := { s1.release with log := s1.release.log ++ [r], nextNumber := nextNumber n } }
  match k with
  | .fireLatch => s2.post .fireLatched none (highLow (fireSourceCode source) n)
  | .key | .pushBar | .staffDoor | .fireUnlock => s2.post .releaseOpened b (highLow k.code n)

/-- Restores the first open record that p holds of, removing it if it is acknowledged (spec/05 R99); gives that record. -/
def restoreIn (t : Uptime) (p : ReleaseRecord → Bool) :
    List ReleaseRecord → List ReleaseRecord × Option ReleaseRecord
  | [] => ([], none)
  | r :: rs =>
    if r.restored.isNone && p r then
      (if r.acked then rs else { r with restored := some t } :: rs, some r)
    else
      let (rs', found) := restoreIn t p rs
      (r :: rs', found)

/-- Restores a record in the log: a FIRE_LATCH record posts FIRE_CLEARED with the value FIRE_LATCHED carried, every other
RELEASE_RESTORED (spec/05 R99, R111). -/
def State.restoreRecord (s : State) (p : ReleaseRecord → Bool) : State :=
  let (log', found) := restoreIn s.uptime p s.release.log
  match found with
  | none => s
  | some r =>
    let s1 := { s with release := { s.release with log := log' } }
    match r.kind with
    | .fireLatch => s1.post .fireCleared none (highLow (fireSourceCode r.source) r.number)
    | .key | .pushBar | .staffDoor | .fireUnlock => s1.post .releaseRestored r.bay (highLow r.kind.code r.number)

/-- Restores the open record of a bay (spec/05 R96). -/
def State.restoreBay (s : State) (b : BayIx) : State := s.restoreRecord (fun r => r.bay == some b)

/-- The kind of record a bay entering RELEASED by its own inputs opens (spec/01 R23, spec/05 R96). -/
def releaseKindOf : BayKind → ReleaseKind
  | .escape => .pushBar
  | .endDoor => .staffDoor
  | .sliding | .absent => .key

/-- One record is acknowledged: a restored one is removed, an open one is marked (spec/05 R116). -/
def ackIn (p : ReleaseRecord → Bool) (log : List ReleaseRecord) : List ReleaseRecord :=
  (log.filter (fun r => !(p r && r.restored.isSome))).map
    (fun r => if p r then { r with acked := true } else r)

end Sys2Proof.Machine
end

