-- ==== Sys2Proof/Machine/BayUnit.lean ====
section
/-! DEFINITION. The bay unit (spec/01): entering a phase, the two claims, obstructions, proofs and the inputs of sliding
bays and doors. -/

namespace Sys2Proof.Machine

/-- The phase timer started at entry to a phase (spec/01 R6): with the limit its rule names. -/
def phaseTimer (r : BayRecord) (p : Platform) : Phase → Option Timer
  | .unlocking => some (.start r.unlockLimit)
  | .opening => some (.start r.openLimit)
  | .warning => some (.start p.warningPeriod)
  | .closing => some (.start r.closeLimit)
  | .reopening => some (.start r.openLimit)
  | .closedUnlocked => some (.start r.lockLimit)
  | .closedLocked | .opened | .stopped | .released | .isolated | .faulted | .notFitted => none

/-- The cap timer started at entry to WARNING (spec/01 R11). -/
def capTimer (p : Platform) : Phase → Option Timer
  | .warning => some (.start p.curtainHold)
  | .closedLocked | .unlocking | .opening | .opened | .closing | .reopening | .closedUnlocked | .stopped | .released
  | .isolated | .faulted | .notFitted => none

/-- The phases at whose entry the reclose count becomes 0: CLOSED_LOCKED (spec/01 R14) and RELEASED (spec/05 R100;
log 20). -/
def Phase.endsReclose : Phase → Bool
  | .closedLocked | .released => true
  | .unlocking | .opening | .opened | .warning | .closing | .reopening | .closedUnlocked | .stopped | .isolated
  | .faulted | .notFitted => false

/-- What entry to a phase sets (spec/01 R6, R9, R11 to R14, R17, R18; spec/03 R73): timers of the phase left are
dropped and those of the new phase started; movement and retry count end where the phase ends them. -/
def Bay.enter (r : BayRecord) (p : Platform) (q : Phase) (b : Bay) : Bay :=
  { b with
    phase := q, pausing := false, forced := false
    timer := phaseTimer r p q, cap := capTimer p q, gapStuckTimer := none, curtainStuckTimer := none
    movement := if q.endsMovement then .none else b.movement
    retry := if q.endsMovement then 0 else b.retry
    reclose := if q.endsReclose then 0 else b.reclose }

/-- A bay enters a phase: PHASE_CHANGED is posted for a traced bay when the phase changes (spec/01 R25), and what is
judged at entry is owed. -/
def Ev.enter (e : Ev) (b : BayIx) (q : Phase) : Ev :=
  let old := e.s.bay b
  let s1 := e.s.setBay b (old.enter (e.s.bayRecord b) e.s.platform q)
  let s2 := if old.trace && old.phase != q then s1.post .phaseChanged (some b) (highLow old.phase.code q.code) else s1
  { e with s := s2, awaiting := b :: e.awaiting.filter (· != b) }

/-- What follows an entry: the gap result first (spec/03 R78), then presence and the checks at entry. In an event that moves
several bays this order holds for each change of phase (log 38, the model's choice). -/
def entered (b : BayIx) : List Task := [.formGap, .arrive b]

/-- Changes the runtime part of a bay within an event. -/
def Ev.onBay (e : Ev) (b : BayIx) (f : Bay → Bay) : Ev := e.on (fun s => s.setBay b (f (s.bay b)))

/-- A claim sets the movement; the retry count becomes 0 when the movement changes (spec/01 R6). -/
def Bay.move (m : Movement) (b : Bay) : Bay := { b with movement := m, retry := if b.movement == m then b.retry else 0 }

/-- How a claim is judged (spec/01 R7, R10). -/
inductive Verdict
  | refused (r : Reason)
  | satisfied
  | moves (q : Phase)
  deriving DecidableEq, Repr

/-- An OPEN claim on a SLIDING bay is judged (spec/01 R6, R7). -/
def State.judgeOpen (s : State) (b : BayIx) : Verdict :=
  if s.mode.mode == .halted then .refused .phase
  else
    match (s.bay b).phase with
    | .closedLocked => .moves .unlocking
    | .closedUnlocked | .stopped | .warning | .closing | .reopening => .moves .opening
    | .unlocking | .opening | .opened => .satisfied
    | .released => .refused .released
    | .isolated => .refused .isolated
    | .faulted => .refused .faulted
    | .notFitted => .refused .absent

/-- A CLOSE claim on a SLIDING bay is judged (spec/01 R6, R10; log 21 for both refusals at once). -/
def State.judgeClose (s : State) (b : BayIx) : Verdict :=
  if s.fire then .refused .emergency
  else if s.mode.mode == .halted then .refused .phase
  else
    match (s.bay b).phase with
    | .opened | .opening => .moves .warning
    | .stopped => if (s.bay b).lines.closed.level then .moves .closedUnlocked else .moves .warning
    | .unlocking => .moves .closedUnlocked
    | .warning | .closing | .reopening | .closedUnlocked | .closedLocked => .satisfied
    | .released => .refused .released
    | .isolated => .refused .isolated
    | .faulted => .refused .faulted
    | .notFitted => .refused .absent

/-- An OPEN claim is taken (spec/01 R7): movement OPEN, reclose count 0. -/
def Ev.openClaim (e : Ev) (b : BayIx) : Ev × List Task :=
  match e.s.judgeOpen b with
  | .moves q => (((e.onBay b (.move .opens)).onBay b (fun x => { x with reclose := 0 })).enter b q, entered b)
  | .refused _ | .satisfied => (e, [])

/-- A CLOSE claim is taken (spec/01 R10): movement CLOSE. With a warning period of 0 the bay passes through WARNING to
CLOSING at once; the checks at entry and the presence are those of CLOSING alone (log 36, the model's choice). -/
def Ev.closeClaim (e : Ev) (b : BayIx) : Ev × List Task :=
  match e.s.judgeClose b with
  | .moves q =>
    let e1 := (e.onBay b (.move .closes)).enter b q
    (if q == .warning && e.s.platform.warningPeriod == 0 then e1.enter b .closing else e1, entered b)
  | .refused _ | .satisfied => (e, [])

/-- A claim's refusal, if it is refused. -/
def Verdict.reason : Verdict → Option Reason
  | .refused r => some r
  | .satisfied | .moves _ => none

/-- An OPEN claim of OPEN_MAP (spec/02 R44, spec/07 R139): not handed, and reported with reason PHASE, once a CLOSE_MAP
effect has made the train CLOSING; a refused claim is reported with its reason. -/
def Ev.handOpen (e : Ev) (b : BayIx) : Ev × List Task :=
  if e.s.train.state != .enabled then (e.report b .phase, [])
  else
    match (e.s.judgeOpen b).reason with
    | some r => (e.report b r, [])
    | none => e.openClaim b

/-- The turn of a member in OPEN_MAP (spec/02 R44, R45). A formation claims every member. A re-open has no claim for a
member in OPEN, nor for one in RELEASED or FAULTED, which it skips and reports with its phase, whatever an earlier member's
fault has done to the train (spec/05 R102). The phase is read at the member's turn (log 43, the model's choice). -/
def Ev.openMember (e : Ev) (again : Bool) (b : BayIx) : Ev × List Task :=
  if again then
    match (e.s.bay b).phase with
    | .opened => (e, [])
    | .released => (e.report b .released, [])
    | .faulted => (e.report b .faulted, [])
    | .closedLocked | .unlocking | .opening | .warning | .closing | .reopening | .closedUnlocked | .stopped | .isolated
    | .notFitted => e.handOpen b
  else e.handOpen b

/-- A claim of CLOSE_MAP on a member (spec/02 R47): members in RELEASED or FAULTED are skipped. -/
def Ev.closeMember (e : Ev) (reported : Bool) (b : BayIx) : Ev × List Task :=
  let say (r : Reason) : Ev := if reported then e.report b r else e
  let q := (e.s.bay b).phase
  if q == .released then (say .released, [])
  else if q == .faulted then (say .faulted, [])
  else
    match (e.s.judgeClose b).reason with
    | some r => (say r, [])
    | none => e.closeClaim b

/-- STOP on a bay in a moving phase (spec/01 R17). -/
def Ev.stopBay (e : Ev) (b : BayIx) : Ev × List Task :=
  if e.s.sliding b && (e.s.bay b).phase.isMoving then (e.enter b .stopped, entered b) else (e, [])

/-- An obstruction taken in CLOSING (spec/01 R12): the bay reopens, or raises RECLOSE_EXHAUSTED. -/
def Ev.obstruct (e : Ev) (atEntry : Bool) (b : BayIx) : Ev × List Task :=
  let x := e.s.bay b
  if x.phase != .closing then (e, [])
  else if x.reclose < e.s.platform.recloseAttempts then
    let e1 := (e.onBay b (fun y => { y with reclose := y.reclose + 1 })).enter b .reopening
    let e2 := if x.trace then e1.on (fun s => s.post .reopened (some b) (x.reclose + 1)) else e1
    (e2, entered b)
  else (e, [if atEntry then .raiseAtEntry b .recloseExhausted x.reclose else .raise b .recloseExhausted x.reclose])

/-- The pause of REOPENING begins (spec/01 R13), with the reopen pause read at its start. -/
def Ev.startPause (e : Ev) (b : BayIx) : Ev :=
  e.onBay b (fun x => { x with pausing := true, timer := some (.start e.s.platform.reopenPause) })

/-- The phase that a proof which stands, or has arrived, ends the present phase for (spec/01 R6, R8, R9, R12, R14, R17).
REOPENING passes to its pause instead. -/
def Bay.proofNext (b : Bay) : Option Phase :=
  match b.phase with
  | .unlocking => if b.lines.locked.level then none else some .opening
  | .opening => if b.lines.fullyOpen.level then some .opened else none
  | .closing => if b.lines.closed.level then some .closedUnlocked else none
  | .closedUnlocked => if b.lines.locked.level then some .closedLocked else none
  | .stopped => if b.lines.closed.level && b.lines.locked.level then some .closedLocked else none
  | .closedLocked | .opened | .warning | .reopening | .released | .isolated | .faulted | .notFitted => none

/-- The obstruction that counts at entry to CLOSING (spec/01 R12): OBSTRUCTED, or the reopen hold unless forced. -/
def Bay.obstructed (b : Bay) : Bool := b.lines.obstructed.level || (b.presence == .blocking && !b.forced)

/-- A conflict that stands is raised at entry to every phase but RELEASED (spec/01 R16), and FAULTED (spec/07 R137, R142;
log 7). -/
def Phase.raisesConflict : Phase → Bool
  | .released | .faulted => false
  | .closedLocked | .unlocking | .opening | .opened | .warning | .closing | .reopening | .closedUnlocked | .stopped
  | .isolated | .notFitted => true

/-- The pause begins at entry to REOPENING when FULLY_OPEN already stands (spec/01 R6, R13). -/
def Ev.pauseAtEntry (e : Ev) (b : BayIx) : Ev :=
  let x := e.s.bay b
  if x.phase == .reopening && !x.pausing && x.lines.fullyOpen.level then e.startPause b else e

/-- The checks at entry to a phase of a SLIDING bay, in the order of spec/07 R133 (log 6): a proof that stands, an
obstruction, DRIVE_FAULT, a proof conflict. Where a check takes the bay to a further phase, a conflict that stands is raised
at entry to that one; where its answer is FAULT_BAY, after it (Ev.raiseAtEntry). -/
def Ev.entryChecks (e : Ev) (b : BayIx) : Ev × List Task :=
  let x := e.s.bay b
  match x.proofNext with
  | some q => (e.enter b q, entered b)
  | none =>
    let e1 := e.pauseAtEntry b
    if x.phase == .closing && x.obstructed then (e1, [.obstruct true b])
    else if x.phase.isMoving && x.lines.driveFault.level then (e1, [.raiseAtEntry b .driveFault 0])
    else if x.phase.raisesConflict && x.lines.conflict then (e1, [.raise b .proofConflict x.lines.conflictDetail])
    else (e1, [])

/-- What an input change does to a SLIDING bay in a phase (spec/01 R8, R9, R12 to R17, R21), the conflict apart. -/
inductive InputAction
  | nothing
  | enters (q : Phase)
  | raises (c : FaultCode) (detail : Nat)
  | pauses
  | obstructs
  deriving DecidableEq, Repr

/-- The action of a changed input on a SLIDING bay, whose lines already show the new level. -/
def Bay.inputAction (b : Bay) (i : BayInput) : InputAction :=
  let l := b.lines
  match i with
  | .closed =>
    if l.closed.level then
      match b.phase with
      | .closing | .stopped => .enters .closedUnlocked
      | .opened => if l.fullyOpen.level then .nothing else .enters .closedUnlocked
      | .closedLocked | .unlocking | .opening | .warning | .reopening | .closedUnlocked | .released | .isolated
      | .faulted | .notFitted => .nothing
    else
      match b.phase with
      | .closedLocked => .raises .leafForced 0
      | .closedUnlocked => .enters .stopped
      | .isolated => .raises .isolatedUnlocked 2
      | .unlocking | .opening | .opened | .warning | .closing | .reopening | .stopped | .released | .faulted
      | .notFitted => .nothing
  | .locked =>
    if l.locked.level then
      match b.phase with
      | .closedUnlocked => .enters .closedLocked
      | .stopped => if l.closed.level then .enters .closedLocked else .nothing
      | .closedLocked | .unlocking | .opening | .opened | .warning | .closing | .reopening | .released | .isolated
      | .faulted | .notFitted => .nothing
    else
      match b.phase with
      | .unlocking => .enters .opening
      | .closedLocked => .raises .lockLost 0
      | .isolated => .raises .isolatedUnlocked 1
      | .opening | .opened | .warning | .closing | .reopening | .closedUnlocked | .stopped | .released | .faulted
      | .notFitted => .nothing
  | .fullyOpen =>
    if l.fullyOpen.level then
      match b.phase with
      | .opening => .enters .opened
      | .reopening => if b.pausing then .nothing else .pauses
      | .closedLocked | .unlocking | .opened | .warning | .closing | .closedUnlocked | .stopped | .released
      | .isolated | .faulted | .notFitted => .nothing
    else .nothing
  | .obstructed => if l.obstructed.level && b.phase == .closing then .obstructs else .nothing
  | .driveFault => if l.driveFault.level && b.phase.isMoving then .raises .driveFault 0 else .nothing
  | .gap | .curtain | .releaseKey => .nothing

/-- A change of an input has made a conflict begin (spec/01 R16; log 8): one of the two sorts stands now and did not stand
before the change. -/
def BayLines.conflictBegins (l : BayLines) (i : BayInput) : Bool :=
  let before := l.put { l.get i with level := !(l.get i).level } i
  (l.shutAndOpen && !before.shutAndOpen) || (l.partedBolt && !before.partedBolt)

/-- A changed input reaches a SLIDING bay (spec/01 R6). A conflict that the change begins is raised once: after the code
the change raises, or, where the change ends the phase, at entry to the next (spec/01 R16; log 8). -/
def Ev.slidingInput (e : Ev) (b : BayIx) (i : BayInput) : Ev × List Task :=
  let x := e.s.bay b
  let after : List Task := if x.lines.conflictBegins i then [.conflict b] else []
  match x.inputAction i with
  | .nothing => (e, after)
  | .enters q => (e.enter b q, entered b)
  | .raises c d => (e, .raise b c d :: after)
  | .pauses => (e.startPause b, after)
  | .obstructs => (e, .obstruct false b :: after)

/-- A conflict that has begun is raised (spec/01 R16), except in RELEASED. -/
def Ev.raiseConflict (e : Ev) (b : BayIx) : Ev × List Task :=
  let x := e.s.bay b
  if x.phase != .released && x.lines.conflict then (e, [.raise b .proofConflict x.lines.conflictDetail]) else (e, [])

/-- A bay enters RELEASED and its record is opened (spec/05 R100, R103, R109); a FAULTED bay's frame is set to CLEARED
with cause 3, release (spec/07 R141). -/
def Ev.enterReleased (e : Ev) (b : BayIx) (k : ReleaseKind) : Ev :=
  let wasFaulted := (e.s.bay b).phase == .faulted
  let e1 := (e.enter b .released).on (fun s => s.openRecord k (some b) none)
  if wasFaulted then e1.on (fun s => s.clearFrame .release b) else e1

end Sys2Proof.Machine
end

