-- ==== Sys2Proof/Machine/FaultUnit.lean ====
section
/-! DEFINITION. The fault unit (spec/07): the answer to a bay fault, retries, platform faults and platform effects; the
entry to HALTED that an effect or a request brings (spec/08 R151); the derived phase (spec/01 R23, spec/07 R142). -/

namespace Sys2Proof.Machine

/-- The movement codes (spec/07 R128). -/
def FaultCode.ofMovement : FaultCode → Bool
  | .unlockTimeout | .openTimeout | .closeTimeout | .lockTimeout | .recloseExhausted | .driveFault => true
  | .proofConflict | .lockLost | .sensorStuck | .isolatedUnlocked | .leafForced | .trainMoved | .linkExpired
  | .storeFailed | .storeInvalid | .fieldSupplyLost => false

/-- A condition forbids the restart of a movement (spec/07 R132). -/
def State.restartForbidden (s : State) : Movement → Bool
  | .opens => s.supervision.state == .expired || s.mode.mode == .halted
  | .closes => s.fire || s.mode.mode == .halted
  | .none => true

/-- A retry is granted (spec/07 R132). -/
def State.retryGranted (s : State) (b : BayIx) (c : FaultCode) : Bool :=
  let x := s.bay b
  x.movement != .none && x.retry < (s.response c).retries && !s.restartForbidden x.movement

/-- The restart phase of a retried movement (spec/07 R133). -/
def Bay.restartPhase (b : Bay) : Phase :=
  if b.movement == .opens then (if b.lines.closed.level then .unlocking else .opening)
  else (if b.lines.closed.level then .closedUnlocked else .closing)

/-- A bay code is counted in the ACTIVE frame of a FAULTED bay, and may escalate it (spec/07 R137). -/
def Ev.raiseNested (e : Ev) (b : BayIx) (c : FaultCode) : Ev × List Task :=
  let x := e.s.bay b
  match x.frame.info with
  | none => (e.on (fun s => s.postTaken (some b) c .counted), [])
  | some i =>
    if e.s.escalates c i then
      (e.on (fun s => (s.setFrame b { x.frame with info := some { i.counted with later := some c } }).post
          .faultEscalated (some b) (highLow c.number i.code.number)),
        [.effect (e.s.response c).platformEffect c])
    else
      (e.on (fun s => (s.setFrame b { x.frame with info := some i.counted }).postTaken (some b) c .counted), [])

/-- A granted retry (spec/07 R133): retry count plus one, reclose count 0, FAULT_RETRY, and the restart phase. -/
def Ev.retry (e : Ev) (b : BayIx) (c : FaultCode) : Ev :=
  let x := e.s.bay b
  let e1 := e.onBay b (fun y => { y with retry := y.retry + 1, reclose := 0 })
  let e2 := e1.on (fun s => s.post .faultRetry (some b) (highLow c.number (x.retry + 1)))
  e2.enter b x.restartPhase

/-- The bay's frame is written and FAULT_TAKEN posted (spec/07 R134 to R136, R140). -/
def Ev.writeFrame (e : Ev) (b : BayIx) (c : FaultCode) (detail : Nat) (st : FrameState) (a : FaultAnswer) : Ev :=
  let x := e.s.bay b
  e.on (fun s => (s.setFrame b (s.newFrame st c detail x.phase x.movement x.retry)).postTaken (some b) c a)

/-- A bay code is raised (spec/07 R131): nested, retry, advise or fault, then the event and the platform effect (R139),
then what the new phase brings about (log 9). -/
def Ev.raise (e : Ev) (b : BayIx) (c : FaultCode) (detail : Nat) : Ev × List Task :=
  let x := e.s.bay b
  let r := e.s.response c
  if x.phase == .faulted then e.raiseNested b c
  else if e.s.retryGranted b c then (e.retry b c, .effect r.platformEffect c :: entered b)
  else if r.action == .advise then
    let e1 := e.writeFrame b c detail .advised .advised
    if c.ofMovement then (e1.enter b .stopped, .effect r.platformEffect c :: entered b)
    else (e1, [.effect r.platformEffect c])
  else ((e.writeFrame b c detail .active .faulted).enter b .faulted, .effect r.platformEffect c :: entered b)

/-- A bay code is raised at entry to a phase, ahead of a conflict that stands there (spec/01 R16; log 6). An answer that takes
the bay to a further phase has the conflict raised at entry to that one; after FAULT_BAY it is judged against FAULTED. -/
def Ev.raiseAtEntry (e : Ev) (b : BayIx) (c : FaultCode) (detail : Nat) : Ev × List Task :=
  let p := e.raise b c detail
  (p.1, p.2 ++ if (p.1.s.bay b).phase == .faulted then [.conflict b] else [])

/-- The platform frame a fault writes (spec/07 R136). -/
def State.newPlatformFrame (s : State) (c : FaultCode) (detail : Nat) : Frame :=
  { state := .active
    info := some { code := c, phase := none, movement := none, time := s.uptime, detail := BitVec.ofNat 16 detail
                   count := 1, retriesUsed := 0, later := none } }

/-- A platform code is recorded (spec/07 R138): the frame is written, or counted and perhaps escalated. -/
def State.recordPlatform (s : State) (c : FaultCode) (detail : Nat) : State :=
  let f := s.platformFrame
  match f.state, f.info with
  | .active, some i =>
    if s.escalates c i then
      ({ s with platformFrame := { f with info := some { i.counted with later := some c } } }).post
        .faultEscalated none (highLow c.number i.code.number)
    else ({ s with platformFrame := { f with info := some i.counted } }).postTaken none c .counted
  | _, _ => ({ s with platformFrame := s.newPlatformFrame c detail }).postTaken none c .platform

/-- A platform code is raised (spec/07 R138): its own effect is handed on in every case. -/
def Ev.raiseFace (e : Ev) (c : FaultCode) (detail : Nat) : Ev × List Task :=
  (e.on (fun s => s.recordPlatform c detail), [.effect (e.s.response c).platformEffect c])

/-- The mode changes and MODE_CHANGED is posted (spec/08 R145). -/
def State.changeMode (s : State) (m : Mode) : State :=
  ({ s with mode := { s.mode with mode := m } }).post .modeChanged none (highLow s.mode.mode.code m.code)

/-- The entry to HALTED (spec/08 R151); in HALTED nothing. -/
def Ev.enterHalted (e : Ev) (cause : HaltCause) : Ev × List Task :=
  if e.s.mode.mode == .halted then (e, [])
  else
    (e.on (fun s => ({ s with mode := { s.mode with haltCause := cause } }).changeMode .halted),
      allBays.map .haltStop ++ (if e.s.fire then allBays.map .fireRelease else []))

/-- The members a closing claims, for the low byte of MAP_CLOSING (spec/02 R47). -/
def State.closingCount (s : State) : Nat :=
  (s.train.map.filter (fun b => (s.bay b).phase != .released && (s.bay b).phase != .faulted)).length

/-- The train is closed (spec/02 R47, R51): CLOSING, MAP_CLOSING with the origin in its high byte, and the claims. Where
every member already stands in CLOSED_LOCKED the gap result is examined at once, after MAP_CLOSING (log 44, the model's
choice). -/
def Ev.closeTrain (e : Ev) (origin : Nat) (reported : Bool) : Ev × List Task :=
  let n := e.s.closingCount
  (e.on (fun s => ({ s with train := { s.train with state := .closing } }).post .mapClosing none (highLow origin n)),
    .formGap :: e.s.train.map.map (.closeMember reported))

/-- A CLOSE_MAP platform effect (spec/02 R51). -/
def Ev.closeMapEffect (e : Ev) : Ev × List Task :=
  if e.s.train.dwellRuns && !e.s.fire then e.closeTrain 1 false else (e, [])

/-- A platform effect is handed on (spec/07 R139). -/
def Ev.effect (e : Ev) (p : PlatformEffect) (c : FaultCode) : Ev × List Task :=
  match p with
  | .none => (e, [])
  | .closeMap => e.closeMapEffect
  | .halt => e.enterHalted (.fault c)

/-- A bay derived FAULTED has PROOF_CONFLICT taken with FAULT_BAY and no retry (spec/07 R142). -/
def Ev.takeDerivedConflict (e : Ev) (b : BayIx) : Ev :=
  let l := (e.s.bay b).lines
  let detail := if e.s.sliding b then l.conflictDetail else 2
  e.on (fun s => (s.setFrame b (s.newFrame .active .proofConflict detail .faulted .none 0)).postTaken (some b)
    .proofConflict .faulted)

/-- A bay takes its derived phase (spec/01 R23), opening a record or taking PROOF_CONFLICT where that rule says so; the
fire latch then acts on a bay that is back in control (spec/05 R108, R109), once the checks at entry to the derived phase are
made (log 46, the model's choice). -/
def Ev.derive (e : Ev) (b : BayIx) : Ev × List Task :=
  let k := e.s.kind b
  let q := derivedPhase k (e.s.bay b).lines
  let e1 := (e.onBay b (fun x => { x with movement := .none, retry := 0, reclose := 0 })).enter b q
  let next := entered b ++ [.fireBack b]
  match q with
  | .released =>
    (if e1.s.hasOpenRecord b then e1 else e1.on (fun s => s.openRecord (releaseKindOf k) (some b) none), next)
  | .faulted => (e1.takeDerivedConflict b, .effect (e.s.response .proofConflict).platformEffect .proofConflict :: next)
  | .closedLocked | .unlocking | .opening | .opened | .warning | .closing | .reopening | .closedUnlocked | .stopped
  | .isolated | .notFitted => (e1, next)

end Sys2Proof.Machine
end

