-- ==== Sys2Proof/Machine/ReleaseUnit.lean ====
section
/-! DEFINITION. The release unit (spec/05): release keys, doors, the fire latch; and the link-loss actions that the
supervision unit takes (spec/06 R121). -/

namespace Sys2Proof.Machine

/-- The RELEASE_KEY of a SLIDING bay goes active (spec/05 R100). -/
def Ev.keyActive (e : Ev) (b : BayIx) : Ev × List Task :=
  match (e.s.bay b).phase with
  | .isolated | .released | .notFitted => (e, [])
  | .closedLocked | .unlocking | .opening | .opened | .warning | .closing | .reopening | .closedUnlocked | .stopped
  | .faulted => (e.enterReleased b .key, entered b)

/-- A bay is RELEASED with an open record of a kind, as every open record of a bay has it (spec/05 R96). -/
def State.releasedBy (s : State) (k : ReleaseKind) (b : BayIx) : Bool := (s.bay b).phase == .released && s.hasOpenKind b k

/-- The RELEASE_KEY of a SLIDING bay goes inactive (spec/05 R101). -/
def Ev.keyInactive (e : Ev) (b : BayIx) : Ev × List Task :=
  if e.s.releasedBy .key b then (e.on (fun s => s.restoreBay b)).derive b else (e, [])

/-- An input of an ESCAPE or END bay has changed (spec/01 R19, spec/05 R103). -/
def Ev.doorInput (e : Ev) (b : BayIx) : Ev × List Task :=
  let x := e.s.bay b
  match x.phase with
  | .closedLocked =>
    if x.lines.doorShut then (e, [])
    else if x.lines.doorConflict then (e, [.raise b .proofConflict 2])
    else (e.enterReleased b (releaseKindOf (e.s.kind b)), entered b)
  | .released =>
    if x.lines.doorShut then ((e.enter b .closedLocked).on (fun s => s.restoreBay b), entered b) else (e, [])
  | .unlocking | .opening | .opened | .warning | .closing | .reopening | .closedUnlocked | .stopped | .isolated
  | .faulted | .notFitted => (e, [])

/-- A source sets the fire latch (spec/05 R104, R105). -/
def Ev.fireSet (e : Ev) (source : FireSource) : Ev × List Task :=
  if e.s.fire then (e, [])
  else
    (e.on (fun s =>
        ({ s with release := { s.release with latch := some source } }).openRecord .fireLatch none (some source)),
      if e.s.mode.mode == .halted then allBays.map .fireRelease else allBays.map .fireOpen)

/-- The fire opening at one bay (spec/05 R107): bays in ISOLATED, RELEASED or FAULTED are passed over. -/
def Ev.fireOpen (e : Ev) (b : BayIx) : Ev × List Task :=
  let q := (e.s.bay b).phase
  if e.s.sliding b && q != .isolated && q != .released && q != .faulted then e.openClaim b else (e, [])

/-- The fire latch releases a bay by hand in HALTED (spec/05 R109). -/
def Ev.fireRelease (e : Ev) (b : BayIx) : Ev × List Task :=
  let q := (e.s.bay b).phase
  if e.s.sliding b && q != .isolated && q != .released then (e.enterReleased b .fireUnlock, entered b) else (e, [])

/-- The fire latch acts on a bay that has come back into control (spec/05 R108; R109 in HALTED). -/
def Ev.fireBack (e : Ev) (b : BayIx) : Ev × List Task :=
  let q := (e.s.bay b).phase
  if !e.s.fire || !e.s.sliding b || q == .released || q == .isolated || q == .faulted then (e, [])
  else if e.s.mode.mode == .halted then (e.enterReleased b .fireUnlock, entered b)
  else e.openClaim b

/-- The clearing of the latch closes a bay (spec/05 R111): in UNLOCKING, OPENING or OPEN, and no member while ENABLED. -/
def Ev.fireClose (e : Ev) (b : BayIx) : Ev × List Task :=
  let q := (e.s.bay b).phase
  if e.s.sliding b && (q == .unlocking || q == .opening || q == .opened)
      && !(e.s.train.state == .enabled && e.s.isMember b) then e.closeClaim b
  else (e, [])

/-- The clearing of the latch in HALTED restores a FIRE_UNLOCK record, and its bay takes its derived phase before the next
record is restored (spec/05 R112; log 39, the model's choice of bay by bay). -/
def Ev.fireUndo (e : Ev) (b : BayIx) : Ev × List Task :=
  if e.s.releasedBy .fireUnlock b then (e.on (fun s => s.restoreBay b)).derive b else (e, [])

/-- KEY_RESET goes active (spec/05 R110 to R112). While supervision is EXPIRED the link-loss actions are applied again
after the CLOSE claims (spec/06 R122). -/
def Ev.fireReset (e : Ev) : Ev × List Task :=
  let input := e.s.functionLevel .fireInput
  let panel := e.s.functionLevel .panelOpen
  if !e.s.fire then (e, [])
  else if input || panel then
    (e.on (fun s => s.post .fireResetIgnored none (flagCode input + 2 * flagCode panel)), [])
  else
    (e.on (fun s =>
        ({ s with release := { s.release with latch := none } }).restoreRecord (fun r => r.kind == ReleaseKind.fireLatch)),
      if e.s.mode.mode == .halted then allBays.map .fireUndo
      else allBays.map .fireClose ++ (if e.s.supervision.state == .expired then allBays.map .linkLoss else []))

/-- The link-loss action of a bay (spec/06 R121); the STAND stop is not applied while the latch is set (R122). -/
def Ev.linkLoss (e : Ev) (b : BayIx) : Ev × List Task :=
  let x := e.s.bay b
  let close := (e.s.bayRecord b).linkLoss == .close
  if !e.s.sliding b then (e, [])
  else
    match x.phase with
    | .unlocking => e.closeClaim b
    | .opening => if close then e.closeClaim b else if e.s.fire then (e, []) else e.stopBay b
    | .opened => if close then e.closeClaim b else (e, [])
    | .stopped => if close && !x.lines.closed.level then e.closeClaim b else (e, [])
    | .closedLocked | .warning | .closing | .reopening | .closedUnlocked | .released | .isolated | .faulted
    | .notFitted => (e, [])

/-- The exit from maintenance closes a bay that is not at rest (spec/08 R150). -/
def Ev.exitClose (e : Ev) (b : BayIx) : Ev × List Task :=
  let q := (e.s.bay b).phase
  if e.s.sliding b && q != .closedLocked && q != .isolated && q != .faulted && q != .released then e.closeClaim b
  else (e, [])

/-- The part leaves MAINTENANCE (spec/08 R150). -/
def Ev.leaveMaintenance (e : Ev) : Ev × List Task :=
  (e.on (fun s => s.changeMode .service), allBays.map .exitClose)

end Sys2Proof.Machine
end

