-- ==== Sys2Proof/Machine/Sensing.lean ====
section
/-! DEFINITION. The presence logic, the stuck watch and the gap scan of the field unit (spec/03, 3.3 and 3.4). -/

namespace Sys2Proof.Machine

/-- Evaluates the presence state of a bay (spec/03 R70, R75). When BLOCKING ends in WARNING the warning timer starts
again from zero (spec/01 R11). -/
def State.formPresence (s : State) (b : BayIx) : State :=
  let x := s.bay b
  let new := s.presenceNow b
  if new == x.presence then s
  else
    let t := if x.phase == .warning && x.presence == .blocking then x.timer.map Timer.again else x.timer
    (s.setBay b { x with presence := new, timer := t }).post .presenceChanged (some b)
      (highLow x.presence.code new.code)

/-- The presence state has come into BLOCKING in a CLOSING that is not forced: the reopen hold (spec/03 R71). -/
def reopenHold (old new : Bay) : Bool :=
  old.presence != .blocking && new.presence == .blocking && new.phase == .closing && !new.forced

/-- The presence state of a bay is evaluated, and the reopen hold is handed to the bay unit (spec/03 R71), but for a bay
whose entry to its phase is still to be judged. -/
def Ev.presence (e : Ev) (b : BayIx) : Ev × List Task :=
  let e1 := e.on (fun s => s.formPresence b)
  (e1, if reopenHold (e.s.bay b) (e1.s.bay b) && !e.awaiting.contains b then [.obstruct false b] else [])

/-- What follows entry to a phase, once: presence (spec/03 R71), but at the end of STARTING, where it is formed after the
release unit's evaluation (spec/08 R147); then the checks at entry of a SLIDING bay. -/
def Ev.arrive (e : Ev) (b : BayIx) : Ev × List Task :=
  if e.awaiting.contains b then
    let e1 := { e with
      s := if e.starting then e.s else e.s.formPresence b, awaiting := e.awaiting.filter (· != b) }
    if e1.s.sliding b then e1.entryChecks b else (e1, [])
  else (e, [])

/-- Sets the gap result (spec/03 R76 to R78): the scan timer runs on entry to SCANNING only, GAP_OCCUPIED is posted at
entry to OCCUPIED and GAP_CLEARED at entry to CLEAR. -/
def State.setGap (s : State) (g : GapResult) : State :=
  let s1 := { s with gap := { result := g, timer := if g == .scanning then some (.start s.platform.gapScanPeriod) else none } }
  match g with
  | .occupied => s1.post .gapOccupied s.occupiedMembers.head? s.occupiedMembers.length
  | .clear => s1.post .gapCleared none 0
  | .none | .pending | .scanning => s1

/-- The gap result is set, and the presence of every map member evaluated after it (spec/03 R70, R78), in increasing bay
number (log 38, the model's choice). -/
def Ev.setGap (e : Ev) (g : GapResult) : Ev × List Task :=
  (e.on (fun s => s.setGap g), e.s.train.map.map .presence)

/-- The gap result is examined (spec/03 R76). -/
def Ev.formGap (e : Ev) : Ev × List Task :=
  if e.s.gapNow == e.s.gap.result then (e, []) else e.setGap e.s.gapNow

/-- A filtered CURTAIN or GAP of a SLIDING bay has changed (spec/03 R70, R73, R74, R76): a sensor that clears loses its
stuck mark and timer. -/
def Ev.sensorInput (e : Ev) (b : BayIx) (sensor : Sensor) : Ev × List Task :=
  match sensor with
  | .gap =>
    (e.onBay b (fun x => if x.lines.gap.level then x else { x with gapStuck := false, gapStuckTimer := none }),
      [.formGap, .presence b])
  | .curtain =>
    (e.onBay b (fun x => if x.lines.curtain.level then x else { x with curtainStuck := false, curtainStuckTimer := none }),
      [.presence b])

/-- A sensor is marked stuck (spec/03 R74): presence STUCK, then SENSOR_STUCK. -/
def Ev.markStuck (e : Ev) (b : BayIx) (sensor : Sensor) : Ev × List Task :=
  match sensor with
  | .gap => (e.onBay b (fun x => { x with gapStuck := true, gapStuckTimer := none }), [.presence b, .raise b .sensorStuck 1])
  | .curtain =>
    (e.onBay b (fun x => { x with curtainStuck := true, curtainStuckTimer := none }), [.presence b, .raise b .sensorStuck 2])

/-- A stuck timer runs while its conditions hold: it goes on, starts, or is dropped (spec/03 R73). -/
def stuckTimer (holds : Bool) (period : Nat) (t : Option Timer) : Option Timer :=
  if holds then some (t.getD (.start (period * 1000))) else none

/-- The stuck timers of a bay after an event (spec/03 R73). -/
def State.stuckWatch (s : State) (b : BayIx) : State :=
  let x := s.bay b
  let g := stuckTimer (s.stuckConditions b x.lines.gap.level x.gapStuck) s.platform.stuckPeriod x.gapStuckTimer
  let c := stuckTimer (s.stuckConditions b x.lines.curtain.level x.curtainStuck) s.platform.stuckPeriod x.curtainStuckTimer
  if g == x.gapStuckTimer && c == x.curtainStuckTimer then s
  else s.setBay b { x with gapStuckTimer := g, curtainStuckTimer := c }

end Sys2Proof.Machine
end

