-- ==== Sys2Proof/Machine/Berthing.lean ====
section
/-! DEFINITION. The berthing unit (spec/02): placing doorways, the aligned set, the cross-check, selection and formation of
the opening map, the sensor watches and the dwell. -/

namespace Sys2Proof.Machine

/-! ### Placing a train (spec/02 R35, R36)

Positions are doubled, so that half widths and half millimetres are whole numbers (spec/02 R36). -/

/-- A doorway of the train on the platform coordinate: twice the ends of its interval (spec/02 R35). -/
structure PlacedDoorway where
  unitNo : Nat
  doorway : Nat
  low2 : Int
  high2 : Int
  deriving DecidableEq, Repr

/-- The valid slot that holds a consist id (spec/02 R31). -/
def State.profile (s : State) (consist : Nat) : Option Profile :=
  s.store.working.profiles.toList.find? (fun p => p.valid && p.consist == consist)

/-- The centre of a doorway of a unit whose datum end is at u (spec/02 R35). -/
def doorwayCentre (u : Mm) (o : Orientation) (p : Profile) (d : Doorway) : Mm :=
  match o with
  | .aEndToDatum => u + d.offset
  | .bEndToDatum => u + p.unitLength - d.offset

/-- The doorways of one unit in their own numbering, from number k on (spec/02 R30, R35). -/
def placeDoorways (unitNo : Nat) (u : Mm) (o : Orientation) (p : Profile) : Nat → List Doorway → List PlacedDoorway
  | _, [] => []
  | k, d :: ds =>
    { unitNo := unitNo, doorway := k
      low2 := 2 * doorwayCentre u o p d - d.width, high2 := 2 * doorwayCentre u o p d + d.width }
      :: placeDoorways unitNo u o p (k + 1) ds

/-- The doorways of a train whose first unit has its datum end at u (spec/02 R35); none when a unit has no profile. -/
def State.placeTrain (s : State) : Nat → Mm → List TrainUnit → Option (List PlacedDoorway)
  | _, _, [] => some []
  | n, u, x :: xs =>
    match s.profile x.consist with
    | some p => (s.placeTrain (n + 1) (u + p.unitLength) xs).map (placeDoorways n u x.orientation p 1 p.doorways ++ ·)
    | none => none

/-- Twice the overlap of two intervals given by twice their ends; 0 when they do not meet (spec/02 R36). -/
def overlap2 (lowA highA lowB highB : Int) : Nat := (min highA highB - max lowA lowB).toNat

/-- Twice the overlap of a bay's opening with a doorway (spec/02 R36). -/
def bayOverlap2 (r : BayRecord) (d : PlacedDoorway) : Nat :=
  overlap2 (2 * (r.centre : Int) - r.clearWidth) (2 * (r.centre : Int) + r.clearWidth) d.low2 d.high2

/-- The doorway with the largest overlap, the first of them in the order of units and doorways (spec/02 R36). -/
def bestDoorway (r : BayRecord) : List PlacedDoorway → Option PlacedDoorway
  | [] => none
  | d :: ds =>
    match bestDoorway r ds with
    | none => some d
    | some e => if bayOverlap2 r d < bayOverlap2 r e then some e else some d

/-- The aligned entry of a bay, if it is in the aligned set (spec/02 R36). -/
def State.alignBay (s : State) (doorways : List PlacedDoorway) (b : BayIx) : Option AlignedBay :=
  let r := s.bayRecord b
  if s.sliding b then
    match bestDoorway r doorways with
    | some d =>
      if 2 * r.minOverlap ≤ bayOverlap2 r d then
        some { bay := b, unitNo := d.unitNo, doorway := d.doorway, overlap := bayOverlap2 r d / 2 }
      else none
    | none => none
  else none

/-- The aligned set (spec/02 R36). -/
def State.alignedSet (s : State) (doorways : List PlacedDoorway) : List AlignedBay :=
  allBays.filterMap (s.alignBay doorways)

/-! ### Judging a berthing (spec/02 R37, R39, R40) -/

/-- The classification of a stop error (spec/02 R37). -/
def classify (p : Platform) (stopError : Int) : Alignment :=
  if stopError.natAbs ≤ p.stopTolerance then .aligned
  else if stopError.natAbs ≤ p.extendedWindow then .offset
  else .misaligned

/-- The measured position agrees with the pattern of the placed sensors (spec/02 R39). -/
def State.crossCheck (s : State) (measured : Mm) : Bool :=
  let lead := s.placed.takeWhile (fun p => !s.sensorOccupied p)
  match s.placed.dropWhile (fun p => !s.sensorOccupied p) with
  | [] => false
  | first :: rest =>
    let lower := (lead.getLast?.map Placed.position).getD Config.coordinateMin
    (rest.dropWhile s.sensorOccupied).all (fun p => !s.sensorOccupied p)
      && lower - s.platform.agreementMargin ≤ measured && measured ≤ first.position + s.platform.agreementMargin

/-- The alignment result (spec/02 R40). -/
def State.alignmentOf (s : State) (measured : Mm) (stopError : Int) : Alignment :=
  if s.placed.isEmpty || s.crossCheck measured then classify s.platform stopError else .disagree

/-- A signed event value limited to 16 bits (spec/02 R34). -/
def signedValue (v : Int) : Nat := (BitVec.ofInt 16 (max (-32768) (min 32767 v))).toNat

/-- An accepted BERTH (spec/02 R34). -/
def State.berthAt (s : State) (measured : Mm) (doorways : List PlacedDoorway) : State :=
  let stopError := measured - s.train.target.getD 0
  ({ s with train := { s.train with
      state := .berthed, measured := some measured, stopError := some stopError
      alignment := s.alignmentOf measured stopError, checked := !s.placed.isEmpty
      aligned := s.alignedSet doorways } }).post .berthed none (signedValue stopError)

/-! ### The return to EMPTY and the sensor watches (spec/02 R33, R41, R49, R50) -/

/-- The record returns to its EMPTY values, an event is posted, and the gap result becomes NONE (spec/02 R28, R33, R49,
spec/03 R76). The presence of the former members is evaluated after that event is posted (log 37, the model's choice). -/
def Ev.returnEmpty (e : Ev) (k : EventKind) (value : Nat) : Ev × List Task :=
  (e.on (fun s => (({ s with train := .reset }).post k none value).setGap .none), e.s.train.map.map .presence)

/-- The departure watch is examined (spec/02 R49). -/
def Ev.departWatch (e : Ev) : Ev × List Task :=
  if e.s.train.state == .departing && e.s.sensorsClear then e.returnEmpty .trainCleared 0 else (e, [])

/-- A filtered change of a BERTH_SENSOR line (spec/02 R38, R41, R50). -/
def Ev.berthSensor (e : Ev) (n : LineIx) : Ev × List Task :=
  match e.s.placedOn n with
  | none => (e, [])
  | some p =>
    match e.s.train.state with
    | .empty | .announced => (e, [])
    | .berthed =>
      if e.s.train.alignment == .stale then (e, [])
      else (e.on (fun s => ({ s with train := { s.train with alignment := .stale } }).post .alignmentStale none p.index), [])
    | .enabled | .closing => (e, [.raiseFace .trainMoved p.index])
    | .departing => e.departWatch

/-! ### Selection and the map (spec/02 R42 to R45) -/

/-- Selection kinds (spec/02 R42), in the order of spec/11 R181. -/
inductive SelectionKind
  | all | near | far
  deriving DecidableEq, Repr

/-- What OPEN_MAP carries (spec/02 R42). -/
structure Selection where
  kind : SelectionKind
  count : Nat
  invert : Bool
  acceptOffset : Bool
  dwell : Nat
  deriving DecidableEq, Repr

/-- The bays a selection names, invert apart (spec/02 R43). -/
def Selection.named (x : Selection) (aligned : List BayIx) : List BayIx :=
  match x.kind with
  | .all => aligned
  | .near => aligned.take x.count
  | .far => aligned.drop (aligned.length - x.count)

/-- The bays selected (spec/02 R43). -/
def Selection.select (x : Selection) (aligned : List BayIx) : List BayIx :=
  if x.invert then aligned.filter (fun b => !(x.named aligned).contains b) else x.named aligned

/-- Why a selected bay is excluded, if it is (spec/02 R43). -/
def State.exclusion (s : State) (b : BayIx) : Option Reason :=
  match (s.bay b).phase with
  | .released => some .released
  | .faulted => some .faulted
  | .isolated => some .isolated
  | .closedLocked | .unlocking | .opening | .opened | .warning | .closing | .reopening | .closedUnlocked | .stopped
  | .notFitted => if (s.bay b).hold then some .held else none

/-- The bays of the aligned set, in increasing bay number (spec/02 R28). -/
def Train.alignedBays (t : Train) : List BayIx := t.aligned.map AlignedBay.bay

/-- The selected bays of the present aligned set (spec/02 R43). -/
def State.selected (s : State) (x : Selection) : List BayIx := x.select s.train.alignedBays

/-- The map that would be formed (spec/02 R43). -/
def State.mapOf (s : State) (x : Selection) : List BayIx := (s.selected x).filter (fun b => (s.exclusion b).isNone)

/-- The excluded bays with their reasons (spec/02 R43). -/
def State.excludedOf (s : State) (x : Selection) : List (BayIx × Reason) :=
  (s.selected x).filterMap (fun b => (s.exclusion b).map (fun r => (b, r)))

/-- The alignment result admits OPEN_MAP (spec/02 R42). -/
def Alignment.admits (a : Alignment) (acceptOffset : Bool) : Bool :=
  match a with
  | .aligned => true
  | .offset => acceptOffset
  | .none | .misaligned | .disagree | .stale => false

/-- The presence of every map member is formed (spec/03 R70), between the gap result and the next record. -/
def State.formMembers (s : State) : State := s.train.map.foldl State.formPresence s

/-- Steps 1 to 5 of a formation (spec/02 R44). -/
def State.formMap (s : State) (map : List BayIx) (dwell : Nat) : State :=
  ((({ s with train := { s.train with
        map := map, state := .enabled, dwellLimit := dwell, dwellElapsed := 0, due := false, overstay := false } }).setGap
      .pending).formMembers).post .mapFormed none (highLow 0 map.length)

/-- The formation of the map with its OPEN claims (spec/02 R44). -/
def Ev.openMap (e : Ev) (map : List BayIx) (excluded : List (BayIx × Reason)) (dwell : Nat) : Ev × List Task :=
  ({ e.on (fun s => s.formMap map dwell) with refused := excluded }, map.map (.openMember false))

/-- The members a re-open claims (spec/02 R45). -/
def State.reopenCount (s : State) : Nat :=
  (s.train.map.filter (fun b =>
    (s.bay b).phase != .opened && (s.bay b).phase != .released && (s.bay b).phase != .faulted)).length

/-- A re-open with its OPEN claims (spec/02 R45). -/
def Ev.reopenMap (e : Ev) : Ev × List Task :=
  let n := e.s.reopenCount
  (e.on (fun s => ((({ s with train := { s.train with state := .enabled } }).setGap .pending).formMembers).post .mapFormed
      none (highLow 1 n)),
    e.s.train.map.map (.openMember true))

/-- An accepted DEPART (spec/02 R48): the departure watch is examined at once. -/
def Ev.depart (e : Ev) : Ev × List Task :=
  (e.on (fun s => ({ s with train := { s.train with state := .departing } }).post .departed none s.proof.value.code)).departWatch

/-! ### Dwell (spec/02 R52, R53) -/

/-- DUE is set (spec/02 R52). -/
def State.setDue (s : State) : State :=
  ({ s with train := { s.train with due := true } }).post .dwellDue none s.train.dwellLimit

/-- OVERSTAY is set (spec/02 R52). -/
def State.setOverstay (s : State) : State :=
  ({ s with train := { s.train with overstay := true } }).post .dwellOverstay none s.train.dwellLimit

/-- The dwell comparison (spec/02 R52), DWELL_DUE before DWELL_OVERSTAY. -/
def State.compareDwell (s : State) : State :=
  if s.train.dwellLimit == 0 then s
  else
    let s1 := if !s.train.due && s.train.dueAt ≤ s.train.dwellElapsed then s.setDue else s
    if !s1.train.overstay && s1.overstayAt ≤ s1.train.dwellElapsed then s1.setOverstay else s1

/-- Elapsed reaches a threshold at the latest now (log 23). -/
def State.reachDwell (s : State) (threshold : Nat) : State :=
  ({ s with train := { s.train with dwellElapsed := max s.train.dwellElapsed threshold } }).compareDwell

/-- The limit after an extension (spec/02 R53). -/
def Train.extended (t : Train) (step : Nat) : Nat := min Config.dwellLimitMax (t.dwellLimit + step)

/-- The flags after an extension to a new limit (spec/02 R53). -/
def State.extendFlags (s : State) (limit : Nat) : Bool × Bool :=
  let t := s.train
  if t.dwellElapsed < limit * 1000 then (false, false)
  else (t.due, t.overstay && !(t.dwellElapsed < (limit + s.platform.overstayMargin) * 1000))

/-- An accepted extension (spec/02 R53). -/
def State.extendDwell (s : State) (step : Nat) : State :=
  let limit := s.train.extended step
  let flags := s.extendFlags limit
  (({ s with train := { s.train with dwellLimit := limit, due := flags.1, overstay := flags.2 } }).post .dwellExtended none
    limit).compareDwell

end Sys2Proof.Machine
end

