-- ==== Sys2Proof/Machine/FieldLines.lean ====
section
/-! DEFINITION. The lines of the field unit (spec/03, 3.1 and 3.2): filters, the owners of a filtered change, the general
line table and what WRITE_LINE does to a line and its owners. -/

namespace Sys2Proof.Machine

/-! ### Filters (spec/03 R56 to R58) -/

/-- A line is read as an input: bay inputs always are, a general line by its function (spec/03 R56, R63). -/
def State.isInput (s : State) : InputLine → Bool
  | .bay _ _ => true
  | .general n => (s.lineRecord n).function.isInput

/-- The raw level of a line (spec/03 R56). -/
def State.setRaw (s : State) (l : InputLine) (high : Bool) : State :=
  s.setInputLine l { s.inputLine l with raw := high }

/-- The filter of a line starts afresh from its logical level (spec/03 R58, R63). -/
def State.refilter (s : State) (l : InputLine) : State :=
  s.setInputLine l { s.inputLine l with level := s.logicalLevel l, candidate := none }

/-- The filtered level of a line becomes the opposite one (spec/03 R57). -/
def State.changeLevel (s : State) (l : InputLine) : State :=
  s.setInputLine l { s.inputLine l with level := !(s.inputLine l).level, candidate := none }

/-- The candidate of a line's filter (spec/03 R57). -/
def State.setCandidate (s : State) (l : InputLine) (t : Option Timer) : State :=
  s.setInputLine l { s.inputLine l with candidate := t }

/-! ### The owners of a filtered change (spec/03 R59, R61) -/

/-- A filtered change of a bay input reaches its owner (spec/03 R59). -/
def Ev.bayInput (e : Ev) (b : BayIx) (i : BayInput) : Ev × List Task :=
  match e.s.kind b with
  | .absent => (e, [])
  | .sliding =>
    match i with
    | .curtain => e.sensorInput b .curtain
    | .gap => e.sensorInput b .gap
    | .releaseKey => if (e.s.bay b).lines.releaseKey.level then e.keyActive b else e.keyInactive b
    | .closed | .locked | .fullyOpen | .obstructed | .driveFault => e.slidingInput b i
  | .escape | .endDoor =>
    match i with
    | .closed | .locked | .releaseKey => e.doorInput b
    | .fullyOpen | .obstructed | .driveFault | .gap | .curtain => (e, [])

/-- A change of a function's level reaches the owner of the function (spec/03 R61, R65; spec/04 R88; spec/05 R104, R110;
spec/08 R148). -/
def Ev.functionChange (e : Ev) (f : LineFunction) (level : Bool) (n : LineIx) : Ev × List Task :=
  match f with
  | .fireInput => (e, if level then [.fireSet .fireInput] else [])
  | .panelOpen => (e, if level then [.fireSet .panelOpen] else [])
  | .keyReset => if level then e.fireReset else (e, [])
  | .bypassKey =>
    (e.on (fun s => ({ s with proof := { s.proof with keyLevel := level } }).post .bypassChanged none (flagCode level)), [])
  | .maintenanceKey => if !level && e.s.mode.mode == .maintenance then e.leaveMaintenance else (e, [])
  | .fieldSupplyOk => (e, if level then [] else [.raiseFace .fieldSupplyLost (bayNumber n)])
  | .berthSensor | .generalInput | .secureOut | .bypassLamp | .alarmOut | .generalOutput | .unused => (e, [])

/-- A filtered edge of a GENERAL_INPUT line (spec/03 R64). -/
def State.generalEdge (s : State) (n : LineIx) : State :=
  let x := s.line n
  let r := s.lineRecord n
  if (if x.line.level then r.rising else r.falling) then
    (s.setLine n { x with changeLatch := true }).post .lineChanged none (highLow (bayNumber n) (flagCode x.line.level))
  else s

/-- A filtered change of a general line reaches its owner (spec/03 R59, R61). -/
def Ev.generalChange (e : Ev) (n : LineIx) : Ev × List Task :=
  match (e.s.lineRecord n).function with
  | .berthSensor => e.berthSensor n
  | .generalInput => (e.on (fun s => s.generalEdge n), [])
  | f => e.functionChange f (e.s.line n).line.level n

/-- A change of a filtered level is taken (spec/03 R59). -/
def Ev.filteredChange (e : Ev) (l : InputLine) : Ev × List Task :=
  let e1 := e.on (fun s => s.changeLevel l)
  match l with
  | .bay b i => e1.bayInput b i
  | .general n => e1.generalChange n

/-! ### Writing a line record (spec/03 R62, R63) -/

/-- The functions that at most one line holds (spec/03 R62). -/
def LineFunction.unique : LineFunction → Bool
  | .fireInput | .panelOpen | .keyReset | .bypassKey | .maintenanceKey | .fieldSupplyOk | .secureOut | .bypassLamp
  | .alarmOut => true
  | .berthSensor | .generalInput | .generalOutput | .unused => false

/-- Another line holds what a record claims for itself alone (spec/03 R62, checks 2 and 3). -/
def State.lineTaken (s : State) (n : LineIx) (r : LineRecord) : Bool :=
  allLines.any (fun m => m != n && (s.lineRecord m).function == r.function
    && (r.function.unique || (r.function == .berthSensor && (s.lineRecord m).index == r.index)))

/-- The write would end a maintenance session (spec/03 R62, check 4). -/
def State.endsSession (s : State) (n : LineIx) (r : LineRecord) : Bool :=
  s.mode.mode == .maintenance && (s.lineRecord n).function == .maintenanceKey
    && (r.function != .maintenanceKey || r.polarity != (s.lineRecord n).polarity)

/-- A record of the working copy is replaced and dirty is set (spec/09 R161). -/
def State.setWorking (s : State) (w : Records) : State := { s with store := { s.store with working := w, dirty := true } }

/-- The record of a general line is replaced (spec/09 R161). -/
def State.setLineRecord (s : State) (n : LineIx) (r : LineRecord) : State :=
  s.setWorking { s.store.working with lines := s.store.working.lines.set n.val r n.isLt }

/-- The volatile part of a line after a write that changes its function or polarity (spec/03 R63). A line that leaves
GENERAL_OUTPUT keeps its output latch (log 45, the model's choice). -/
def State.restartLine (s : State) (n : LineIx) (old : LineFunction) : State :=
  let s1 := s.refilter (.general n)
  let x := s1.line n
  let takesOutput := (s1.lineRecord n).function == .generalOutput && old != .generalOutput
  s1.setLine n { x with changeLatch := false, outputLatch := x.outputLatch && !takesOutput }

/-- The record is written and the volatile part follows (spec/03 R63). -/
def State.writeLine (s : State) (n : LineIx) (r : LineRecord) : State :=
  let old := s.lineRecord n
  let s1 := s.setLineRecord n r
  if old.function != r.function || old.polarity != r.polarity then s1.restartLine n old.function else s1

/-- The owner of a function compares its level after a write with its level before (spec/03 R63). -/
def Ev.compareOwner (e : Ev) (before : State) (f : LineFunction) (n : LineIx) : Ev × List Task :=
  let level := e.s.functionLevel f
  if before.functionLevel f != level then e.functionChange f level n else (e, [])

/-- The proof unit takes the level of the bypass key as the level that stands, with no change: at the end of STARTING (spec/04
R91), and where the filter of its line starts afresh (spec/03 R58; log 11). -/
def State.standingKey (s : State) : State :=
  { s with proof := { s.proof with keyLevel := s.functionLevel .bypassKey } }

/-- The owner of a function receives the level of its line as the level that stands (spec/03 R58): the proof unit alone holds a
level of its own, the others read the line. -/
def Ev.receiveStanding (e : Ev) (f : LineFunction) : Ev := if f == .bypassKey then e.on State.standingKey else e

/-- Two parts of an event, one after the other: the tasks of both, in order. -/
def Ev.andThen (p : Ev × List Task) (f : Ev → Ev × List Task) : Ev × List Task := ((f p.1).1, p.2 ++ (f p.1).2)

/-- The placed sensors may have changed: while DEPARTING the departure watch is examined (spec/02 R49), once the tasks that
wait are done (log 29). -/
def Ev.placedChange (e : Ev) (before : State) : Ev × List Task :=
  (e, if before.placed != e.s.placed then [.departWatch] else [])

/-- An accepted WRITE_LINE (spec/03 R63): the owner of the function taken off the line, then the owner of the function
given to it, then the departure watch, each with all that it brings about (log 29, the model's choice of order). Where the
function stays its owner receives the standing level (spec/03 R58; log 11). -/
def Ev.writeLine (e : Ev) (n : LineIx) (r : LineRecord) : Ev × List Task :=
  let before := e.s
  let f := (before.lineRecord n).function
  let e1 := e.on (fun s => s.writeLine n r)
  let owners : Ev × List Task :=
    if f == r.function then (e1.receiveStanding f, [])
    else Ev.andThen (e1.compareOwner before f n) (fun e2 => e2.compareOwner before r.function n)
  Ev.andThen owners (fun e2 => e2.placedChange before)

end Sys2Proof.Machine
end

