-- ==== Sys2Proof/Machine/Perform.lean ====
section
/-! DEFINITION. BAY_COMMAND on one bay (spec/01 R26, R27), what each task does, and an event carried to its end: its tasks
one after another, then what every event ends with. -/

namespace Sys2Proof.Machine

/-! ### BAY_COMMAND on one bay -/

/-- The modes that admit an action (spec/01 R26). -/
def BayAction.admitted (a : BayAction) (m : Mode) : Bool :=
  match a with
  | .opens => m == .maintenance
  | .closes | .stop => m == .service || m == .maintenance
  | .hold | .free | .isolate | .restore | .clearFault => m == .service || m == .maintenance || m == .halted

/-- The kinds an action takes (spec/01 R26). -/
def BayAction.takes (a : BayAction) (k : BayKind) : Bool :=
  match a with
  | .clearFault => k == .sliding || k == .escape || k == .endDoor
  | .opens | .closes | .stop | .hold | .free | .isolate | .restore => k == .sliding

/-- The phase is in the action's Accepted-when column, its proofs apart (spec/01 R26). -/
def BayAction.admitsPhase (a : BayAction) (q : Phase) : Bool :=
  match a with
  | .opens => q == .closedLocked || q == .closedUnlocked || q == .stopped || q == .warning || q == .closing
  | .closes => q == .opened || q == .opening || q == .unlocking || q == .stopped
  | .stop => q.isMoving
  | .hold | .free => true
  | .isolate => q == .closedLocked || q == .faulted
  | .restore => q == .isolated
  | .clearFault => q == .faulted

/-- The proofs an action asks for hold (spec/01 R26). -/
def BayAction.proofsHold (a : BayAction) (x : Bay) : Bool :=
  match a with
  | .isolate => x.phase != .faulted || x.bothProofs
  | .restore => x.bothProofs
  | .opens | .closes | .stop | .hold | .free | .clearFault => true

/-- The reason a phase gives when an action does not admit it (spec/01 R26). -/
def Phase.refusal : Phase → Reason
  | .faulted => .faulted
  | .released => .released
  | .isolated => .isolated
  | .closedLocked | .unlocking | .opening | .opened | .warning | .closing | .reopening | .closedUnlocked | .stopped
  | .notFitted => .phase

/-- The reason of a claim that the action makes, if it is refused (spec/01 R6, R7, R10). -/
def State.claimRefusal (s : State) (a : BayAction) (b : BayIx) : Option Reason :=
  match a with
  | .opens => (s.judgeOpen b).reason
  | .closes => (s.judgeClose b).reason
  | .stop | .hold | .free | .isolate | .restore | .clearFault => none

/-- Why an action is refused for a bay, the first reason that applies (spec/01 R26); none when it is accepted. -/
def State.commandRefusal (s : State) (a : BayAction) (b : BayIx) : Option Reason :=
  let x := s.bay b
  if s.kind b == .absent then some .absent
  else if !a.takes (s.kind b) then some .wrongKind
  else if a == .closes && s.fire then some .emergency
  else if (a == .hold || a == .isolate) && s.isMember b then some .inMap
  else if !a.admitsPhase x.phase then some x.phase.refusal
  else if !a.proofsHold x then some .phase
  else s.claimRefusal a b

/-- ISOLATE on an accepted bay (spec/01 R21). -/
def Ev.isolate (e : Ev) (b : BayIx) : Ev × List Task :=
  let wasFaulted := (e.s.bay b).phase == .faulted
  let e1 := e.enter b .isolated
  (if wasFaulted then e1.on (fun s => s.clearFrame .isolate b) else e1, entered b)

/-- RESTORE on an accepted bay (spec/01 R22); the fire latch then acts on it (spec/05 R108, R109). With the key active the
bay passes through CLOSED_LOCKED, whose checks at entry are not made (log 36, the model's choice). With the latch set the
checks at entry to CLOSED_LOCKED are made before the latch passes the bay on (log 46, the model's choice). -/
def Ev.restore (e : Ev) (b : BayIx) : Ev × List Task :=
  let e1 := (e.enter b .closedLocked).onBay b (fun x => { x with hold := true })
  (if (e.s.bay b).lines.releaseKey.level then e1.enterReleased b .key else e1, entered b ++ [.fireBack b])

/-- CLEAR_FAULT on an accepted bay (spec/07 R141). -/
def Ev.clearFault (e : Ev) (b : BayIx) : Ev × List Task := (e.on (fun s => s.clearFrame .clearFault b)).derive b

/-- The effect of an action on an accepted bay (spec/01 R27). -/
def Ev.act (e : Ev) (a : BayAction) (b : BayIx) : Ev × List Task :=
  match a with
  | .opens => e.openClaim b
  | .closes => e.closeClaim b
  | .stop => e.stopBay b
  | .hold => (e.onBay b (fun x => { x with hold := true }), [])
  | .free => (e.onBay b (fun x => { x with hold := false }), [])
  | .isolate => e.isolate b
  | .restore => e.restore b
  | .clearFault => e.clearFault b

/-- A BAY_COMMAND judges one bay of its set, and carries the action out at once if it is accepted (spec/01 R26). -/
def Ev.command (e : Ev) (a : BayAction) (b : BayIx) : Ev × List Task :=
  match e.s.commandRefusal a b with
  | some r => (e.report b r, [])
  | none => { e with accepted := e.accepted ++ [b] }.act a b

/-! ### The entry to HALTED at one bay -/

/-- The entry to HALTED stops a SLIDING bay in a moving phase (spec/08 R151). -/
def Ev.haltStop (e : Ev) (b : BayIx) : Ev × List Task := e.stopBay b

/-! ### Carrying an event out -/

/-- What a task does, and what it puts before the tasks that wait. -/
def Task.perform (t : Task) (e : Ev) : Ev × List Task :=
  match t with
  | .formGap => e.formGap
  | .presence b => e.presence b
  | .arrive b => e.arrive b
  | .obstruct atEntry b => e.obstruct atEntry b
  | .conflict b => e.raiseConflict b
  | .raise b c d => e.raise b c d
  | .raiseAtEntry b c d => e.raiseAtEntry b c d
  | .raiseFace c d => e.raiseFace c d
  | .effect p c => e.effect p c
  | .openMember again b => e.openMember again b
  | .closeMember reported b => e.closeMember reported b
  | .haltStop b => e.haltStop b
  | .fireSet source => e.fireSet source
  | .fireOpen b => e.fireOpen b
  | .fireRelease b => e.fireRelease b
  | .fireBack b => e.fireBack b
  | .fireClose b => e.fireClose b
  | .fireUndo b => e.fireUndo b
  | .linkLoss b => e.linkLoss b
  | .postExpired period => (e.on (fun s => s.post .supervisionExpired none period), [])
  | .departWatch => e.departWatch
  | .exitClose b => e.exitClose b
  | .command a b => e.command a b

/-- The tasks of an event, carried out from the front; past the bound the event is held to be endless (log 5). -/
def run : Nat → List Task → Ev → Ev
  | _, [], e => e
  | 0, _ :: _, e => e.on (fun s => { s with stalled := true })
  | n + 1, t :: ts, e => run n ((t.perform e).2 ++ ts) (t.perform e).1

/-! ### What every event ends with -/

/-- A suspended commit resumes when the train is EMPTY and the latch clear (spec/09 R166). -/
def State.resumeStore (s : State) : State :=
  if s.store.state == .suspended && s.train.state == .empty && !s.fire then
    ({ s with store := { s.store with state := .committing } }).post .commitResumed none s.store.written
  else s

/-- The stuck timers of every bay (spec/03 R73). -/
def State.watchStuck (s : State) : State := allBays.foldl State.stuckWatch s

/-- The alarm (spec/05 R114). -/
def State.formAlarm (s : State) : State := { s with release := { s.release with alarm := s.alarmNow } }

/-- The proof unit's evaluation (spec/04 R86): SECURE_CHANGED follows every other record of the event (R87). -/
def State.formProof (s : State) : State :=
  let p := s.proofNow
  let s1 := { s with proof := p }
  if p.value == s.proof.value then s1
  else s1.post .secureChanged p.holding (highLow s.proof.value.code p.value.code)

/-- The pins follow the state (spec/01 R5, spec/03 R66, spec/10 R180). -/
def State.formPins (s : State) : State := { s with pins := s.pinsNow }

/-- The end of an event (log 26). -/
def State.settle (s : State) : State := s.resumeStore.watchStuck.formAlarm.formProof.formPins

/-- An event is carried to its end. -/
def Ev.finish (e : Ev) (ts : List Task) : Ev := (run Config.eventBound ts e).on State.settle

/-- An event that starts from a state with an action of one block. -/
def State.event (s : State) (f : Ev → Ev × List Task) : State :=
  let p := f (Ev.start s)
  (p.1.finish p.2).s

end Sys2Proof.Machine
end

