-- ==== Sys2Proof/Machine/LineRows.lean ====
section
/-! DEFINITION. Line levels and filters: rows RAW_LEVEL_CHANGE and FILTER_HOLD_EXPIRES (spec/03 R56, R57). -/

namespace Sys2Proof.Machine

/-- The filter of a line takes a change of its logical level (spec/03 R57). -/
def State.filterTakes (s : State) (l : InputLine) : State :=
  if s.logicalLevel l == (s.inputLine l).level then s.setCandidate l none
  else if (s.filterClass l).holdTime == 0 then s.event (fun e => e.filteredChange l)
  else s.setCandidate l (some (.start (s.filterClass l).holdTime))

/-- RAW_LEVEL_CHANGE: the raw level of a line becomes high or low (spec/03 R56, R57). The level itself stands whatever the
part does; the filter of an input takes it while the part runs and STARTING is over (spec/03 R58). -/
def execRawLevelChange (l : InputLine) (high : Bool) (s : State) : Host.Outcome State Fault Refusal :=
  .next (if (s.inputLine l).raw == high then s
    else if s.active && s.isInput l then (s.setRaw l high).filterTakes l
    else s.setRaw l high)

/-- FILTER_HOLD_EXPIRES: the candidate has stood for its hold time and becomes the filtered level (spec/03 R57; log 2). -/
def execFilterHoldExpires (l : InputLine) (s : State) : Host.Outcome State Fault Refusal :=
  .next (if s.active && s.isInput l && (s.inputLine l).candidate.isSome then s.event (fun e => e.filteredChange l) else s)

end Sys2Proof.Machine
end

