-- ==== Sys2Proof/Machine/Bytes.lean ====
section
/-! DEFINITION. Bytes of frames and records (spec/11 R181, most significant byte first) and the CRC (spec/10 R170). -/

namespace Sys2Proof.Machine

/-- One byte of an unsigned number. -/
def be8 (v : Nat) : List Byte := [BitVec.ofNat 8 v]

/-- Two bytes, most significant first. -/
def be16 (v : Nat) : List Byte := [BitVec.ofNat 8 (v / 256), BitVec.ofNat 8 v]

/-- Three bytes, most significant first. -/
def be24 (v : Nat) : List Byte := [BitVec.ofNat 8 (v / 65536), BitVec.ofNat 8 (v / 256), BitVec.ofNat 8 v]

/-- Four bytes, most significant first. -/
def be32 (v : Nat) : List Byte :=
  [BitVec.ofNat 8 (v / 16777216), BitVec.ofNat 8 (v / 65536), BitVec.ofNat 8 (v / 256), BitVec.ofNat 8 v]

/-- Four bytes of a signed number, two's complement (spec/11 R181). -/
def beSigned32 (v : Int) : List Byte := be32 (BitVec.ofInt 32 v).toNat

/-- The unsigned number of two bytes. -/
def word16 (a b : Byte) : Nat := a.toNat * 256 + b.toNat

/-- The unsigned number of three bytes. -/
def word24 (a b c : Byte) : Nat := (a.toNat * 256 + b.toNat) * 256 + c.toNat

/-- The unsigned number of four bytes. -/
def word32 (a b c d : Byte) : Nat := ((a.toNat * 256 + b.toNat) * 256 + c.toNat) * 256 + d.toNat

/-- The signed number of four bytes, two's complement. -/
def signed32 (a b c d : Byte) : Int := (BitVec.ofNat 32 (word32 a b c d)).toInt

/-- The number whose bit i is p i: a set of bays or lines (spec/11 R181, bit 0 is bay or line 1). -/
def setNumber (p : Fin 24 → Bool) : Nat :=
  (List.finRange 24).foldl (fun acc i => if p i then acc + 2 ^ i.val else acc) 0

/-- The three bytes of a set of bays or lines. -/
def setBytes (p : Fin 24 → Bool) : List Byte := be24 (setNumber p)

/-- Whether bay or line i is in a set that three bytes carry. -/
def inSet (v : Nat) (i : Fin 24) : Bool := v.testBit i.val

/-- One bit of the CRC (spec/10 R170): polynomial 0x1021, not reflected. -/
def crcBit (crc : BitVec 16) : BitVec 16 :=
  if crc.msb then (crc <<< 1) ^^^ 0x1021#16 else crc <<< 1

/-- The CRC after n more bits. -/
def crcBits : Nat → BitVec 16 → BitVec 16
  | 0, crc => crc
  | n + 1, crc => crcBits n (crcBit crc)

/-- The CRC after one more byte. -/
def crcByte (crc : BitVec 16) (b : Byte) : BitVec 16 := crcBits 8 (crc ^^^ (b.setWidth 16 <<< 8))

/-- The CRC of a run of bytes, from the initial value 0xFFFF (spec/10 R170). -/
def crc16 (bytes : List Byte) : BitVec 16 := bytes.foldl crcByte 0xFFFF#16

/-- A frame on the line (spec/11, 11.2): sync, length, kind, body, and the CRC over length, kind and body, high byte
first. -/
def frameBytes (kind : Byte) (body : List Byte) : List Byte :=
  let covered := BitVec.ofNat 8 (body.length + 1) :: kind :: body
  0x5A#8 :: covered ++ be16 (crc16 covered).toNat

end Sys2Proof.Machine
end

