-- ==== Sys2Proof/Machine/Operands.lean ====
section
/-! DEFINITION. The operand forms of the requests: every body of spec/11, 11.4, 11.5 and 11.7, read from its bytes. None
means that a field lies outside its range (spec/11 R181); the length of a body has been checked before (spec/10 R171). -/

namespace Sys2Proof.Machine

/-- A bay or line number, 1 to 24. -/
def bayOf (n : Nat) : Option (Fin 24) := if h : n - 1 < 24 ∧ 1 ≤ n then some ⟨n - 1, h.1⟩ else none

/-- A profile slot number, 1 to 12. -/
def slotOf (n : Nat) : Option (Fin 12) := if h : n - 1 < 12 ∧ 1 ≤ n then some ⟨n - 1, h.1⟩ else none

/-- A code of the response table, 0 to 31. -/
def codeOf (n : Nat) : Option (Fin 32) := if h : n < 32 then some ⟨n, h⟩ else none

/-- A value that a check admits. -/
def keep {α : Type} (p : α → Bool) (x : α) : Option α := if p x then some x else none

/-- The bays or lines of a set, in increasing number. -/
def membersOf (v : Nat) : List (Fin 24) := allBays.filter (inSet v)

/-- One unit of ANNOUNCE (spec/02 R32). -/
def unitOperand (consist orientation : Byte) : Option TrainUnit :=
  (Orientation.ofCode orientation.toNat).bind (fun o =>
    keep (fun u => 1 ≤ u.consist && u.consist ≤ 250) { consist := consist.toNat, orientation := o })

/-- ANNOUNCE (spec/11, 11.7): its units and the target position. With one unit the second is not read. -/
def announceOperand : List Byte → Option (List TrainUnit × Mm)
  | [count, c1, o1, c2, o2, t3, t2, t1, t0] =>
    let units : Option (List TrainUnit) :=
      match count.toNat with
      | 1 => (unitOperand c1 o1).map (fun u => [u])
      | 2 => (unitOperand c1 o1).bind (fun u => (unitOperand c2 o2).map (fun v => [u, v]))
      | _ => none
    units.bind (fun us => (keep coordinateOk (signed32 t3 t2 t1 t0)).map (fun t => (us, t)))
  | _ => none

/-- BERTH (spec/11, 11.7): the measured position. -/
def berthOperand : List Byte → Option Mm
  | [a, b, c, d] => keep coordinateOk (signed32 a b c d)
  | _ => none

/-- Selection kinds by code (spec/11 R181). -/
def SelectionKind.ofCode : Nat → Option SelectionKind
  | 0 => some .all | 1 => some .near | 2 => some .far | _ => none

/-- OPEN_MAP (spec/11, 11.4; spec/02 R42; log 18). -/
def openMapOperand : List Byte → Option Selection
  | [kind, n, options, d1, d0] =>
    (SelectionKind.ofCode kind.toNat).bind (fun k =>
      keep (fun x => 1 ≤ x.count && x.count ≤ 24 && options.toNat < 4 && x.dwell ≤ Config.dwellLimitMax)
        { kind := k, count := n.toNat, invert := options.getLsbD 0, acceptOffset := options.getLsbD 1
          dwell := word16 d1 d0 })
  | _ => none

/-- READ_BAYS (spec/10 R176): the first bay and the count. -/
def readBaysOperand : List Byte → Option (BayIx × Nat)
  | [first, count] =>
    (bayOf first.toNat).bind (fun b => (keep (fun n => 1 ≤ n && n ≤ 12) count.toNat).map (fun n => (b, n)))
  | _ => none

/-- READ_FAULT (spec/07 R143): the target, none for the platform frame, and the clear flag. -/
def readFaultOperand : List Byte → Option (Option BayIx × Bool)
  | [target, clear] =>
    (flagOfCode clear.toNat).bind (fun f =>
      if target.toNat = 0 then some (none, f) else (bayOf target.toNat).map (fun b => (some b, f)))
  | _ => none

/-- READ_RELEASES (spec/05 R115): the start position. -/
def readReleasesOperand : List Byte → Option Nat
  | [start] => keep (fun n => 1 ≤ n && n ≤ 32) start.toNat
  | _ => none

/-- READ_LINES (spec/03 R69): the bay, none for 0. -/
def readLinesOperand : List Byte → Option (Option BayIx)
  | [n] => if n.toNat = 0 then some none else (bayOf n.toNat).map some
  | _ => none

/-- A record that READ_CONFIG names (spec/09 R163). -/
inductive ConfigIndex
  | bay (b : BayIx)
  | profile (i : Fin 12)
  | response (i : Fin 32)
  | line (n : LineIx)
  | platform
  deriving DecidableEq, Repr

/-- READ_CONFIG (spec/09 R163): the record group and the index. -/
def readConfigOperand : List Byte → Option ConfigIndex
  | [group, index] =>
    match group.toNat with
    | 0 => (bayOf index.toNat).map .bay
    | 1 => (slotOf index.toNat).map .profile
    | 2 => (codeOf index.toNat).map .response
    | 3 => (bayOf index.toNat).map .line
    | 4 => if index.toNat = 0 then some .platform else none
    | _ => none
  | _ => none

/-- TAKE_EVENTS (spec/10 R179): the count. -/
def takeEventsOperand : List Byte → Option Nat
  | [count] => keep (fun n => 1 ≤ n && n ≤ 12) count.toNat
  | _ => none

/-- SET_TRACE (spec/01 R25): the bay set and the flag. -/
def setTraceOperand : List Byte → Option (Nat × Bool)
  | [a, b, c, flag] => (flagOfCode flag.toNat).map (fun f => (word24 a b c, f))
  | _ => none

/-- BAY_COMMAND (spec/11, 11.4): the bay set and the action. -/
def bayCommandOperand : List Byte → Option (Nat × BayAction)
  | [a, b, c, action] => (BayAction.ofCode action.toNat).map (fun x => (word24 a b c, x))
  | _ => none

/-- A BAY_COMMAND body of the kind's own length with a row's action at offset 3 (spec/11, 11.4). -/
def withAction (x : BayAction) : List Byte → List Byte
  | [a, b, c, _] => [a, b, c, BitVec.ofNat 8 x.code]
  | body => body

/-- ACK_RELEASE (spec/05 R116, spec/11, 11.7): none for the mark ALL, or a number. -/
def ackOperand : List Byte → Option (Option Nat)
  | [all, number] =>
    match flagOfCode all.toNat with
    | some true => some none
    | some false => (keep (fun n => 1 ≤ n) number.toNat).map some
    | none => none
  | _ => none

/-- EXTEND_DWELL (spec/02 R53): the step. -/
def extendOperand : List Byte → Option Nat
  | [step] => keep (fun n => 1 ≤ n && n ≤ 120) step.toNat
  | _ => none

/-- SET_OUTPUT (spec/03 R68, spec/11, 11.7): the line set and the level set. -/
def setOutputOperand : List Byte → Option (Nat × Nat)
  | [a, b, c, d, e, f] => some (word24 a b c, word24 d e f)
  | _ => none

/-- A bay record (spec/11, 11.5; spec/01 R1). -/
def bayOperand : List Byte → Option (BayIx × BayRecord)
  | [bay, kind, c3, c2, c1, c0, w1, w0, m1, m0, u1, u0, o1, o0, k1, k0, l1, l0, loss, pf, sf, kf] =>
    (bayOf bay.toNat).bind fun b =>
    (BayKind.ofCode kind.toNat).bind fun k =>
    (LinkLoss.ofCode loss.toNat).bind fun ll =>
    (FilterClass.ofCode pf.toNat).bind fun f1 =>
    (FilterClass.ofCode sf.toNat).bind fun f2 =>
    (FilterClass.ofCode kf.toNat).bind fun f3 =>
    (keep BayRecord.inRange
      { kind := k, centre := word32 c3 c2 c1 c0, clearWidth := word16 w1 w0, minOverlap := word16 m1 m0
        unlockLimit := word16 u1 u0, openLimit := word16 o1 o0, closeLimit := word16 k1 k0, lockLimit := word16 l1 l0
        linkLoss := ll, proofFilter := f1, sensorFilter := f2, keyFilter := f3 }).map fun r => (b, r)
  | _ => none

/-- The doorways of a profile body (spec/11, 11.5). -/
def doorwaysOperand : List Byte → List Doorway
  | o2 :: o1 :: o0 :: w1 :: w0 :: rest => { offset := word24 o2 o1 o0, width := word16 w1 w0 } :: doorwaysOperand rest
  | _ => []

/-- A profile slot (spec/11, 11.5; spec/02 R30): the valid byte is 1. -/
def profileOperand : List Byte → Option (Fin 12 × Profile)
  | slot :: valid :: consist :: l2 :: l1 :: l0 :: _ :: doorways =>
    (slotOf slot.toNat).bind fun i =>
    if valid.toNat = 1 then
      (keep Profile.fieldsInRange
        { valid := true, consist := consist.toNat, unitLength := word24 l2 l1 l0
          doorways := doorwaysOperand doorways }).map fun p => (i, p)
    else none
  | _ => none

/-- ERASE_PROFILE (spec/09 R160): the slot. -/
def eraseOperand : List Byte → Option (Fin 12)
  | [slot] => slotOf slot.toNat
  | _ => none

/-- A response entry (spec/11, 11.5; spec/07 R130). -/
def responseOperand : List Byte → Option (Fin 32 × Response)
  | [code, action, retries, severity, effect] =>
    (codeOf code.toNat).bind fun i =>
    (ResponseAction.ofCode action.toNat).bind fun a =>
    (PlatformEffect.ofCode effect.toNat).bind fun p =>
    (keep Response.inRange { action := a, retries := retries.toNat, severity := severity.toNat, platformEffect := p }).map
      fun r => (i, r)
  | _ => none

/-- A line record (spec/11, 11.5; spec/03 R62). -/
def lineOperand : List Byte → Option (LineIx × LineRecord)
  | [line, function, index, polarity, filter, options] =>
    (bayOf line.toNat).bind fun n =>
    (LineFunction.ofCode function.toNat).bind fun f =>
    (Polarity.ofCode polarity.toNat).bind fun p =>
    (FilterClass.ofCode filter.toNat).bind fun c =>
    (keep (fun r => r.inRange && options.toNat < 8)
      { function := f, index := index.toNat, polarity := p, filter := c, rising := options.getLsbD 0
        falling := options.getLsbD 1, safe := options.getLsbD 2 }).map fun r => (n, r)
  | _ => none

/-- One berth sensor position entry: a presence byte and a position (spec/11, 11.5; log 19 for an absent position). The
outer none says that the presence byte is not a flag. -/
def positionOperand : List Byte → Option (Option Mm)
  | [present, a, b, c, d] => (flagOfCode present.toNat).map (fun f => if f then some (signed32 a b c d) else none)
  | _ => none

/-- Entry i of the 12 position entries. -/
def positionAt (bytes : List Byte) (i : Fin 12) : Option (Option Mm) := positionOperand ((bytes.drop (5 * i.val)).take 5)

/-- The part of the platform settings after the positions (spec/11, 11.5). -/
def platformTail (tolerance window margin : Nat) (positions : Vector (Option Mm) 12) : List Byte → Option Platform
  | [w1, w0, p1, p0, attempts, h1, h0, g1, g0, s1, s0, v1, v0, overstay] =>
    keep Platform.inRange
      { stopTolerance := tolerance, extendedWindow := window, agreementMargin := margin, positions := positions
        warningPeriod := word16 w1 w0, reopenPause := word16 p1 p0, recloseAttempts := attempts.toNat
        curtainHold := word16 h1 h0, gapScanPeriod := word16 g1 g0, stuckPeriod := word16 s1 s0
        supervisionPeriod := word16 v1 v0, overstayMargin := overstay.toNat }
  | _ => none

/-- The platform settings (spec/11, 11.5; spec/09 R162). -/
def platformOperand : List Byte → Option Platform
  | t1 :: t0 :: w1 :: w0 :: m1 :: m0 :: rest =>
    if (List.finRange 12).all (fun i => (positionAt rest i).isSome) then
      platformTail (word16 t1 t0) (word16 w1 w0) (word16 m1 m0) (tableOf (fun i => (positionAt rest i).join)) (rest.drop 60)
    else none
  | _ => none

/-- The body length of a request kind, or for WRITE_PROFILE the length that its count field gives (spec/11, 11.7). -/
def RequestKind.bodyLength (k : RequestKind) (body : List Byte) : Nat :=
  match k with
  | .poll | .cancel | .closeMap | .depart | .resume | .readStatus | .readTrain | .readMap | .emergencyOpen
  | .enterMaintenance | .leaveMaintenance | .halt | .prepareRestart | .restart | .commit | .freezeConfig
  | .fixGeometry => 0
  | .announce => 9
  | .berth => 4
  | .openMap => 5
  | .readBays => 2
  | .readFault => 2
  | .readReleases => 1
  | .readLines => 1
  | .readConfig => 2
  | .takeEvents => 1
  | .setAttention => 1
  | .setTrace => 4
  | .bayCommand => 4
  | .ackRelease => 2
  | .extendDwell => 1
  | .setOutput => 6
  | .writeBay => 22
  | .writeProfile => 7 + 5 * ((body[6]?.getD 0).toNat)
  | .eraseProfile => 1
  | .writeResponse => 5
  | .writeLine => 6
  | .writePlatform => 80

/-- The body fits the kind (spec/10 R171). -/
def RequestKind.fits (k : RequestKind) (body : List Byte) : Bool := body.length == k.bodyLength body

end Sys2Proof.Machine
end

