-- ==== Sys2Proof/Machine/Replies.lean ====
section
/-! DEFINITION. What replies carry: the summary block (spec/04 R93), records as read (spec/11, 11.5) and reply contents
(spec/11, 11.3, 11.4, 11.6, 11.8). -/

namespace Sys2Proof.Machine

/-- A flag byte. -/
def flagByte (b : Bool) : List Byte := be8 (flagCode b)

/-- The summary block but for its last item, OVERRUN (spec/11, 11.2). -/
def State.summary (s : State) : List Byte :=
  be8 s.proof.value.code ++ be8 s.train.state.code ++ be8 s.train.alignment.code ++ flagByte s.train.checked
    ++ be8 s.train.map.length ++ be8 s.membersNotLocked ++ flagByte s.fire ++ be8 s.supervision.state.code
    ++ be8 s.mode.mode.code ++ flagByte s.train.due ++ flagByte s.train.overstay

/-- The block of a reply's head (spec/11, 11.2): the summary block, or the station link status. -/
def State.headBlock (s : State) (l : Link) : List Byte :=
  match l with
  | .station => flagByte s.station.overrun
  | .signalling => s.summary ++ flagByte s.signalling.overrun

/-- Bay and reason pairs in increasing bay number, after their count (spec/11, 11.4). -/
def reasonContent (refused : List (BayIx × Reason)) : List Byte :=
  let pairs := allBays.filterMap (fun b => refused.find? (fun p => p.1 == b))
  be8 pairs.length ++ pairs.flatMap (fun p => be8 (bayNumber p.1) ++ be8 p.2.code)

/-- A BAY_COMMAND reply (spec/11, 11.4). -/
def bayCommandContent (e : Ev) : List Byte := setBytes (fun b => e.accepted.contains b) ++ reasonContent e.refused

/-- An OPEN_MAP or CLOSE_MAP reply (spec/11, 11.4). -/
def mapContent (map : List BayIx) (refused : List (BayIx × Reason)) : List Byte :=
  be8 map.length ++ map.flatMap (fun b => be8 (bayNumber b)) ++ reasonContent refused

/-- The matched unit and doorway and the overlap of a bay, absent outside the aligned set (spec/11 R181). -/
def matchedContent : Option AlignedBay → List Byte
  | none => be8 0 ++ be8 0 ++ be16 0
  | some a => be8 a.unitNo ++ be8 a.doorway ++ be16 a.overlap

/-- A BERTH reply (spec/11, 11.8). -/
def State.berthContent (s : State) : List Byte :=
  beSigned32 (s.train.stopError.getD 0) ++ be8 s.train.alignment.code ++ flagByte s.train.checked
    ++ be8 s.train.aligned.length ++ s.train.aligned.flatMap (fun a => be8 (bayNumber a.bay) ++ matchedContent (some a))

/-- The withheld set (spec/11, 11.6). -/
def Withheld.code (w : Withheld) : Nat :=
  flagCode w.mode + 2 * flagCode w.fire + 4 * flagCode w.link + 8 * flagCode w.bays + 16 * flagCode w.fault
    + 32 * flagCode w.gap

/-- A READ_STATUS reply (spec/11, 11.6). -/
def State.statusContent (s : State) : List Byte :=
  be8 s.mode.mode.code ++ be8 s.mode.restartCause.code ++ be8 s.mode.haltCause.code ++ flagByte s.mode.preparation
    ++ be8 s.proof.value.code ++ flagByte s.proof.keyLevel ++ be8 s.proof.withheld.code ++ be8 (bayField s.proof.holding)
    ++ flagByte s.fire ++ be8 (fireSourceCode s.release.latch)
    ++ be8 s.supervision.state.code ++ be32 (s.supervision.expiredAt.getD 0).toNat
    ++ be8 s.train.state.code ++ be8 s.gap.result.code
    ++ be8 s.platformFrame.state.code ++ be8 s.platformFrame.firstCode
    ++ be8 s.store.state.code ++ flagByte s.store.dirty ++ be8 s.store.written ++ be8 s.store.total
    ++ flagByte s.store.frozen ++ flagByte s.store.area.mark
    ++ flagByte s.events.authority ++ flagByte s.events.lost ++ be8 s.events.queue.length ++ [s.events.mask]
    ++ flagByte s.events.attention ++ be32 s.uptime.toNat

/-- One READ_BAYS entry (spec/11, 11.8). -/
def State.bayEntry (s : State) (b : BayIx) : List Byte :=
  let x := s.bay b
  be8 (bayNumber b) ++ be8 (s.kind b).code ++ be8 x.phase.code ++ be8 x.movement.code ++ be8 x.retry ++ be8 x.reclose
    ++ flagByte x.hold ++ flagByte x.trace ++ be8 x.presence.code ++ flagByte (s.isMember b)
    ++ matchedContent (s.matched b) ++ be8 x.frame.state.code

/-- A READ_BAYS reply (spec/10 R176). -/
def State.baysContent (s : State) (first : BayIx) (count : Nat) : List Byte :=
  let bays := (allBays.drop first.val).take count
  be8 bays.length ++ bays.flatMap s.bayEntry

/-- A unit's two bytes, 0 beyond the unit count (spec/11 R181). -/
def unitContent : Option TrainUnit → List Byte
  | none => be8 0 ++ be8 0
  | some u => be8 u.consist ++ be8 u.orientation.code

/-- A READ_TRAIN reply (spec/11, 11.8). -/
def State.trainContent (s : State) : List Byte :=
  let t := s.train
  be8 t.state.code ++ be8 t.units.length ++ unitContent t.units[0]? ++ unitContent t.units[1]?
    ++ beSigned32 (t.target.getD 0) ++ beSigned32 (t.measured.getD 0) ++ beSigned32 (t.stopError.getD 0)
    ++ be8 t.alignment.code ++ flagByte t.checked ++ be16 t.dwellLimit ++ be16 (t.dwellElapsed / 1000)
    ++ flagByte t.due ++ flagByte t.overstay

/-- A READ_MAP reply (spec/11, 11.8). -/
def State.mapReplyContent (s : State) : List Byte :=
  be8 s.train.map.length ++ be8 s.membersNotLocked ++ be8 s.train.aligned.length
    ++ s.train.aligned.flatMap (fun a =>
      be8 (bayNumber a.bay) ++ matchedContent (some a) ++ flagByte (s.isMember a.bay) ++ be8 (s.bay a.bay).phase.code)

/-- The severity of a code, 0 when it is absent (spec/11, 11.8). -/
def State.severityOf (s : State) : Option FaultCode → Nat
  | none => 0
  | some c => (s.response c).severity

/-- The code of an optional phase, movement or fault code, 0 when it is absent (spec/11 R181). -/
def optionCode {α : Type} (code : α → Nat) : Option α → Nat
  | none => 0
  | some x => code x

/-- A READ_FAULT reply (spec/11, 11.8): the target's number, its frame, and the cleared indication. -/
def State.faultContent (s : State) (target : Nat) (f : Frame) (cleared : Bool) : List Byte :=
  match f.info with
  | none => be8 target ++ be8 f.state.code ++ List.replicate 14 0#8 ++ flagByte cleared
  | some i =>
    be8 target ++ be8 f.state.code ++ be8 i.code.number ++ be8 (optionCode Phase.code i.phase)
      ++ be8 (optionCode Movement.code i.movement) ++ be32 i.time.toNat ++ be16 i.detail.toNat ++ be8 i.count
      ++ be8 i.retriesUsed ++ be8 (optionCode FaultCode.number i.later) ++ be8 (s.severityOf (some i.code))
      ++ be8 (s.severityOf i.later) ++ flagByte cleared

/-- One READ_RELEASES record (spec/11, 11.8). -/
def ReleaseRecord.content (r : ReleaseRecord) : List Byte :=
  be8 r.number ++ be8 r.kind.code ++ be8 (bayField r.bay) ++ be8 (fireSourceCode r.source) ++ be32 r.opened.toNat
    ++ be32 (r.restored.getD 0).toNat ++ flagByte r.acked

/-- A READ_RELEASES reply (spec/05 R115): up to 16 records from a start position. -/
def State.releasesContent (s : State) (start : Nat) : List Byte :=
  let records := (s.release.log.drop (start - 1)).take 16
  be8 s.release.log.length ++ be8 (s.release.log.filter (fun r => r.restored.isNone)).length ++ be8 records.length
    ++ records.flatMap ReleaseRecord.content

/-- The level that READ_LINES reports for a general line (spec/03 R69). -/
def State.reportedLevel (s : State) (n : LineIx) : Bool :=
  match (s.lineRecord n).function with
  | .berthSensor | .fireInput | .panelOpen | .keyReset | .bypassKey | .maintenanceKey | .fieldSupplyOk
  | .generalInput | .unused => (s.line n).line.level
  | .generalOutput => (s.line n).outputLatch
  | .secureOut | .bypassLamp | .alarmOut => s.drivenLevel n == some true

/-- The eight input levels of a bay as a byte (spec/11, 11.8). -/
def Bay.inputBits (x : Bay) : Nat :=
  flagCode x.lines.closed.level + 2 * flagCode x.lines.locked.level + 4 * flagCode x.lines.fullyOpen.level
    + 8 * flagCode x.lines.obstructed.level + 16 * flagCode x.lines.driveFault.level + 32 * flagCode x.lines.gap.level
    + 64 * flagCode x.lines.curtain.level + 128 * flagCode x.lines.releaseKey.level

/-- The four output levels of a bay as a byte (spec/11, 11.8). -/
def BayOutputs.bits (o : BayOutputs) : Nat :=
  flagCode o.unlock + 2 * flagCode o.driveOpen + 4 * flagCode o.driveClose + 8 * flagCode o.warning

/-- A READ_LINES reply (spec/03 R69; spec/11, 11.8). -/
def State.linesContent (s : State) (b : Option BayIx) : List Byte :=
  allLines.flatMap (fun n => be8 (s.lineRecord n).function.code ++ flagByte (s.reportedLevel n))
    ++ setBytes (fun n => (s.line n).changeLatch)
    ++ (match b with
        | none => be8 0 ++ be8 0 ++ be8 0
        | some b => be8 (bayNumber b) ++ be8 (s.bay b).inputBits ++ be8 (s.bayOutputs b).bits)

/-- A bay record as read (spec/11, 11.5). -/
def BayRecord.content (b : BayIx) (r : BayRecord) : List Byte :=
  be8 (bayNumber b) ++ be8 r.kind.code ++ be32 r.centre ++ be16 r.clearWidth ++ be16 r.minOverlap ++ be16 r.unlockLimit
    ++ be16 r.openLimit ++ be16 r.closeLimit ++ be16 r.lockLimit ++ be8 r.linkLoss.code ++ be8 r.proofFilter.code
    ++ be8 r.sensorFilter.code ++ be8 r.keyFilter.code

/-- A profile slot as read (spec/11, 11.5). -/
def Profile.content (i : Fin 12) (p : Profile) : List Byte :=
  be8 (i.val + 1) ++ flagByte p.valid ++ be8 p.consist ++ be24 p.unitLength ++ be8 p.doorways.length
    ++ p.doorways.flatMap (fun d => be24 d.offset ++ be16 d.width)

/-- A response entry as read (spec/11, 11.5). -/
def Response.content (i : Fin 32) (r : Response) : List Byte :=
  be8 i.val ++ be8 r.action.code ++ be8 r.retries ++ be8 r.severity ++ be8 r.platformEffect.code

/-- A line record as read (spec/11, 11.5). -/
def LineRecord.content (n : LineIx) (r : LineRecord) : List Byte :=
  be8 (bayNumber n) ++ be8 r.function.code ++ be8 r.index ++ be8 r.polarity.code ++ be8 r.filter.code
    ++ be8 (flagCode r.rising + 2 * flagCode r.falling + 4 * flagCode r.safe)

/-- A position entry as read (spec/11, 11.5). -/
def positionContent : Option Mm → List Byte
  | none => be8 0 ++ be32 0
  | some p => be8 1 ++ beSigned32 p

/-- The platform settings as read (spec/11, 11.5). -/
def Platform.content (p : Platform) : List Byte :=
  be16 p.stopTolerance ++ be16 p.extendedWindow ++ be16 p.agreementMargin ++ p.positions.toList.flatMap positionContent
    ++ be16 p.warningPeriod ++ be16 p.reopenPause ++ be8 p.recloseAttempts ++ be16 p.curtainHold ++ be16 p.gapScanPeriod
    ++ be16 p.stuckPeriod ++ be16 p.supervisionPeriod ++ be8 p.overstayMargin

/-- One event record (spec/11, 11.3). -/
def EventRecord.content (r : EventRecord) : List Byte :=
  be32 r.time.toNat ++ be8 r.kind.cls.code ++ be8 r.kind.code ++ be8 (bayField r.bay) ++ be16 r.value.toNat

/-- A TAKE_EVENTS reply (spec/10 R179; spec/11, 11.3). -/
def State.eventsContent (s : State) (count : Nat) : List Byte :=
  let records := s.events.queue.take count
  be8 records.length ++ be8 (s.events.queue.length - records.length) ++ flagByte s.events.lost
    ++ records.flatMap EventRecord.content

/-- A SET_OUTPUT reply (spec/03 R68; spec/11, 11.8). A line that is not driven has the bit 0 in the set of levels driven
(log 42, the model's choice). -/
def State.outputContent (s : State) : List Byte :=
  setBytes (fun n => (s.line n).outputLatch) ++ setBytes (fun n => s.drivenLevel n == some true)

end Sys2Proof.Machine
end

