-- ==== Sys2Proof/Machine/StoreUnit.lean ====
section
/-! DEFINITION. The store unit (spec/09): the check of the stored copy, loading, writing records, committing, and the
one-time area. -/

namespace Sys2Proof.Machine

/-! ### Loading (spec/09 R159) -/

/-- Every field of every record of a copy lies in its range; the bay records count in the 93-record numbering alone
(spec/09 R159). -/
def Records.inRange (r : Records) (full : Bool) : Bool :=
  (!full || r.bays.toList.all BayRecord.inRange) && r.profiles.toList.all Profile.inRange
    && r.responses.toList.all Response.inRange && r.lines.toList.all LineRecord.inRange && r.platform.inRange

/-- Every record of a copy, in the numbering it was last written in, passes its check value (spec/09 R159). -/
def StoredCopy.allSound (c : StoredCopy) : Bool :=
  (if c.full then c.sound.toList else c.sound.toList.drop 24).all id

/-- The check at loading (spec/09 R159). -/
def Store.checkPasses (s : Store) : Bool :=
  s.stored.completion && s.stored.allSound && s.stored.records.inRange s.stored.full && (!s.area.mark || s.area.sound)

/-- The total of the commit progress (spec/09 R158). -/
def GeometryArea.total (a : GeometryArea) : Nat := if a.mark then 69 else 93

/-- The working copy that loading gives (spec/09 R159). -/
def Store.loaded (s : Store) : Records :=
  let base := if s.checkPasses then s.stored.records else Records.defaults
  if s.area.mark then (if s.area.sound then { base with bays := s.area.bays } else { base with bays := Records.defaults.bays })
  else base

/-- The store after loading (spec/09 R157, R159): the stored copy and the one-time area stay. -/
def Store.restart (s : Store) : Store :=
  { state := if s.checkPasses then .valid else .invalid
    dirty := false, written := 0, total := s.area.total, frozen := false, working := s.loaded
    stored := s.stored, area := s.area }

/-! ### Writing records (spec/09 R164 to R167) -/

/-- One record, by its position from 0 in the 93-record numbering, is copied from one configuration to another
(spec/09 R158, R165). -/
def Records.copyRecord (source target : Records) (pos : Nat) : Records :=
  if pos < 24 then { target with bays := target.bays.setIfInBounds pos (source.bays.getD pos BayRecord.defaults) }
  else if pos < 36 then
    { target with profiles := target.profiles.setIfInBounds (pos - 24) (source.profiles.getD (pos - 24) Profile.defaults) }
  else if pos < 68 then
    { target with responses := target.responses.setIfInBounds (pos - 36) (source.responses.getD (pos - 36) Response.unraised) }
  else if pos < 92 then
    { target with lines := target.lines.setIfInBounds (pos - 68) (source.lines.getD (pos - 68) LineRecord.defaults) }
  else { target with platform := source.platform }

/-- The position of the record being written, in the 93-record numbering (spec/09 R158). -/
def Store.position (s : Store) : Nat := s.written + (93 - s.total)

/-- The record being written reaches the stored copy and passes its verify (spec/09 R165). -/
def Store.recordWritten (s : Store) : Store :=
  { s with
    written := s.written + 1
    stored := { s.stored with
      records := s.working.copyRecord s.stored.records s.position
      sound := s.stored.sound.setIfInBounds s.position true } }

/-- The last record is written: the completion mark is restored (spec/09 R165). -/
def Store.complete (s : Store) : Store :=
  { s with state := .valid, dirty := false, stored := { s.stored with completion := true, full := s.total == 93 } }

/-- A suspending cause stands (spec/09 R165). -/
def State.suspends (s : State) : Bool := s.train.state != .empty || s.fire

/-- A record write completes and verifies (spec/09 R165). -/
def State.recordPassed (s : State) : State :=
  let t := s.store.recordWritten
  if t.written == t.total then ({ s with store := t.complete }).post .commitDone none t.total
  else if s.suspends then ({ s with store := { t with state := .suspended } }).post .commitSuspended none t.written
  else { s with store := t }

/-- A record write completes and fails its verify (spec/09 R167; log 13). -/
def Ev.recordFailed (e : Ev) : Ev × List Task :=
  (e.on (fun s => { s with store := { s.store with
      state := .invalid, stored := { s.store.stored with sound := s.store.stored.sound.setIfInBounds s.store.position false } } }),
    [.raiseFace .storeFailed (e.s.store.written + 1)])

/-- An accepted COMMIT (spec/09 R164). -/
def State.commit (s : State) : State :=
  let t : Store := { s.store with
    total := s.store.area.total, written := 0, stored := { s.store.stored with completion := false } }
  if s.suspends then ({ s with store := { t with state := .suspended } }).post .commitSuspended none 0
  else { s with store := { t with state := .committing } }

/-- The store is COMMITTING or SUSPENDED (spec/09 R160). -/
def Store.busy (s : Store) : Bool := s.state == .committing || s.state == .suspended

/-- The one-time area after a FIX_GEOMETRY that verifies (spec/09 R169, R158; log 35 for the total). -/
def Store.fixGeometry (s : Store) : Store :=
  { s with total := 69, area := { mark := true, bays := s.working.bays, sound := true } }

/-! ### Configuration writes (spec/09 R160, R161) -/

/-- A bay record is replaced (spec/09 R161). -/
def State.setBayRecord (s : State) (b : BayIx) (r : BayRecord) : State :=
  s.setWorking { s.store.working with bays := s.store.working.bays.set b.val r b.isLt }

/-- A profile slot is replaced (spec/09 R161). -/
def State.setProfile (s : State) (i : Fin 12) (p : Profile) : State :=
  s.setWorking { s.store.working with profiles := s.store.working.profiles.set i.val p i.isLt }

/-- A response entry is replaced (spec/09 R161). -/
def State.setResponse (s : State) (i : Fin 32) (r : Response) : State :=
  s.setWorking { s.store.working with responses := s.store.working.responses.set i.val r i.isLt }

/-- The platform settings are replaced (spec/09 R161). -/
def State.setPlatform (s : State) (p : Platform) : State := s.setWorking { s.store.working with platform := p }

/-- A slot other than slot i is valid and holds a consist id (spec/02 R30). -/
def State.consistTaken (s : State) (i : Fin 12) (consist : Nat) : Bool :=
  (List.finRange 12).any (fun j =>
    j != i && (s.store.working.profiles[j.val]).valid && (s.store.working.profiles[j.val]).consist == consist)

/-! ### WRITE_BAY (spec/01 R2) -/

/-- Two fitted neighbours, the lower first, keep the geometric order and do not overlap (spec/01 R2). -/
def BayRecord.clearOf (a b : BayRecord) : Bool :=
  a.centre < b.centre && a.clearWidth + b.clearWidth ≤ 2 * (b.centre - a.centre)

/-- The conditions of the geometry between neighbours in a list of fitted bays (spec/01 R2). -/
def neighboursClear : List BayRecord → Bool
  | [] => true
  | [_] => true
  | a :: b :: rest => a.clearOf b && neighboursClear (b :: rest)

/-- The fitted bays of a configuration, with one record replaced (spec/01 R2). -/
def State.fittedWith (s : State) (b : BayIx) (r : BayRecord) : List BayRecord :=
  (allBays.map (fun c => if c == b then r else s.bayRecord c)).filter (fun x => x.kind != .absent)

/-- The phases in which the kind of a bay may change (spec/01 R2). -/
def Phase.admitsKindChange : Phase → Bool
  | .notFitted | .closedLocked | .stopped | .isolated | .faulted => true
  | .unlocking | .opening | .opened | .warning | .closing | .reopening | .closedUnlocked | .released => false

/-- WRITE_BAY is refused CONFLICT (spec/01 R2). -/
def State.bayConflict (s : State) (b : BayIx) (r : BayRecord) : Bool :=
  !neighboursClear (s.fittedWith b r)
    || (s.matched b).isSome
    || (r.kind != s.kind b && !(s.bay b).phase.admitsKindChange)

/-- The runtime part of a bay starts again for its new kind (spec/01 R2; stuck marks and timers, spec/03 R74). -/
def Ev.restartBay (e : Ev) (b : BayIx) : Ev × List Task :=
  let wasFaulted := (e.s.bay b).phase == .faulted
  let e1 := if wasFaulted then e.on (fun s => s.clearFrame .kindChange b) else e
  let e2 := e1.onBay b (fun x =>
    { x with movement := .none, retry := 0, reclose := 0, hold := true, gapStuck := false, curtainStuck := false
             gapStuckTimer := none, curtainStuckTimer := none })
  if e2.s.fitted b then e2.derive b else (e2.enter b .notFitted, entered b)

/-- An accepted WRITE_BAY (spec/01 R2, spec/09 R161). -/
def Ev.writeBay (e : Ev) (b : BayIx) (r : BayRecord) : Ev × List Task :=
  let changes := r.kind != e.s.kind b
  let e1 := e.on (fun s => s.setBayRecord b r)
  if changes then e1.restartBay b else (e1, [])

/-- An accepted WRITE_PLATFORM (spec/09 R161): while DEPARTING a change of the placed sensors has the departure watch
examined (spec/02 R49). -/
def Ev.writePlatform (e : Ev) (p : Platform) : Ev × List Task :=
  (e.on (fun s => s.setPlatform p)).placedChange e.s

end Sys2Proof.Machine
end

