-- ==== Sys2Proof/Machine/Restart.lean ====
section
/-! DEFINITION. Restarts and the end of STARTING (spec/08, 8.2), and the passing of time (log 1, log 3). -/

namespace Sys2Proof.Machine

/-! ### The beginning of a restart (spec/08 R146) -/

/-- A line at restart: its raw level stands, its filter holds nothing (spec/03 R58, R60). -/
def Line.restart (l : Line) : Line := { raw := l.raw, level := false, candidate := none }

/-- The lines of a bay, each changed in one way. -/
def BayLines.map (f : Line → Line) (l : BayLines) : BayLines :=
  { closed := f l.closed, locked := f l.locked, fullyOpen := f l.fullyOpen, obstructed := f l.obstructed
    driveFault := f l.driveFault, gap := f l.gap, curtain := f l.curtain, releaseKey := f l.releaseKey }

/-- A restart begins with a cause: every block takes its restart value, and the working copy is loaded (spec/08 R146,
spec/09 R159; log 15). The medium, the raw levels, the supply and RESET_N are not the restart's to change. -/
def State.restart (s : State) (cause : RestartCause) : State :=
  { State.reset with
    power := { s.power with supplyReturned := false, resetSeen := false }
    mode := { ModeControl.reset with restartCause := cause }
    bays := mapVector (fun x => { Bay.reset with lines := x.lines.map Line.restart }) s.bays
    lines := mapVector (fun x => { GeneralLine.reset with line := x.line.restart }) s.lines
    store := s.store.restart
    freeCount := s.freeCount
    pending := s.pending }

/-- The cause of a restart that begins because the supply is in range and RESET_N is not asserted (spec/08 R146). -/
def Power.cause (p : Power) : RestartCause :=
  if p.supplyReturned then .powerOn else if p.resetSeen then .resetLine else .request

/-- A restart begins when the supply is in range and RESET_N is not asserted (spec/08 R146). -/
def State.beginRestart (s : State) : State :=
  if s.power.supplyInRange && !s.power.resetAsserted then s.restart s.power.cause else s

/-- The part does not run: every output is de-energised and no line is driven (spec/08 R146). -/
def State.powerDown (s : State) : State := { s with pins := Pins.off }

/-! ### The end of STARTING (spec/08 R147) -/

/-- Every filter takes the logical level of its line (spec/03 R58). -/
def State.readLines (s : State) : State :=
  allLines.foldl (fun t n => t.refilter (.general n))
    { s with bays := mapVector (fun x => { x with lines := x.lines.map (fun l => { l with level := l.raw }) }) s.bays }

/-- A bay takes its derived phase at the end of STARTING, with no event (spec/01 R23, R24). -/
def State.deriveAtStart (s : State) (b : BayIx) : State :=
  s.setBay b ((s.bay b).enter (s.bayRecord b) s.platform (derivedPhase (s.kind b) (s.bay b).lines))

/-- The start-up fault of a bay derived FAULTED (spec/07 R142). -/
def Ev.startConflict (e : Ev) (b : BayIx) : Ev :=
  if (e.s.bay b).phase == .faulted then e.takeDerivedConflict b else e

/-- The start-up faults (spec/07 R142): STORE_INVALID, then the conflicts in increasing bay number. -/
def Ev.startFaults (e : Ev) : Ev :=
  let e1 := if e.s.store.state == .invalid then e.on (fun s => s.recordPlatform .storeInvalid 0) else e
  allBays.foldl Ev.startConflict e1

/-- The halt cause that the start-up faults hand on (spec/08 R147). -/
def State.startHalt (s : State) : HaltCause :=
  if s.store.state == .invalid then .fault .storeInvalid
  else if (s.response .proofConflict).platformEffect == .halt && allBays.any (fun b => (s.bay b).phase == .faulted) then
    .fault .proofConflict
  else .none

/-- The mode after STARTING (spec/08 R147). -/
def State.startMode (s : State) : State :=
  ({ s with mode := { s.mode with haltCause := s.startHalt } }).changeMode
    (if s.startHalt == HaltCause.none then .service else .halted)

/-- The release record of a bay derived RELEASED (spec/05 R113). -/
def State.startRelease (s : State) (b : BayIx) : State :=
  if (s.bay b).phase == .released then s.openRecord (releaseKindOf (s.kind b)) (some b) none else s

/-- Loading ends (spec/08 R147): every block's evaluation in the order of the rule, presence after the fire opening, in
increasing bay number (log 38, the model's choice). -/
def Ev.endStarting (e : Ev) : Ev × List Task :=
  let e1 := { e with starting := true }.on (fun s => allBays.foldl State.deriveAtStart s.readLines)
  let e2 := e1.startFaults.on (fun s => (allBays.foldl State.startRelease s.startMode).standingKey)
  (e2, (if e2.s.functionLevel .fireInput then [.fireSet .fireInput] else []) ++ allBays.map .presence)

/-! ### Time (log 1) -/

/-- A timer that runs counts one millisecond. -/
def tickTimer (t : Option Timer) : Option Timer := t.map Timer.tick

/-- A line's filter counts one millisecond (spec/03 R57). -/
def Line.tick (l : Line) : Line := { l with candidate := tickTimer l.candidate }

/-- The timers of a bay count one millisecond; a held warning timer stands still (spec/01 R6, R11, spec/03 R73). -/
def Bay.tick (x : Bay) : Bay :=
  { x with
    timer := if x.warningHeld then x.timer else tickTimer x.timer
    cap := tickTimer x.cap
    gapStuckTimer := tickTimer x.gapStuckTimer
    curtainStuckTimer := tickTimer x.curtainStuckTimer
    lines := x.lines.map Line.tick }

/-- The dwell clock counts one millisecond (spec/02 R52). -/
def Train.tick (t : Train) : Train :=
  if t.dwellRuns then { t with dwellElapsed := min Config.dwellElapsedMax (t.dwellElapsed + 1) } else t

/-- A frame is partly received (spec/10 R170). -/
def Buffer.partly : Buffer → Bool
  | .hunting => false
  | .synced | .awaiting _ _ => true

/-- The gap since the last byte of a partial frame counts one millisecond (spec/10 R170). -/
def Port.tick (p : Port) : Port := if p.buffer.partly then { p with sinceByte := p.sinceByte + 1 } else p

/-- A timer runs and has reached its limit. -/
def timerDue : Option Timer → Bool
  | some t => t.isDue
  | none => false

/-- A command, if its timer has run out. -/
def whenDue (due : Bool) (c : Instr) : List Instr := if due then [c] else []

/-- The expiry that the phase timer of a bay brings (spec/01 R8 to R14). -/
def Bay.expiry (b : BayIx) (x : Bay) : List Instr :=
  match x.phase with
  | .unlocking => [.unlockLimitExpires b]
  | .opening => [.openLimitExpires b]
  | .warning => if x.warningHeld then [] else [.warningPeriodExpires b]
  | .closing => [.closeLimitExpires b]
  | .reopening => if x.pausing then [.reopenPauseExpires b] else [.openLimitExpires b]
  | .closedUnlocked => [.lockLimitExpires b]
  | .closedLocked | .opened | .stopped | .released | .isolated | .faulted | .notFitted => []

/-- The expiries of a bay's phase and cap timers. The cap timer runs in WARNING alone (spec/01 R11). -/
def Bay.expiries (b : BayIx) (x : Bay) : List Instr :=
  (if timerDue x.timer then x.expiry b else [])
    ++ whenDue (x.phase == .warning && timerDue x.cap) (.curtainHoldLimitExpires b)

/-- The expiries of a bay's stuck timers. -/
def Bay.stuckExpiries (b : BayIx) (x : Bay) : List Instr :=
  whenDue (timerDue x.gapStuckTimer) (.stuckTimerExpires b .gap)
    ++ whenDue (timerDue x.curtainStuckTimer) (.stuckTimerExpires b .curtain)

/-- The eight bay inputs, in the order of spec/11, READ_LINES. -/
def allInputs : List BayInput := [.closed, .locked, .fullyOpen, .obstructed, .driveFault, .gap, .curtain, .releaseKey]

/-- Every input line: the bay inputs, then the general lines. -/
def allInputLines : List InputLine :=
  allBays.flatMap (fun b => allInputs.map (.bay b)) ++ allLines.map .general

/-- The expiry of a line's filter hold. -/
def State.filterExpiry (s : State) (l : InputLine) : List Instr :=
  whenDue (s.isInput l && timerDue (s.inputLine l).candidate) (.filterHoldExpires l)

/-- The dwell commands that are due (spec/02 R52). -/
def State.dwellExpiries (s : State) : List Instr :=
  if s.train.dwellRuns && s.train.dwellLimit != 0 then
    whenDue (!s.train.due && s.train.dueAt ≤ s.train.dwellElapsed) .dwellDue
      ++ whenDue (!s.train.overstay && s.overstayAt ≤ s.train.dwellElapsed) .dwellOverstay
  else []

/-- The expiry of the gap scan timer (spec/03 R77). -/
def State.scanExpiry (s : State) : List Instr :=
  whenDue (s.gap.result == .scanning && timerDue s.gap.timer) .gapScanTimerExpires

/-- The expiry of the supervision timer (spec/06 R117). -/
def State.supervisionExpiry (s : State) : List Instr :=
  whenDue (s.supervision.state == .armed && timerDue s.supervision.timer) .supervisionTimerExpires

/-- The inter-byte gap of a link, if it has run over (spec/10 R170). -/
def Port.expiry (l : Link) (p : Port) : List Instr :=
  whenDue (p.buffer.partly && Config.byteGapLimit < p.sinceByte) (.interByteGap l)

/-- The commands of the timers that have run out, in the order of log 3. During STARTING the links alone keep time. -/
def State.expiries (s : State) : List Instr :=
  (if s.active then
      s.dwellExpiries ++ s.scanExpiry ++ allBays.flatMap (fun b => (s.bay b).stuckExpiries b) ++ s.supervisionExpiry
        ++ allBays.flatMap (fun b => (s.bay b).expiries b)
    else [])
    ++ (s.station.expiry .station ++ s.signalling.expiry .signalling)
    ++ (if s.active then allInputLines.flatMap s.filterExpiry else [])

/-- The timer that a step with no command waiting takes: the first of those that have run out, as the present state has them
(log 3). A timer that another expiry has dropped or started afresh is not among them (spec/01 R6). -/
def State.dueCommand (s : State) : Option Instr := if s.runs then s.expiries.head? else none

/-- Every timer that runs counts one millisecond. -/
def State.count (s : State) : State :=
  { s with
    uptime := s.uptime + 1
    bays := mapVector Bay.tick s.bays
    lines := mapVector (fun x => { x with line := x.line.tick }) s.lines
    gap := { s.gap with timer := tickTimer s.gap.timer }
    train := s.train.tick
    supervision := { s.supervision with timer := tickTimer s.supervision.timer }
    station := s.station.tick
    signalling := s.signalling.tick }

/-- One millisecond passes (log 1): every timer that runs counts. While the part does not run no time is kept. -/
def State.tick (s : State) : State := if s.runs then s.count else s

end Sys2Proof.Machine
end

