-- ==== Sys2Proof/Machine/LinkUnit.lean ====
section
/-! DEFINITION. The link unit (spec/10, spec/08 8.5 and 8.6): how a request is taken, judged and answered, and what a byte
does to a receive buffer. -/

namespace Sys2Proof.Machine

/-! ### The answer to a request -/

/-- What a request comes to: the event it begins with the tasks of that event; the reply's result and content, read from
the state the event leaves; whether the event may change an input of the blocks that follow it (log 26); and whether it is
an accepted PREPARE_RESTART. -/
structure Answer where
  ev : Ev
  tasks : List Task
  reply : Ev → Result × List Byte
  moves : Bool
  prepares : Bool

/-- A refusal: the result code and nothing more, and nothing changes (spec/10 R174). -/
def Answer.refuse (s : State) (r : Result) : Answer :=
  { ev := Ev.start s, tasks := [], reply := fun _ => (r, []), moves := false, prepares := false }

/-- A request that leaves the state s1 with no further event, answered DONE. -/
def Answer.settled (s1 : State) (content : List Byte) : Answer :=
  { ev := Ev.start s1, tasks := [], reply := fun _ => (.done, content), moves := false, prepares := false }

/-- A request carried out as one event of a block, from the state s; its reply is read from the state the event leaves. -/
def Answer.event (s : State) (f : Ev → Ev × List Task) (reply : Ev → Result × List Byte) : Answer :=
  { ev := (f (Ev.start s)).1, tasks := (f (Ev.start s)).2, reply := reply, moves := true, prepares := false }

/-- DONE with nothing more. -/
def doneReply (_ : Ev) : Result × List Byte := (.done, [])

/-! ### Checks at the link (spec/08 R153, R154) -/

/-- The modes in which the link admits a request kind (spec/08 R153). The store makes the mode check of configuration writes
and COMMIT (spec/09 R160, R164), mode control that of ENTER_MAINTENANCE and LEAVE_MAINTENANCE outside HALTED. -/
def RequestKind.admitted (k : RequestKind) (m : Mode) : Bool :=
  match k with
  | .announce | .cancel | .berth | .openMap | .closeMap | .depart | .resume => m == .service
  | .enterMaintenance | .leaveMaintenance => m == .service || m == .maintenance
  | .fixGeometry => m == .maintenance
  | .poll | .readStatus | .readBays | .readTrain | .readMap | .readFault | .readReleases | .readLines | .readConfig
  | .takeEvents | .setAttention | .setTrace | .bayCommand | .ackRelease | .emergencyOpen | .extendDwell | .setOutput
  | .halt | .prepareRestart | .restart | .writeBay | .writeProfile | .eraseProfile | .writeResponse | .writeLine
  | .writePlatform | .commit | .freezeConfig => m == .service || m == .maintenance || m == .halted

/-- POLL and RESUME are answered while supervision is EXPIRED (spec/06 R123). -/
def RequestKind.passesExpired : RequestKind → Bool
  | .poll | .resume => true
  | .announce | .cancel | .berth | .openMap | .closeMap | .depart | .readStatus | .readBays | .readTrain | .readMap
  | .readFault | .readReleases | .readLines | .readConfig | .takeEvents | .setAttention | .setTrace | .bayCommand
  | .ackRelease | .emergencyOpen | .extendDwell | .setOutput | .enterMaintenance | .leaveMaintenance | .halt
  | .prepareRestart | .restart | .writeBay | .writeProfile | .eraseProfile | .writeResponse | .writeLine
  | .writePlatform | .commit | .freezeConfig | .fixGeometry => false

/-- The first of the link's checks that a request fails (spec/08 R154). -/
def State.linkRefusal (s : State) (l : Link) (k : RequestKind) (body : List Byte) : Option Result :=
  if s.mode.mode == .starting then some .busy
  else if k.link != l then some .wrongLink
  else if !k.fits body then some .malformed
  else if !k.admitted s.mode.mode then some .mode
  else if l == .signalling && s.supervision.state == .expired && !k.passesExpired then some .expired
  else none

/-- An owner: what it answers to a body that has passed the link's checks. -/
abbrev Owner := List Byte → State → Answer

/-- A request is judged by the link, then by its owner (spec/08 R154). -/
def judge (l : Link) (k : RequestKind) (body : List Byte) (owner : Owner) (s : State) : Answer :=
  match s.linkRefusal l k body with
  | some r => .refuse s r
  | none => owner body s

/-- A kind that neither link has (spec/08 R154, spec/10 R171). -/
def judgeUnknown (s : State) : Answer := .refuse s (if s.mode.mode == .starting then .busy else .unknown)

/-! ### Taking a request (spec/10 R171 to R174) -/

/-- A counted frame reaches the supervision unit (spec/06 R118). -/
def State.countFrame (s : State) : State :=
  let period := s.platform.supervisionPeriod
  match s.supervision.state with
  | .disarmed =>
    if s.mode.mode == .service && period != 0 then
      { s with supervision := { s.supervision with state := .armed, timer := some (.start period) } }
    else s
  | .armed =>
    if period != 0 then { s with supervision := { s.supervision with timer := some (.start period) } }
    else { s with supervision := { s.supervision with state := .disarmed, timer := none } }
  | .expired => s

/-- An authority refusal is recorded (spec/08 R155). -/
def State.recordAuthority (s : State) (l : Link) (kind : Byte) (r : Result) : State :=
  if r.isAuthority then
    ({ s with events := { s.events with authority := true } }).post .authorityRefused none
      (highLow (linkCode l) kind.toNat)
  else s

/-- A request on the station link sets or clears the restart preparation (spec/08 R156). -/
def State.prepare (s : State) (l : Link) (prepares : Bool) : State :=
  match l with
  | .station => { s with mode := { s.mode with preparation := prepares } }
  | .signalling => s

/-- The reply is built (spec/10 R172 to R174; log 22) and owed. -/
def State.owe (s : State) (l : Link) (kind : Byte) (r : Result) (content : List Byte) : State :=
  let p := s.port l
  let owed : Reply :=
    { kind := kind + 0x80#8, result := r, block := s.headBlock l, content := content, showsOverrun := p.overrun }
  s.setPort l { p with reply := some owed }

/-- The event that an answer begins is carried out. -/
def Answer.outcome (a : Answer) : Ev :=
  let e := run Config.eventBound a.tasks a.ev
  if a.moves then e.on State.settle else e

/-- An answer is carried out and the reply is owed (spec/10 R171, R172). -/
def Answer.carryOut (a : Answer) (l : Link) (kind : Byte) : State :=
  let e := a.outcome
  let r := a.reply e
  (((e.s.recordAuthority l kind r.1).formPins).prepare l a.prepares).owe l kind r.1 r.2

/-- A byte arrives while a reply is owed: it is discarded and OVERRUN set (spec/10 R173). -/
def State.discard (s : State) (l : Link) : State :=
  s.setPort l { s.port l with overrun := true, discarded := true }

/-- The receive buffer of a link is set. -/
def State.setBuffer (s : State) (l : Link) (b : Buffer) : State :=
  s.setPort l { s.port l with buffer := b, sinceByte := 0 }

/-- The frame of a request is taken: the buffer hunts again, and on the signalling link the frame is counted
(spec/10 R170, R171). -/
def State.takeFrame (s : State) (l : Link) : State :=
  match l with
  | .station => s.setBuffer .station .hunting
  | .signalling => (s.setBuffer .signalling .hunting).countFrame

/-- A frame that completes on a link (spec/10 R171, R173; spec/08 R156; log 16): not received while the part does not run,
an overrun while a reply is owed, discarded on the signalling link between an accepted RESTART and the restart, and taken
otherwise. -/
def State.receive (s : State) (l : Link) (kind : Byte) (answer : State → Answer) : State :=
  if !s.runs then s
  else if (s.port l).reply.isSome then s.discard l
  else if l == .signalling && s.mode.restartAccepted then s.setBuffer .signalling .hunting
  else (answer (s.takeFrame l)).carryOut l kind

/-- A request of the catalogue (spec/10, 10.3). -/
def State.request (s : State) (l : Link) (k : RequestKind) (body : List Byte) (owner : Owner) : State :=
  s.receive l k.code (judge l k body owner)

/-! ### Bytes (spec/10 R170) -/

/-- What a byte does to a receive buffer. -/
inductive BufferStep
  | moves (b : Buffer)
  | frame (length : Byte) (bytes : List Byte)
  deriving DecidableEq, Repr

/-- A byte is taken by a receive buffer (spec/10 R170). -/
def Buffer.take (b : Buffer) (x : Byte) : BufferStep :=
  match b with
  | .hunting => .moves (if x == 0x5A#8 then .synced else .hunting)
  | .synced => .moves (if 1 ≤ x.toNat && x.toNat ≤ 241 then .awaiting x [] else .hunting)
  | .awaiting n bytes =>
    if bytes.length + 1 == n.toNat + 2 then .frame n (bytes ++ [x]) else .moves (.awaiting n (bytes ++ [x]))

/-- The last two bytes of a frame are the CRC of its length, kind and body (spec/10 R170). -/
def crcMatches (length : Byte) (bytes : List Byte) : Bool :=
  bytes.drop length.toNat == be16 (crc16 (length :: bytes.take length.toNat)).toNat

end Sys2Proof.Machine
end

