-- ==== Sys2Proof/Machine/ConfigRows.lean ====
section
/-! DEFINITION. The configuration requests: rows WRITE_BAY to FIX_GEOMETRY (spec/09, 9.4 to 9.6). -/

namespace Sys2Proof.Machine

/-- The store's own checks of a configuration write and of COMMIT: MODE, GUARD, BUSY (spec/09 R160, R164). -/
def State.storeRefusal (s : State) : Option Result :=
  if !(s.mode.mode == .maintenance || s.mode.mode == .halted) then some .mode
  else if s.store.frozen then some .guarded
  else if s.store.busy then some .busy
  else none

/-- The checks of WRITE_BAY that come before the record is read (spec/09 R160). -/
def State.writeBayRefusal (s : State) : Option Result := if s.store.area.mark then some .guarded else s.storeRefusal

/-- WRITE_BAY (spec/01 R2, spec/09 R160). -/
def ownerWriteBay : Owner := fun body s =>
  match s.writeBayRefusal, bayOperand body with
  | some r, _ => .refuse s r
  | none, none => .refuse s .range
  | none, some (b, r) =>
    if s.bayConflict b r then .refuse s .conflict else .event s (fun e => e.writeBay b r) doneReply

/-- WRITE_PROFILE (spec/02 R30, spec/09 R160). -/
def ownerWriteProfile : Owner := fun body s =>
  match s.storeRefusal, profileOperand body with
  | some r, _ => .refuse s r
  | none, none => .refuse s .range
  | none, some (i, p) =>
    if s.consistTaken i p.consist then .refuse s .conflict
    else .event s (fun e => (e.on (fun t => t.setProfile i p), [])) doneReply

/-- The valid flag of a slot is cleared; its other fields stand (spec/02 R30). -/
def State.eraseProfile (s : State) (i : Fin 12) : State :=
  s.setProfile i { s.store.working.profiles[i.val] with valid := false }

/-- ERASE_PROFILE (spec/02 R30, spec/09 R160). -/
def ownerEraseProfile : Owner := fun body s =>
  match s.storeRefusal, eraseOperand body with
  | some r, _ => .refuse s r
  | none, none => .refuse s .range
  | none, some i => .event s (fun e => (e.on (fun t => t.eraseProfile i), [])) doneReply

/-- WRITE_RESPONSE (spec/07 R130, spec/09 R160): entry 19 is fixed. -/
def ownerWriteResponse : Owner := fun body s =>
  match s.storeRefusal, responseOperand body with
  | some r, _ => .refuse s r
  | none, none => .refuse s .range
  | none, some (i, r) =>
    if i.val == FaultCode.storeInvalid.number then .refuse s .conflict
    else .event s (fun e => (e.on (fun t => t.setResponse i r), [])) doneReply

/-- WRITE_LINE (spec/03 R62, R63, spec/09 R160). -/
def ownerWriteLine : Owner := fun body s =>
  match s.storeRefusal, lineOperand body with
  | some r, _ => .refuse s r
  | none, none => .refuse s .range
  | none, some (n, r) =>
    if s.lineTaken n r || s.endsSession n r then .refuse s .conflict
    else .event s (fun e => e.writeLine n r) doneReply

/-- WRITE_PLATFORM (spec/09 R160, R162). -/
def ownerWritePlatform : Owner := fun body s =>
  match s.storeRefusal, platformOperand body with
  | some r, _ => .refuse s r
  | none, none => .refuse s .range
  | none, some p => .event s (fun e => e.writePlatform p) doneReply

/-- COMMIT (spec/09 R164): the reply carries the total. -/
def ownerCommit : Owner := fun _ s =>
  match s.storeRefusal with
  | some r => .refuse s r
  | none => .event s (fun e => (e.on State.commit, [])) (fun e => (.done, be8 e.s.store.total))

/-- FREEZE_CONFIG (spec/09 R168). -/
def ownerFreezeConfig : Owner := fun _ s => .settled { s with store := { s.store with frozen := true } } []

/-- An attempt to verify the one-time area is counted, so that each has a free outcome of its own (log 12). -/
def State.useFree (s : State) : State := { s with freeCount := s.freeCount + 1 }

/-- FIX_GEOMETRY (spec/09 R169): whether the area verifies is a free value (log 12). Where it does not, the unmarked area
holds what it held before (log 41, the model's choice). -/
def ownerFixGeometry : Owner := fun _ s =>
  if s.store.area.mark || s.store.frozen then .refuse s .guarded
  else if s.store.busy then .refuse s .busy
  else if Config.areaVerifies s.freeCount then .settled { s.useFree with store := s.store.fixGeometry } []
  else .refuse s.useFree .refused

/-- WRITE_BAY (spec/01 R2, spec/09 R160). -/
def execWriteBay (l : Link) (body : List Byte) (s : State) : Host.Outcome State Fault Refusal :=
  .next (s.request l .writeBay body ownerWriteBay)

/-- WRITE_PROFILE (spec/02 R30, spec/09 R160). -/
def execWriteProfile (l : Link) (body : List Byte) (s : State) : Host.Outcome State Fault Refusal :=
  .next (s.request l .writeProfile body ownerWriteProfile)

/-- ERASE_PROFILE (spec/02 R30, spec/09 R160). -/
def execEraseProfile (l : Link) (body : List Byte) (s : State) : Host.Outcome State Fault Refusal :=
  .next (s.request l .eraseProfile body ownerEraseProfile)

/-- WRITE_RESPONSE (spec/07 R130, spec/09 R160). -/
def execWriteResponse (l : Link) (body : List Byte) (s : State) : Host.Outcome State Fault Refusal :=
  .next (s.request l .writeResponse body ownerWriteResponse)

/-- WRITE_LINE (spec/03 R62, R63, spec/09 R160). -/
def execWriteLine (l : Link) (body : List Byte) (s : State) : Host.Outcome State Fault Refusal :=
  .next (s.request l .writeLine body ownerWriteLine)

/-- WRITE_PLATFORM (spec/09 R162). -/
def execWritePlatform (l : Link) (body : List Byte) (s : State) : Host.Outcome State Fault Refusal :=
  .next (s.request l .writePlatform body ownerWritePlatform)

/-- COMMIT (spec/09 R164). -/
def execCommit (l : Link) (body : List Byte) (s : State) : Host.Outcome State Fault Refusal :=
  .next (s.request l .commit body ownerCommit)

/-- FREEZE_CONFIG (spec/09 R168). -/
def execFreezeConfig (l : Link) (body : List Byte) (s : State) : Host.Outcome State Fault Refusal :=
  .next (s.request l .freezeConfig body ownerFreezeConfig)

/-- FIX_GEOMETRY (spec/09 R169). -/
def execFixGeometry (l : Link) (body : List Byte) (s : State) : Host.Outcome State Fault Refusal :=
  .next (s.request l .fixGeometry body ownerFixGeometry)

end Sys2Proof.Machine
end

