-- ==== Sys2Proof/Machine/Signalling.lean ====
section
/-! DEFINITION. The signalling requests: rows POLL to RESUME (spec/02, spec/04 R94, spec/06 R125). For each its owner, which
makes the owner's checks in their order, and the row's meaning. -/

namespace Sys2Proof.Machine

/-- POLL (spec/04 R94, spec/10, 10.3): the summary block alone. -/
def ownerPoll : Owner := fun _ s => .settled s []

/-- An accepted ANNOUNCE (spec/02 R32). -/
def State.announce (s : State) (units : List TrainUnit) (target : Mm) : State :=
  ({ s with train := { Train.reset with state := .announced, units := units, target := some target } }).post .announced none
    ((units.head?.map TrainUnit.consist).getD 0)

/-- ANNOUNCE (spec/02 R32). -/
def ownerAnnounce : Owner := fun body s =>
  match announceOperand body with
  | none => .refuse s .range
  | some (units, target) =>
    if s.train.state != .empty then .refuse s .sequence
    else if units.any (fun u => (s.profile u.consist).isNone) then .refuse s .noProfile
    else .event s (fun e => (e.on (fun t => t.announce units target), [])) doneReply

/-- CANCEL (spec/02 R33). -/
def ownerCancel : Owner := fun _ s =>
  if s.train.state == .announced || s.train.state == .berthed then
    .event s (fun e => e.returnEmpty .announceCancelled e.s.train.state.code) doneReply
  else .refuse s .sequence

/-- BERTH (spec/02 R31, R34). -/
def ownerBerth : Owner := fun body s =>
  match berthOperand body with
  | none => .refuse s .range
  | some measured =>
    if s.train.state == .announced || s.train.state == .berthed then
      match s.placeTrain 1 measured s.train.units with
      | none => .refuse s .noProfile
      | some doorways =>
        .event s (fun e => (e.on (fun t => t.berthAt measured doorways), [])) (fun e => (.done, e.s.berthContent))
    else .refuse s .sequence

/-- DONE, or PARTIAL when a bay is reported (spec/02 R44, R45, R47), with the map and the reported bays. -/
def mapReply (e : Ev) : Result × List Byte :=
  (if e.refused.isEmpty then .done else .partly, mapContent e.s.train.map e.refused)

/-- The refusal EMPTY_MAP, which reports the selected bays (spec/02 R42; log 31). -/
def Answer.emptyMap (s : State) (excluded : List (BayIx × Reason)) : Answer :=
  { Answer.refuse s .emptyMap with reply := fun _ => (.emptyMap, mapContent [] excluded) }

/-- OPEN_MAP (spec/02 R42 to R45). -/
def ownerOpenMap : Owner := fun body s =>
  match openMapOperand body with
  | none => .refuse s .range
  | some x =>
    match s.train.state with
    | .empty | .announced | .departing => .refuse s .sequence
    | .berthed =>
      if s.fire then .refuse s .emergency
      else if !s.train.alignment.admits x.acceptOffset then .refuse s .notAligned
      else if (s.mapOf x).isEmpty then .emptyMap s (s.excludedOf x)
      else .event s (fun e => e.openMap (s.mapOf x) (s.excludedOf x) x.dwell) mapReply
    | .enabled | .closing => if s.fire then .refuse s .emergency else .event s (fun e => e.reopenMap) mapReply

/-- CLOSE_MAP (spec/02 R47). -/
def ownerCloseMap : Owner := fun _ s =>
  if !s.train.dwellRuns then .refuse s .sequence
  else if s.fire then .refuse s .emergency
  else .event s (fun e => e.closeTrain 0 true) mapReply

/-- DEPART (spec/02 R48, spec/04 R95). -/
def ownerDepart : Owner := fun _ s =>
  if s.train.state == .berthed || s.train.state == .closing then
    if s.fire then .refuse s .emergency
    else if s.proof.value == .notSecure then .refuse s .notSecure
    else .event s (fun e => e.depart) doneReply
  else .refuse s .sequence

/-- An accepted RESUME (spec/06 R125): SUPERVISION_RESUMED carries the whole seconds spent in EXPIRED, at most 65535. The
time spent is the difference of two uptimes, modulo 2^32 ms (log 40, the model's choice). -/
def State.resume (s : State) : State :=
  let spent := (s.uptime - s.supervision.expiredAt.getD 0).toNat / 1000
  ({ s with supervision :=
      { state := .armed, timer := some (.start s.platform.supervisionPeriod), expiredAt := none } }).post
    .supervisionResumed none (min 65535 spent)

/-- RESUME (spec/06 R125). -/
def ownerResume : Owner := fun _ s =>
  if s.supervision.state == .expired then .event s (fun e => (e.on State.resume, [])) doneReply
  else .refuse s .sequence

/-- POLL (spec/04 R94). -/
def execPoll (l : Link) (body : List Byte) (s : State) : Host.Outcome State Fault Refusal :=
  .next (s.request l .poll body ownerPoll)

/-- ANNOUNCE (spec/02 R32). -/
def execAnnounce (l : Link) (body : List Byte) (s : State) : Host.Outcome State Fault Refusal :=
  .next (s.request l .announce body ownerAnnounce)

/-- CANCEL (spec/02 R33). -/
def execCancel (l : Link) (body : List Byte) (s : State) : Host.Outcome State Fault Refusal :=
  .next (s.request l .cancel body ownerCancel)

/-- BERTH (spec/02 R34). -/
def execBerth (l : Link) (body : List Byte) (s : State) : Host.Outcome State Fault Refusal :=
  .next (s.request l .berth body ownerBerth)

/-- OPEN_MAP (spec/02 R42 to R45). -/
def execOpenMap (l : Link) (body : List Byte) (s : State) : Host.Outcome State Fault Refusal :=
  .next (s.request l .openMap body ownerOpenMap)

/-- CLOSE_MAP (spec/02 R47). -/
def execCloseMap (l : Link) (body : List Byte) (s : State) : Host.Outcome State Fault Refusal :=
  .next (s.request l .closeMap body ownerCloseMap)

/-- DEPART (spec/02 R48). -/
def execDepart (l : Link) (body : List Byte) (s : State) : Host.Outcome State Fault Refusal :=
  .next (s.request l .depart body ownerDepart)

/-- RESUME (spec/06 R125). -/
def execResume (l : Link) (body : List Byte) (s : State) : Host.Outcome State Fault Refusal :=
  .next (s.request l .resume body ownerResume)

end Sys2Proof.Machine
end

