-- ==== Sys2Proof/Machine/StationAct.lean ====
section
/-! DEFINITION. The station's acts: rows BAY_COMMAND_OPEN to RESTART (spec/01 R26, spec/02 R53, spec/03 R68, spec/05 R106 and
R116, spec/08 R149 to R151 and R156). -/

namespace Sys2Proof.Machine

/-- The result of a BAY_COMMAND (spec/01 R26). -/
def bayCommandResult (e : Ev) : Result :=
  if e.accepted.isEmpty then .refused else if e.refused.isEmpty then .done else .partly

/-- BAY_COMMAND (spec/01 R26): the action's range, its mode, then each bay of the set. -/
def ownerBayCommand : Owner := fun body s =>
  match bayCommandOperand body with
  | none => .refuse s .range
  | some (bays, a) =>
    if !a.admitted s.mode.mode then .refuse s .mode
    else
      .event s (fun e => (e, (membersOf bays).map (.command a))) (fun e => (bayCommandResult e, bayCommandContent e))

/-- The records that one ACK_RELEASE names: all of them, or those of one number (spec/05 R116). -/
def acksRecord (target : Option Nat) (r : ReleaseRecord) : Bool :=
  match target with
  | none => true
  | some n => r.number == n

/-- ACK_RELEASE (spec/05 R116). -/
def ownerAckRelease : Owner := fun body s =>
  match ackOperand body with
  | none => .refuse s .range
  | some target =>
    if target.isSome && !s.release.log.any (acksRecord target) then .refuse s .refused
    else
      let log := ackIn (acksRecord target) s.release.log
      .settled { s with release := { s.release with log := log } } (be8 log.length)

/-- EMERGENCY_OPEN (spec/05 R106): the reply carries the latch and its source as they stood before. -/
def ownerEmergencyOpen : Owner := fun _ s =>
  let content := flagByte s.fire ++ be8 (fireSourceCode s.release.latch)
  .event s (fun e => (e, [.fireSet .station])) (fun _ => (.done, content))

/-- EXTEND_DWELL (spec/02 R53). -/
def ownerExtendDwell : Owner := fun body s =>
  match extendOperand body with
  | none => .refuse s .range
  | some step =>
    if s.train.dwellRuns then
      .event s (fun e => (e.on (fun t => t.extendDwell step), [])) (fun e => (.done, be16 e.s.train.dwellLimit))
    else .refuse s .sequence

/-- Every line of a set takes its level into its output latch (spec/03 R68). -/
def State.setOutputs (s : State) (lines levels : Nat) : State :=
  { s with lines := tableOf (fun n =>
      if inSet lines n then { s.line n with outputLatch := inSet levels n } else s.line n) }

/-- SET_OUTPUT (spec/03 R68). -/
def ownerSetOutput : Owner := fun body s =>
  match setOutputOperand body with
  | none => .refuse s .range
  | some (lines, levels) =>
    if (membersOf lines).any (fun n => (s.lineRecord n).function != .generalOutput) then .refuse s .conflict
    else .settled (s.setOutputs lines levels) (s.setOutputs lines levels).outputContent

/-- An accepted ENTER_MAINTENANCE (spec/08 R149): supervision becomes DISARMED in the same event (spec/06 R126). -/
def State.enterMaintenance (s : State) : State :=
  { s.changeMode .maintenance with supervision := { state := .disarmed, timer := none, expiredAt := none } }

/-- ENTER_MAINTENANCE (spec/08 R149). -/
def ownerEnterMaintenance : Owner := fun _ s =>
  if s.mode.mode == .maintenance then .refuse s .sequence
  else if !s.functionLevel .maintenanceKey then .refuse s .key
  else if s.train.state != .empty then .refuse s .sequence
  else .event s (fun e => (e.on State.enterMaintenance, [])) doneReply

/-- LEAVE_MAINTENANCE (spec/08 R150). -/
def ownerLeaveMaintenance : Owner := fun _ s =>
  if s.mode.mode == .maintenance then .event s Ev.leaveMaintenance doneReply else .refuse s .sequence

/-- HALT (spec/08 R151). -/
def ownerHalt : Owner := fun _ s => .event s (fun e => e.enterHalted .request) doneReply

/-- PREPARE_RESTART (spec/08 R156). -/
def ownerPrepareRestart : Owner := fun _ s => { Answer.settled s [] with prepares := true }

/-- RESTART (spec/08 R156): the restart follows the reply. -/
def ownerRestart : Owner := fun _ s =>
  if s.mode.preparation then .settled { s with mode := { s.mode with restartAccepted := true } } []
  else .refuse s .sequence

/-- BAY_COMMAND with action OPEN (spec/01 R26, R27). -/
def execBayCommandOpen (l : Link) (body : List Byte) (s : State) : Host.Outcome State Fault Refusal :=
  .next (s.request l .bayCommand (withAction .opens body) ownerBayCommand)

/-- BAY_COMMAND with action CLOSE (spec/01 R26, R27). -/
def execBayCommandClose (l : Link) (body : List Byte) (s : State) : Host.Outcome State Fault Refusal :=
  .next (s.request l .bayCommand (withAction .closes body) ownerBayCommand)

/-- BAY_COMMAND with action STOP (spec/01 R17, R26). -/
def execBayCommandStop (l : Link) (body : List Byte) (s : State) : Host.Outcome State Fault Refusal :=
  .next (s.request l .bayCommand (withAction .stop body) ownerBayCommand)

/-- BAY_COMMAND with action HOLD (spec/01 R20, R26). -/
def execBayCommandHold (l : Link) (body : List Byte) (s : State) : Host.Outcome State Fault Refusal :=
  .next (s.request l .bayCommand (withAction .hold body) ownerBayCommand)

/-- BAY_COMMAND with action FREE (spec/01 R20, R26). -/
def execBayCommandFree (l : Link) (body : List Byte) (s : State) : Host.Outcome State Fault Refusal :=
  .next (s.request l .bayCommand (withAction .free body) ownerBayCommand)

/-- BAY_COMMAND with action ISOLATE (spec/01 R21, R26). -/
def execBayCommandIsolate (l : Link) (body : List Byte) (s : State) : Host.Outcome State Fault Refusal :=
  .next (s.request l .bayCommand (withAction .isolate body) ownerBayCommand)

/-- BAY_COMMAND with action RESTORE (spec/01 R22, R26). -/
def execBayCommandRestore (l : Link) (body : List Byte) (s : State) : Host.Outcome State Fault Refusal :=
  .next (s.request l .bayCommand (withAction .restore body) ownerBayCommand)

/-- BAY_COMMAND with action CLEAR_FAULT (spec/07 R141, spec/01 R26). -/
def execBayCommandClearFault (l : Link) (body : List Byte) (s : State) : Host.Outcome State Fault Refusal :=
  .next (s.request l .bayCommand (withAction .clearFault body) ownerBayCommand)

/-- ACK_RELEASE (spec/05 R116). -/
def execAckRelease (l : Link) (body : List Byte) (s : State) : Host.Outcome State Fault Refusal :=
  .next (s.request l .ackRelease body ownerAckRelease)

/-- EMERGENCY_OPEN (spec/05 R106). -/
def execEmergencyOpen (l : Link) (body : List Byte) (s : State) : Host.Outcome State Fault Refusal :=
  .next (s.request l .emergencyOpen body ownerEmergencyOpen)

/-- EXTEND_DWELL (spec/02 R53). -/
def execExtendDwell (l : Link) (body : List Byte) (s : State) : Host.Outcome State Fault Refusal :=
  .next (s.request l .extendDwell body ownerExtendDwell)

/-- SET_OUTPUT (spec/03 R68). -/
def execSetOutput (l : Link) (body : List Byte) (s : State) : Host.Outcome State Fault Refusal :=
  .next (s.request l .setOutput body ownerSetOutput)

/-- ENTER_MAINTENANCE (spec/08 R149). -/
def execEnterMaintenance (l : Link) (body : List Byte) (s : State) : Host.Outcome State Fault Refusal :=
  .next (s.request l .enterMaintenance body ownerEnterMaintenance)

/-- LEAVE_MAINTENANCE (spec/08 R150). -/
def execLeaveMaintenance (l : Link) (body : List Byte) (s : State) : Host.Outcome State Fault Refusal :=
  .next (s.request l .leaveMaintenance body ownerLeaveMaintenance)

/-- HALT (spec/08 R151). -/
def execHalt (l : Link) (body : List Byte) (s : State) : Host.Outcome State Fault Refusal :=
  .next (s.request l .halt body ownerHalt)

/-- PREPARE_RESTART (spec/08 R156). -/
def execPrepareRestart (l : Link) (body : List Byte) (s : State) : Host.Outcome State Fault Refusal :=
  .next (s.request l .prepareRestart body ownerPrepareRestart)

/-- RESTART (spec/08 R156). -/
def execRestart (l : Link) (body : List Byte) (s : State) : Host.Outcome State Fault Refusal :=
  .next (s.request l .restart body ownerRestart)

end Sys2Proof.Machine
end

