-- ==== Sys2Proof/Machine/StationRead.lean ====
section
/-! DEFINITION. The station's reads: rows READ_STATUS to SET_TRACE (spec/01 R25, spec/02 R54, spec/03 R69, spec/05 R115,
spec/07 R143, spec/09 R163, spec/10 R175 to R180). -/

namespace Sys2Proof.Machine

/-- READ_STATUS clears the AUTHORITY flag (spec/10 R175); the reply shows the state as the request found it. -/
def ownerReadStatus : Owner := fun _ s =>
  .settled { s with events := { s.events with authority := false } } s.statusContent

/-- READ_BAYS (spec/10 R176). -/
def ownerReadBays : Owner := fun body s =>
  match readBaysOperand body with
  | none => .refuse s .range
  | some (first, count) => .settled s (s.baysContent first count)

/-- READ_TRAIN (spec/02 R54). -/
def ownerReadTrain : Owner := fun _ s => .settled s s.trainContent

/-- READ_MAP (spec/02 R54). -/
def ownerReadMap : Owner := fun _ s => .settled s s.mapReplyContent

/-- The frame of a target (spec/07 R143). -/
def State.frameOf (s : State) : Option BayIx → Frame
  | none => s.platformFrame
  | some b => (s.bay b).frame

/-- The clear flag clears a frame in this state (spec/07 R143): the platform frame in ACTIVE, a bay frame in ADVISED. -/
def clearable (target : Option BayIx) (f : Frame) : Bool :=
  match target with
  | none => f.state == .active
  | some _ => f.state == .advised

/-- A frame is cleared by READ_FAULT (spec/07 R143). -/
def State.clearTarget (s : State) : Option BayIx → State
  | none =>
    ({ s with platformFrame := s.platformFrame.clear }).post .faultCleared none
      (highLow s.platformFrame.firstCode ClearCause.readFault.code)
  | some b => s.clearFrame .readFault b

/-- READ_FAULT (spec/07 R143). -/
def ownerReadFault : Owner := fun body s =>
  match readFaultOperand body with
  | none => .refuse s .range
  | some (target, clear) =>
    let f := s.frameOf target
    let cleared := clear && clearable target f
    .settled (if cleared then s.clearTarget target else s) (s.faultContent (bayField target) f cleared)

/-- READ_RELEASES (spec/05 R115). -/
def ownerReadReleases : Owner := fun body s =>
  match readReleasesOperand body with
  | none => .refuse s .range
  | some start => .settled s (s.releasesContent start)

/-- Every change latch is cleared (spec/03 R69). -/
def State.clearLatches (s : State) : State :=
  { s with lines := mapVector (fun x => { x with changeLatch := false }) s.lines }

/-- READ_LINES (spec/03 R69). -/
def ownerReadLines : Owner := fun body s =>
  match readLinesOperand body with
  | none => .refuse s .range
  | some b => .settled s.clearLatches (s.linesContent b)

/-- The record that READ_CONFIG returns (spec/09 R163). -/
def State.configContent (s : State) : ConfigIndex → List Byte
  | .bay b => (s.bayRecord b).content b
  | .profile i => (s.store.working.profiles[i.val]).content i
  | .response i => (s.store.working.responses[i.val]).content i
  | .line n => (s.lineRecord n).content n
  | .platform => s.platform.content

/-- READ_CONFIG (spec/09 R163). -/
def ownerReadConfig : Owner := fun body s =>
  match readConfigOperand body with
  | none => .refuse s .range
  | some i => .settled s (s.configContent i ++ flagByte s.store.dirty)

/-- The oldest records leave the queue and EVENTS_LOST is cleared (spec/10 R179). -/
def State.takeEvents (s : State) (count : Nat) : State :=
  { s with events := { s.events with queue := s.events.queue.drop count, lost := false } }

/-- TAKE_EVENTS (spec/10 R179). -/
def ownerTakeEvents : Owner := fun body s =>
  match takeEventsOperand body with
  | none => .refuse s .range
  | some count => .settled (s.takeEvents count) (s.eventsContent count)

/-- SET_ATTENTION (spec/10 R180). -/
def ownerSetAttention : Owner := fun body s =>
  match body with
  | [mask] => .settled { s with events := { s.events with mask := mask } } [mask]
  | _ => .refuse s .range

/-- Trace is set or cleared on every bay of a set (spec/01 R25). -/
def State.setTrace (s : State) (bays : Nat) (on : Bool) : State :=
  { s with bays := tableOf (fun b => if inSet bays b then { s.bay b with trace := on } else s.bay b) }

/-- SET_TRACE (spec/01 R25). -/
def ownerSetTrace : Owner := fun body s =>
  match setTraceOperand body with
  | none => .refuse s .range
  | some (bays, on) => .settled (s.setTrace bays on) []

/-- READ_STATUS (spec/10 R175). -/
def execReadStatus (l : Link) (body : List Byte) (s : State) : Host.Outcome State Fault Refusal :=
  .next (s.request l .readStatus body ownerReadStatus)

/-- READ_BAYS (spec/10 R176). -/
def execReadBays (l : Link) (body : List Byte) (s : State) : Host.Outcome State Fault Refusal :=
  .next (s.request l .readBays body ownerReadBays)

/-- READ_TRAIN (spec/02 R54). -/
def execReadTrain (l : Link) (body : List Byte) (s : State) : Host.Outcome State Fault Refusal :=
  .next (s.request l .readTrain body ownerReadTrain)

/-- READ_MAP (spec/02 R54). -/
def execReadMap (l : Link) (body : List Byte) (s : State) : Host.Outcome State Fault Refusal :=
  .next (s.request l .readMap body ownerReadMap)

/-- READ_FAULT (spec/07 R143). -/
def execReadFault (l : Link) (body : List Byte) (s : State) : Host.Outcome State Fault Refusal :=
  .next (s.request l .readFault body ownerReadFault)

/-- READ_RELEASES (spec/05 R115). -/
def execReadReleases (l : Link) (body : List Byte) (s : State) : Host.Outcome State Fault Refusal :=
  .next (s.request l .readReleases body ownerReadReleases)

/-- READ_LINES (spec/03 R69). -/
def execReadLines (l : Link) (body : List Byte) (s : State) : Host.Outcome State Fault Refusal :=
  .next (s.request l .readLines body ownerReadLines)

/-- READ_CONFIG (spec/09 R163). -/
def execReadConfig (l : Link) (body : List Byte) (s : State) : Host.Outcome State Fault Refusal :=
  .next (s.request l .readConfig body ownerReadConfig)

/-- TAKE_EVENTS (spec/10 R179). -/
def execTakeEvents (l : Link) (body : List Byte) (s : State) : Host.Outcome State Fault Refusal :=
  .next (s.request l .takeEvents body ownerTakeEvents)

/-- SET_ATTENTION (spec/10 R180). -/
def execSetAttention (l : Link) (body : List Byte) (s : State) : Host.Outcome State Fault Refusal :=
  .next (s.request l .setAttention body ownerSetAttention)

/-- SET_TRACE (spec/01 R25). -/
def execSetTrace (l : Link) (body : List Byte) (s : State) : Host.Outcome State Fault Refusal :=
  .next (s.request l .setTrace body ownerSetTrace)

end Sys2Proof.Machine
end

