-- ==== Sys2Proof/Machine/LinkRows.lean ====
section
/-! DEFINITION. Bytes, frames and replies on the links: rows INTER_BYTE_GAP to UNKNOWN_KIND, and BYTE_RECEIVED
(spec/10 R170 to R173). -/

namespace Sys2Proof.Machine

/-- The owner of a request kind (spec/10, 10.3). -/
def ownerOf : RequestKind → Owner
  | .poll => ownerPoll
  | .announce => ownerAnnounce
  | .cancel => ownerCancel
  | .berth => ownerBerth
  | .openMap => ownerOpenMap
  | .closeMap => ownerCloseMap
  | .depart => ownerDepart
  | .resume => ownerResume
  | .readStatus => ownerReadStatus
  | .readBays => ownerReadBays
  | .readTrain => ownerReadTrain
  | .readMap => ownerReadMap
  | .readFault => ownerReadFault
  | .readReleases => ownerReadReleases
  | .readLines => ownerReadLines
  | .readConfig => ownerReadConfig
  | .takeEvents => ownerTakeEvents
  | .setAttention => ownerSetAttention
  | .setTrace => ownerSetTrace
  | .bayCommand => ownerBayCommand
  | .ackRelease => ownerAckRelease
  | .emergencyOpen => ownerEmergencyOpen
  | .extendDwell => ownerExtendDwell
  | .setOutput => ownerSetOutput
  | .enterMaintenance => ownerEnterMaintenance
  | .leaveMaintenance => ownerLeaveMaintenance
  | .halt => ownerHalt
  | .prepareRestart => ownerPrepareRestart
  | .restart => ownerRestart
  | .writeBay => ownerWriteBay
  | .writeProfile => ownerWriteProfile
  | .eraseProfile => ownerEraseProfile
  | .writeResponse => ownerWriteResponse
  | .writeLine => ownerWriteLine
  | .writePlatform => ownerWritePlatform
  | .commit => ownerCommit
  | .freezeConfig => ownerFreezeConfig
  | .fixGeometry => ownerFixGeometry

/-- A complete frame with a matching CRC (spec/10 R170, R171): the request of its kind, or an unknown kind. -/
def State.receiveFrame (s : State) (l : Link) (kind : Byte) (body : List Byte) : State :=
  match RequestKind.ofCode kind with
  | some k => s.request l k body (ownerOf k)
  | none => s.receive l kind judgeUnknown

/-- The bytes of a complete frame are judged by their CRC (spec/10 R170). -/
def State.completeFrame (s : State) (l : Link) (length : Byte) (bytes : List Byte) : State :=
  if crcMatches length bytes then
    match bytes.take length.toNat with
    | kind :: body => s.receiveFrame l kind body
    | [] => s.setBuffer l .hunting
  else s.setBuffer l .hunting

/-- INTER_BYTE_GAP: a partial frame is abandoned (spec/10 R170). -/
def execInterByteGap (l : Link) (s : State) : Host.Outcome State Fault Refusal :=
  .next (if s.runs && (s.port l).buffer.partly then s.setBuffer l .hunting else s)

/-- FRAME_CRC_MISMATCH: a frame is discarded (spec/10 R170); while a reply is owed its bytes are (spec/10 R173). -/
def execFrameCrcMismatch (l : Link) (s : State) : Host.Outcome State Fault Refusal :=
  .next (if !s.runs then s
    else if (s.port l).reply.isSome then s.discard l
    else s.setBuffer l .hunting)

/-- BYTE_WHILE_REPLY_OWED: the byte is discarded and OVERRUN set (spec/10 R173). -/
def execByteWhileReplyOwed (l : Link) (s : State) : Host.Outcome State Fault Refusal :=
  .next (if s.runs && (s.port l).reply.isSome then s.discard l else s)

/-- A link after its reply has been sent (spec/10 R173): OVERRUN is cleared by a reply that carried it, and stays set where a
byte has been discarded meanwhile. -/
def Port.sent (p : Port) (r : Reply) : Port :=
  { buffer := .hunting, sinceByte := 0, reply := none, overrun := (p.overrun && !r.showsOverrun) || p.discarded
    discarded := false }

/-- REPLY_SENT: the reply's last byte has gone (spec/10 R173); after an accepted RESTART the restart begins
(spec/08 R156). -/
def execReplySent (l : Link) (s : State) : Host.Outcome State Fault Refusal :=
  .next (match s.runs, (s.port l).reply with
    | true, some r =>
      let s1 := s.setPort l ((s.port l).sent r)
      if l == .station && s.mode.restartAccepted then s1.restart .request else s1
    | _, _ => s)

/-- UNKNOWN_KIND: a frame of a kind that neither link has (spec/10 R171). -/
def execUnknownKind (l : Link) (kind : Byte) (body : List Byte) (s : State) : Host.Outcome State Fault Refusal :=
  .next (s.receiveFrame l kind body)

/-- BYTE_RECEIVED (spec/10 R170, R173). -/
def execByteReceived (l : Link) (x : Byte) (s : State) : Host.Outcome State Fault Refusal :=
  .next (if !s.runs then s
    else if (s.port l).reply.isSome then s.discard l
    else
      match (s.port l).buffer.take x with
      | .moves b => s.setBuffer l b
      | .frame length bytes => s.completeFrame l length bytes)

end Sys2Proof.Machine
end

