-- ==== Sys2Proof/Machine/Power.lean ====
section
/-! DEFINITION. Supply, RESET_N and the end of loading: rows POWER_ON to LOADING_ENDS (spec/08 R146, R147; log 17 for
commands that find nothing to change). -/

namespace Sys2Proof.Machine

/-- POWER_ON: the logic supply enters its range (spec/08 R146). -/
def execPowerOn (s : State) : Host.Outcome State Fault Refusal :=
  .next (if s.power.supplyInRange then s
    else ({ s with power := { s.power with supplyInRange := true, supplyReturned := true } }).beginRestart)

/-- SUPPLY_OUT_OF_RANGE: the part stops running (spec/08 R146; log 24). -/
def execSupplyOutOfRange (s : State) : Host.Outcome State Fault Refusal :=
  .next (if s.power.supplyInRange then
      ({ s with power := { s.power with supplyInRange := false } }).powerDown
    else s)

/-- RESET_N_ASSERTED: the part stops running (spec/08 R146; log 24). -/
def execResetNAsserted (s : State) : Host.Outcome State Fault Refusal :=
  .next (if s.power.resetAsserted then s
    else ({ s with power := { s.power with resetAsserted := true, resetSeen := true } }).powerDown)

/-- RESET_N_RELEASED: the restart begins if the supply is in range (spec/08 R146). -/
def execResetNReleased (s : State) : Host.Outcome State Fault Refusal :=
  .next (if s.power.resetAsserted then
      ({ s with power := { s.power with resetAsserted := false } }).beginRestart
    else s)

/-- LOADING_ENDS: STARTING ends with the start-up evaluations (spec/08 R147). -/
def execLoadingEnds (s : State) : Host.Outcome State Fault Refusal :=
  .next (if s.runs && s.mode.mode == .starting then s.event Ev.endStarting else s)

end Sys2Proof.Machine
end

