-- ==== Sys2Proof/Machine/TimerRows.lean ====
section
/-! DEFINITION. Timers of the bays, of the face and of the store: rows UNLOCK_LIMIT_EXPIRES to RECORD_WRITE_COMPLETES. A
row acts when its timer runs, whatever it has counted to (log 2), and has no effect otherwise (spec/01 R6). -/

namespace Sys2Proof.Machine

/-- The phase timer of a bay, if it runs in a phase that p holds of. -/
def State.phaseTimerIn (s : State) (b : BayIx) (p : Bay → Bool) : Option Timer :=
  if s.active && p (s.bay b) then (s.bay b).timer else none

/-- The phase timer of a bay has run out: it is dropped and a code is raised with the limit that ran (spec/07 R128). -/
def Ev.limitExpires (e : Ev) (b : BayIx) (c : FaultCode) (t : Timer) : Ev × List Task :=
  (e.onBay b (fun x => { x with timer := none }), [.raise b c t.limit])

/-- A phase limit expires in the phases that p holds of. -/
def State.limitRow (s : State) (b : BayIx) (p : Bay → Bool) (c : FaultCode) : State :=
  match s.phaseTimerIn b p with
  | some t => s.event (fun e => e.limitExpires b c t)
  | none => s

/-- UNLOCK_LIMIT_EXPIRES (spec/01 R8). -/
def execUnlockLimitExpires (b : BayIx) (s : State) : Host.Outcome State Fault Refusal :=
  .next (s.limitRow b (fun x => x.phase == .unlocking) .unlockTimeout)

/-- The open limit runs in OPENING and in the driving part of REOPENING (spec/01 R9, R13). -/
def Bay.openLimitRuns (x : Bay) : Bool := x.phase == .opening || (x.phase == .reopening && !x.pausing)

/-- OPEN_LIMIT_EXPIRES (spec/01 R9, R13). -/
def execOpenLimitExpires (b : BayIx) (s : State) : Host.Outcome State Fault Refusal :=
  .next (s.limitRow b Bay.openLimitRuns .openTimeout)

/-- CLOSE_LIMIT_EXPIRES (spec/01 R12). -/
def execCloseLimitExpires (b : BayIx) (s : State) : Host.Outcome State Fault Refusal :=
  .next (s.limitRow b (fun x => x.phase == .closing) .closeTimeout)

/-- LOCK_LIMIT_EXPIRES (spec/01 R14). -/
def execLockLimitExpires (b : BayIx) (s : State) : Host.Outcome State Fault Refusal :=
  .next (s.limitRow b (fun x => x.phase == .closedUnlocked) .lockTimeout)

/-- A bay passes to CLOSING at the end of its warning or of its pause (spec/01 R11, R13). -/
def Ev.toClosing (e : Ev) (b : BayIx) : Ev × List Task := (e.enter b .closing, entered b)

/-- WARNING_PERIOD_EXPIRES: not while the warning is held (spec/01 R11, spec/03 R71). -/
def execWarningPeriodExpires (b : BayIx) (s : State) : Host.Outcome State Fault Refusal :=
  .next (match s.phaseTimerIn b (fun x => x.phase == .warning && !x.warningHeld) with
    | some _ => s.event (fun e => e.toClosing b)
    | none => s)

/-- The cap timer has run out (spec/01 R11; log 25 for the value). -/
def Ev.forceClosing (e : Ev) (b : BayIx) (t : Timer) : Ev × List Task :=
  (((e.enter b .closing).onBay b (fun x => { x with forced := true })).on (fun s => s.post .closeForced (some b) t.limit),
    entered b)

/-- The cap timer of a bay, if it runs (spec/01 R11). -/
def State.capRunning (s : State) (b : BayIx) : Option Timer :=
  if s.active && (s.bay b).phase == .warning then (s.bay b).cap else none

/-- CURTAIN_HOLD_LIMIT_EXPIRES (spec/01 R11). -/
def execCurtainHoldLimitExpires (b : BayIx) (s : State) : Host.Outcome State Fault Refusal :=
  .next (match s.capRunning b with
    | some t => s.event (fun e => e.forceClosing b t)
    | none => s)

/-- REOPEN_PAUSE_EXPIRES: the bay passes to CLOSING with no warning (spec/01 R13). -/
def execReopenPauseExpires (b : BayIx) (s : State) : Host.Outcome State Fault Refusal :=
  .next (match s.phaseTimerIn b (fun x => x.phase == .reopening && x.pausing) with
    | some _ => s.event (fun e => e.toClosing b)
    | none => s)

/-- The stuck timer of a sensor (spec/03 R73). -/
def Bay.stuckTimerOf (x : Bay) : Sensor → Option Timer
  | .gap => x.gapStuckTimer
  | .curtain => x.curtainStuckTimer

/-- STUCK_TIMER_EXPIRES (spec/03 R74). -/
def execStuckTimerExpires (b : BayIx) (sensor : Sensor) (s : State) : Host.Outcome State Fault Refusal :=
  .next (if s.active && ((s.bay b).stuckTimerOf sensor).isSome then s.event (fun e => e.markStuck b sensor) else s)

/-- GAP_SCAN_TIMER_EXPIRES: the result becomes CLEAR (spec/03 R77). -/
def execGapScanTimerExpires (s : State) : Host.Outcome State Fault Refusal :=
  .next (if s.active && s.gap.result == .scanning && s.gap.timer.isSome then s.event (fun e => e.setGap .clear) else s)

/-- The supervision timer, if it runs (spec/06 R117). -/
def State.supervisionRunning (s : State) : Option Timer :=
  if s.active && s.supervision.state == .armed then s.supervision.timer else none

/-- The expiry of supervision (spec/06 R120). -/
def Ev.supervisionExpires (e : Ev) (t : Timer) : Ev × List Task :=
  (e.on (fun s => { s with supervision := { state := .expired, timer := none, expiredAt := some s.uptime } }),
    [.raiseFace .linkExpired t.limit, .postExpired t.limit] ++ allBays.map .linkLoss)

/-- SUPERVISION_TIMER_EXPIRES (spec/06 R120). -/
def execSupervisionTimerExpires (s : State) : Host.Outcome State Fault Refusal :=
  .next (match s.supervisionRunning with
    | some t => s.event (fun e => e.supervisionExpires t)
    | none => s)

/-- The dwell is supervised and its clock runs (spec/02 R52). -/
def State.dwellSupervised (s : State) : Bool := s.active && s.train.dwellRuns && s.train.dwellLimit != 0

/-- DWELL_DUE: elapsed reaches the limit (spec/02 R52; log 23). -/
def execDwellDue (s : State) : Host.Outcome State Fault Refusal :=
  .next (if s.dwellSupervised && !s.train.due then
      s.event (fun e => (e.on (fun t => t.reachDwell t.train.dueAt), []))
    else s)

/-- DWELL_OVERSTAY: elapsed reaches the limit plus the overstay margin (spec/02 R52; log 23). -/
def execDwellOverstay (s : State) : Host.Outcome State Fault Refusal :=
  .next (if s.dwellSupervised && !s.train.overstay then
      s.event (fun e => (e.on (fun t => t.reachDwell t.overstayAt), []))
    else s)

/-- RECORD_WRITE_COMPLETES: the record verifies, or fails (spec/09 R165, R167; log 13). -/
def execRecordWriteCompletes (verified : Bool) (s : State) : Host.Outcome State Fault Refusal :=
  .next (if s.active && s.store.state == .committing then
      s.event (fun e => if verified then (e.on State.recordPassed, []) else e.recordFailed)
    else s)

end Sys2Proof.Machine
end

