-- ==== Sys2Proof/Machine/Dispatch.lean ====
section
/-! DEFINITION. One arm for each command: the effect of the command on everything but the queue of waiting commands. -/

namespace Sys2Proof.Machine

/-- The effect of a command (spec/opcode_table.json). -/
def exec (i : Instr) (s : State) : Host.Outcome State Fault Refusal :=
  match i with
  | .powerOn => Sys2Proof.Machine.execPowerOn s
  | .supplyOutOfRange => Sys2Proof.Machine.execSupplyOutOfRange s
  | .resetNAsserted => Sys2Proof.Machine.execResetNAsserted s
  | .resetNReleased => Sys2Proof.Machine.execResetNReleased s
  | .loadingEnds => Sys2Proof.Machine.execLoadingEnds s
  | .rawLevelChange line high => Sys2Proof.Machine.execRawLevelChange line high s
  | .filterHoldExpires line => Sys2Proof.Machine.execFilterHoldExpires line s
  | .unlockLimitExpires b => Sys2Proof.Machine.execUnlockLimitExpires b s
  | .openLimitExpires b => Sys2Proof.Machine.execOpenLimitExpires b s
  | .closeLimitExpires b => Sys2Proof.Machine.execCloseLimitExpires b s
  | .lockLimitExpires b => Sys2Proof.Machine.execLockLimitExpires b s
  | .warningPeriodExpires b => Sys2Proof.Machine.execWarningPeriodExpires b s
  | .curtainHoldLimitExpires b => Sys2Proof.Machine.execCurtainHoldLimitExpires b s
  | .reopenPauseExpires b => Sys2Proof.Machine.execReopenPauseExpires b s
  | .stuckTimerExpires b sensor => Sys2Proof.Machine.execStuckTimerExpires b sensor s
  | .gapScanTimerExpires => Sys2Proof.Machine.execGapScanTimerExpires s
  | .supervisionTimerExpires => Sys2Proof.Machine.execSupervisionTimerExpires s
  | .dwellDue => Sys2Proof.Machine.execDwellDue s
  | .dwellOverstay => Sys2Proof.Machine.execDwellOverstay s
  | .recordWriteCompletes verified => Sys2Proof.Machine.execRecordWriteCompletes verified s
  | .interByteGap l => Sys2Proof.Machine.execInterByteGap l s
  | .frameCrcMismatch l => Sys2Proof.Machine.execFrameCrcMismatch l s
  | .byteWhileReplyOwed l => Sys2Proof.Machine.execByteWhileReplyOwed l s
  | .replySent l => Sys2Proof.Machine.execReplySent l s
  | .unknownKind l kind body => Sys2Proof.Machine.execUnknownKind l kind body s
  | .poll l body => Sys2Proof.Machine.execPoll l body s
  | .announce l body => Sys2Proof.Machine.execAnnounce l body s
  | .cancel l body => Sys2Proof.Machine.execCancel l body s
  | .berth l body => Sys2Proof.Machine.execBerth l body s
  | .openMap l body => Sys2Proof.Machine.execOpenMap l body s
  | .closeMap l body => Sys2Proof.Machine.execCloseMap l body s
  | .depart l body => Sys2Proof.Machine.execDepart l body s
  | .resume l body => Sys2Proof.Machine.execResume l body s
  | .readStatus l body => Sys2Proof.Machine.execReadStatus l body s
  | .readBays l body => Sys2Proof.Machine.execReadBays l body s
  | .readTrain l body => Sys2Proof.Machine.execReadTrain l body s
  | .readMap l body => Sys2Proof.Machine.execReadMap l body s
  | .readFault l body => Sys2Proof.Machine.execReadFault l body s
  | .readReleases l body => Sys2Proof.Machine.execReadReleases l body s
  | .readLines l body => Sys2Proof.Machine.execReadLines l body s
  | .readConfig l body => Sys2Proof.Machine.execReadConfig l body s
  | .takeEvents l body => Sys2Proof.Machine.execTakeEvents l body s
  | .setAttention l body => Sys2Proof.Machine.execSetAttention l body s
  | .setTrace l body => Sys2Proof.Machine.execSetTrace l body s
  | .bayCommandOpen l body => Sys2Proof.Machine.execBayCommandOpen l body s
  | .bayCommandClose l body => Sys2Proof.Machine.execBayCommandClose l body s
  | .bayCommandStop l body => Sys2Proof.Machine.execBayCommandStop l body s
  | .bayCommandHold l body => Sys2Proof.Machine.execBayCommandHold l body s
  | .bayCommandFree l body => Sys2Proof.Machine.execBayCommandFree l body s
  | .bayCommandIsolate l body => Sys2Proof.Machine.execBayCommandIsolate l body s
  | .bayCommandRestore l body => Sys2Proof.Machine.execBayCommandRestore l body s
  | .bayCommandClearFault l body => Sys2Proof.Machine.execBayCommandClearFault l body s
  | .ackRelease l body => Sys2Proof.Machine.execAckRelease l body s
  | .emergencyOpen l body => Sys2Proof.Machine.execEmergencyOpen l body s
  | .extendDwell l body => Sys2Proof.Machine.execExtendDwell l body s
  | .setOutput l body => Sys2Proof.Machine.execSetOutput l body s
  | .enterMaintenance l body => Sys2Proof.Machine.execEnterMaintenance l body s
  | .leaveMaintenance l body => Sys2Proof.Machine.execLeaveMaintenance l body s
  | .halt l body => Sys2Proof.Machine.execHalt l body s
  | .prepareRestart l body => Sys2Proof.Machine.execPrepareRestart l body s
  | .restart l body => Sys2Proof.Machine.execRestart l body s
  | .writeBay l body => Sys2Proof.Machine.execWriteBay l body s
  | .writeProfile l body => Sys2Proof.Machine.execWriteProfile l body s
  | .eraseProfile l body => Sys2Proof.Machine.execEraseProfile l body s
  | .writeResponse l body => Sys2Proof.Machine.execWriteResponse l body s
  | .writeLine l body => Sys2Proof.Machine.execWriteLine l body s
  | .writePlatform l body => Sys2Proof.Machine.execWritePlatform l body s
  | .commit l body => Sys2Proof.Machine.execCommit l body s
  | .freezeConfig l body => Sys2Proof.Machine.execFreezeConfig l body s
  | .fixGeometry l body => Sys2Proof.Machine.execFixGeometry l body s
  | .byteReceived l byte => Sys2Proof.Machine.execByteReceived l byte s

end Sys2Proof.Machine
end

