-- ==== Sys2Proof/Machine/Step.lean ====
section
/-! DEFINITION. One step: the command at the front of the queue, or, when none waits, a timer that has run out, or one
millisecond (log 1). -/

namespace Sys2Proof.Machine

/-- Takes the command at the front of the queue and carries it out on the state with the rest of the queue. With no command
waiting, the first timer that has run out expires (log 3); with none, one millisecond passes (log 1). -/
def step (s : State) : Host.Outcome State Fault Refusal :=
  match s.pending with
  | [] =>
    match s.dueCommand with
    | some c => exec c s
    | none => .next s.tick
  | c :: rest => exec c { s with pending := rest }

/-- The command that a word spells is put at the front of the queue; the table gives no row any bits, so no word spells
one. -/
def State.withFetchWord (s : State) (nbits w : Nat) : State :=
  match Sys2Proof.decodeTableWord nbits w with
  | some c => { s with pending := c :: s.pending }
  | none => s

end Sys2Proof.Machine
end

