-- ==== Sys2Proof/Safety.lean ====
section
/-! DEFINITION. The words the statements use: when a link is ready for a request and admits it, what an answered state looks
like, what a restart leaves, and the laws that the spec states for the part as a whole. -/

namespace Sys2Proof.Machine

/-! ### Requests -/

/-- The request that a command is: its link, its kind and its body. A BAY_COMMAND row carries its own action
(spec/11, 11.4). -/
def requestOf : Instr → Option (Link × RequestKind × List Byte)
  | .poll l body => some (l, .poll, body)
  | .announce l body => some (l, .announce, body)
  | .cancel l body => some (l, .cancel, body)
  | .berth l body => some (l, .berth, body)
  | .openMap l body => some (l, .openMap, body)
  | .closeMap l body => some (l, .closeMap, body)
  | .depart l body => some (l, .depart, body)
  | .resume l body => some (l, .resume, body)
  | .readStatus l body => some (l, .readStatus, body)
  | .readBays l body => some (l, .readBays, body)
  | .readTrain l body => some (l, .readTrain, body)
  | .readMap l body => some (l, .readMap, body)
  | .readFault l body => some (l, .readFault, body)
  | .readReleases l body => some (l, .readReleases, body)
  | .readLines l body => some (l, .readLines, body)
  | .readConfig l body => some (l, .readConfig, body)
  | .takeEvents l body => some (l, .takeEvents, body)
  | .setAttention l body => some (l, .setAttention, body)
  | .setTrace l body => some (l, .setTrace, body)
  | .bayCommandOpen l body => some (l, .bayCommand, withAction .opens body)
  | .bayCommandClose l body => some (l, .bayCommand, withAction .closes body)
  | .bayCommandStop l body => some (l, .bayCommand, withAction .stop body)
  | .bayCommandHold l body => some (l, .bayCommand, withAction .hold body)
  | .bayCommandFree l body => some (l, .bayCommand, withAction .free body)
  | .bayCommandIsolate l body => some (l, .bayCommand, withAction .isolate body)
  | .bayCommandRestore l body => some (l, .bayCommand, withAction .restore body)
  | .bayCommandClearFault l body => some (l, .bayCommand, withAction .clearFault body)
  | .ackRelease l body => some (l, .ackRelease, body)
  | .emergencyOpen l body => some (l, .emergencyOpen, body)
  | .extendDwell l body => some (l, .extendDwell, body)
  | .setOutput l body => some (l, .setOutput, body)
  | .enterMaintenance l body => some (l, .enterMaintenance, body)
  | .leaveMaintenance l body => some (l, .leaveMaintenance, body)
  | .halt l body => some (l, .halt, body)
  | .prepareRestart l body => some (l, .prepareRestart, body)
  | .restart l body => some (l, .restart, body)
  | .writeBay l body => some (l, .writeBay, body)
  | .writeProfile l body => some (l, .writeProfile, body)
  | .eraseProfile l body => some (l, .eraseProfile, body)
  | .writeResponse l body => some (l, .writeResponse, body)
  | .writeLine l body => some (l, .writeLine, body)
  | .writePlatform l body => some (l, .writePlatform, body)
  | .commit l body => some (l, .commit, body)
  | .freezeConfig l body => some (l, .freezeConfig, body)
  | .fixGeometry l body => some (l, .fixGeometry, body)
  | .powerOn | .supplyOutOfRange | .resetNAsserted | .resetNReleased | .loadingEnds | .rawLevelChange _ _
  | .filterHoldExpires _ | .unlockLimitExpires _ | .openLimitExpires _ | .closeLimitExpires _ | .lockLimitExpires _
  | .warningPeriodExpires _ | .curtainHoldLimitExpires _ | .reopenPauseExpires _ | .stuckTimerExpires _ _
  | .gapScanTimerExpires | .supervisionTimerExpires | .dwellDue | .dwellOverstay | .recordWriteCompletes _
  | .interByteGap _ | .frameCrcMismatch _ | .byteWhileReplyOwed _ | .replySent _ | .unknownKind _ _ _
  | .byteReceived _ _ => none

/-- A link takes a frame (spec/10 R170, R173; spec/08 R156): the part runs, no reply is owed on the link, and on the
signalling link no RESTART has been accepted. -/
abbrev Ready (l : Link) (s : State) : Prop :=
  s.runs = true ∧ (s.port l).reply = none ∧ (l = .signalling → s.mode.restartAccepted = false)

/-- A link takes a request and admits it (spec/08 R154): STARTING is over, the kind is the link's own, its body fits, the
mode admits it, and on the signalling link supervision is not EXPIRED or the kind passes. -/
abbrev Admits (l : Link) (k : RequestKind) (body : List Byte) (s : State) : Prop :=
  Ready l s ∧ s.mode.mode ≠ .starting ∧ k.link = l ∧ k.fits body = true ∧ k.admitted s.mode.mode = true
    ∧ (l = .signalling → s.supervision.state = .expired → k.passesExpired = true)

/-- The station link once a request of a kind has been taken and its reply is owed (spec/10 R172 to R174): the reply's
block is the OVERRUN flag as it stood. -/
def stationPort (s : State) (kind : Byte) (r : Result) (content : List Byte) : Port :=
  { buffer := .hunting, sinceByte := 0
    reply := some { kind := kind + 0x80#8, result := r, block := flagByte s.station.overrun, content := content
                    showsOverrun := s.station.overrun }
    overrun := s.station.overrun, discarded := s.station.discarded }

/-- The signalling link once a request has been taken from s and its event has left t: the reply's block is the summary of t
with the OVERRUN flag as it stood (spec/04 R93, R94). -/
def signallingPort (s t : State) (kind : Byte) (r : Result) (content : List Byte) : Port :=
  { buffer := .hunting, sinceByte := 0
    reply := some { kind := kind + 0x80#8, result := r, block := t.summary ++ flagByte s.signalling.overrun
                    content := content, showsOverrun := s.signalling.overrun }
    overrun := s.signalling.overrun, discarded := s.signalling.discarded }

/-- The state after a station request that changes nothing but the link, the preparation and the pins that follow. -/
def stationAnswer (s : State) (kind : Byte) (r : Result) (content : List Byte) : State :=
  { s with mode := { s.mode with preparation := false }, pins := s.pinsNow, station := stationPort s kind r content }

/-- The state after a signalling request that changes nothing but the link, supervision by its counted frame, and the pins
that follow. -/
def signallingAnswer (s : State) (kind : Byte) (r : Result) (content : List Byte) : State :=
  { s.countFrame with pins := s.countFrame.pinsNow, signalling := signallingPort s s.countFrame kind r content }

/-- An authority refusal is recorded, and no other (spec/08 R155). -/
def refusalRecorded (s : State) (l : Link) (kind : Byte) (r : Result) : State :=
  if r = .mode ∨ r = .wrongLink ∨ r = .key ∨ r = .guarded then
    ({ s with events := { s.events with authority := true } }).post .authorityRefused none
      (highLow (linkCode l) kind.toNat)
  else s

/-- A link answers with a result and a content, and nothing else changes but what taking a frame and answering always
change. -/
def answered (l : Link) (s : State) (kind : Byte) (r : Result) (content : List Byte) : State :=
  match l with
  | .station => stationAnswer s kind r content
  | .signalling => signallingAnswer s kind r content

/-- The first of the link's checks that a request fails, in the order of spec/08 R154: BUSY, WRONG_LINK, MALFORMED, MODE,
EXPIRED. -/
inductive LinkRefuses (l : Link) (k : RequestKind) (body : List Byte) (s : State) : Result → Prop
  | busy : s.mode.mode = .starting → LinkRefuses l k body s .busy
  | wrongLink : s.mode.mode ≠ .starting → k.link ≠ l → LinkRefuses l k body s .wrongLink
  | malformed : s.mode.mode ≠ .starting → k.link = l → k.fits body = false → LinkRefuses l k body s .malformed
  | mode : s.mode.mode ≠ .starting → k.link = l → k.fits body = true → k.admitted s.mode.mode = false →
      LinkRefuses l k body s .mode
  | expired : s.mode.mode ≠ .starting → k.link = l → k.fits body = true → k.admitted s.mode.mode = true →
      l = .signalling → s.supervision.state = .expired → k.passesExpired = false → LinkRefuses l k body s .expired

/-- The requests that write the store or its working copy, with the store's own checks (spec/09 R160, R164). -/
def RequestKind.writesStore (k : RequestKind) : Bool :=
  k == .writeBay || k == .writeProfile || k == .eraseProfile || k == .writeResponse || k == .writeLine
    || k == .writePlatform || k == .commit

/-- A field of a request lies outside its range (spec/11 R181). -/
abbrev RangeFails (k : RequestKind) (body : List Byte) : Prop :=
  (k = .announce ∧ announceOperand body = none) ∨ (k = .berth ∧ berthOperand body = none)
    ∨ (k = .openMap ∧ openMapOperand body = none) ∨ (k = .readBays ∧ readBaysOperand body = none)
    ∨ (k = .readFault ∧ readFaultOperand body = none) ∨ (k = .readReleases ∧ readReleasesOperand body = none)
    ∨ (k = .readLines ∧ readLinesOperand body = none) ∨ (k = .readConfig ∧ readConfigOperand body = none)
    ∨ (k = .takeEvents ∧ takeEventsOperand body = none) ∨ (k = .setTrace ∧ setTraceOperand body = none)
    ∨ (k = .bayCommand ∧ bayCommandOperand body = none) ∨ (k = .ackRelease ∧ ackOperand body = none)
    ∨ (k = .extendDwell ∧ extendOperand body = none) ∨ (k = .writeBay ∧ bayOperand body = none)
    ∨ (k = .writeProfile ∧ profileOperand body = none) ∨ (k = .eraseProfile ∧ eraseOperand body = none)
    ∨ (k = .writeResponse ∧ responseOperand body = none) ∨ (k = .writeLine ∧ lineOperand body = none)
    ∨ (k = .writePlatform ∧ platformOperand body = none)

/-! ### What stands -/

/-- What every event and every request leaves as it was: the supply, the time, the medium's one-time area and its frozen
flag, the waiting commands, the cause of the last restart, an accepted RESTART, the attention mask, the trace flags, and
the free-value counter. -/
structure Stands (s t : State) : Prop where
  power : t.power = s.power
  uptime : t.uptime = s.uptime
  area : t.store.area = s.store.area
  frozen : t.store.frozen = s.store.frozen
  pending : t.pending = s.pending
  restartCause : t.mode.restartCause = s.mode.restartCause
  restartAccepted : t.mode.restartAccepted = s.mode.restartAccepted
  mask : t.events.mask = s.events.mask
  authority : t.events.authority = s.events.authority
  trace : ∀ b, (t.bay b).trace = (s.bay b).trace
  freeCount : t.freeCount = s.freeCount

/-- The store stands but for its state, which the end of an event may move from SUSPENDED to COMMITTING (spec/09 R166). -/
abbrev StoreStands (s t : State) : Prop := { t.store with state := s.store.state } = s.store

/-- Both links and the restart preparation stand. -/
abbrev LinksStand (s t : State) : Prop :=
  t.station = s.station ∧ t.signalling = s.signalling ∧ t.mode.preparation = s.mode.preparation

/-- Every input line stands, and so do the latches of the general lines. -/
abbrev LinesStand (s t : State) : Prop := t.lines = s.lines ∧ ∀ b, (t.bay b).lines = (s.bay b).lines

/-- Every input line but one stands. -/
abbrev OtherLinesStand (l : InputLine) (s t : State) : Prop := ∀ m, m ≠ l → t.inputLine m = s.inputLine m

/-- The train, the gap result and its timer stand. -/
abbrev TrainStands (s t : State) : Prop := t.train = s.train ∧ t.gap = s.gap

/-- The release unit stands but for its alarm. -/
abbrev ReleaseStands (s t : State) : Prop := { t.release with alarm := s.release.alarm } = s.release

/-- The mode (its restart preparation apart), the platform frame and the bypass key level stand, and the event came to its
end. -/
abbrev FaceStands (s t : State) : Prop :=
  { t.mode with preparation := s.mode.preparation } = s.mode ∧ t.platformFrame = s.platformFrame
    ∧ t.proof.keyLevel = s.proof.keyLevel ∧ t.stalled = s.stalled

/-- A bay without its stuck timers, which the end of an event may start or drop for any bay (spec/03 R73). -/
def Bay.core (x : Bay) : Bay := { x with gapStuckTimer := none, curtainStuckTimer := none }

/-- A bay without its stuck timers and its presence state, which a change of the gap result has evaluated anew for every map
member (spec/03 R70, R78). -/
def Bay.body (x : Bay) : Bay := { x.core with presence := .clear }

/-- Every bay stands. -/
abbrev BaysStand (s t : State) : Prop := ∀ b, (t.bay b).core = (s.bay b).core

/-- Every bay but one stands, presence apart. -/
abbrev OthersStand (b : BayIx) (s t : State) : Prop := ∀ c, c ≠ b → (t.bay c).body = (s.bay c).body

/-- What an event of a bay leaves as it was beside the bay: everything but the gap result, the log and the queue. -/
abbrev BayEvent (b : BayIx) (s t : State) : Prop :=
  Stands s t ∧ StoreStands s t ∧ LinksStand s t ∧ OthersStand b s t ∧ t.train = s.train ∧ FaceStands s t
    ∧ t.supervision = s.supervision

/-- What a station request leaves as it was, its own effect apart: everything the other link, the supply, the store and the
lines hold. -/
abbrev StationEvent (s t : State) : Prop :=
  Stands s t ∧ StoreStands s t ∧ LinesStand s t ∧ t.signalling = s.signalling

/-- What a signalling request leaves as it was, its own effect apart. -/
abbrev SignallingEvent (s t : State) : Prop :=
  Stands s t ∧ StoreStands s t ∧ LinesStand s t ∧ t.station = s.station ∧ t.mode.preparation = s.mode.preparation

/-- What a configuration write or a COMMIT that touches no bay and no line leaves as it was, the store apart. -/
abbrev WriteStands (s t : State) : Prop :=
  Stands s t ∧ t.signalling = s.signalling ∧ BaysStand s t ∧ TrainStands s t ∧ ReleaseStands s t ∧ FaceStands s t
    ∧ t.supervision = s.supervision

/-- A station request of a kind has been answered: the link owes the reply, and the restart preparation is clear
(spec/08 R156). -/
abbrev StationAnswered (s t : State) (k : RequestKind) (r : Result) (content : List Byte) : Prop :=
  t.station = stationPort s k.code r content ∧ t.mode.preparation = false

/-- A signalling request of a kind has been answered (spec/04 R94). -/
abbrev SignallingAnswered (s t : State) (k : RequestKind) (r : Result) (content : List Byte) : Prop :=
  t.signalling = signallingPort s t k.code r content

/-- The codes that a bay raises (spec/07 R128). -/
def FaultCode.bayCodes : List FaultCode :=
  [.unlockTimeout, .openTimeout, .closeTimeout, .lockTimeout, .recloseExhausted, .proofConflict, .lockLost, .driveFault
   , .sensorStuck, .isolatedUnlocked, .leafForced]

/-- No bay code hands a platform effect on, as in the default table (spec/07 R129). -/
abbrev BayCodesHandNothing (s : State) : Prop := ∀ c ∈ FaultCode.bayCodes, (s.response c).platformEffect = .none

/-- A fault of a code leaves the bay FAULTED: its action is FAULT_BAY, it hands no platform effect on, and no retry is
granted (spec/07 R131, R132). -/
abbrev Faults (s : State) (b : BayIx) (c : FaultCode) : Prop :=
  (s.response c).action = .faultBay ∧ (s.response c).platformEffect = .none ∧ s.retryGranted b c = false

/-- A bay has been faulted by a code with a detail (spec/07 R134 to R136): it is FAULTED, at rest, and its frame is ACTIVE
with the code, the phase, movement and retry count that stood, and count 1. -/
abbrev FaultedAs (s t : State) (b : BayIx) (c : FaultCode) (detail : Nat) : Prop :=
  (t.bay b).phase = .faulted ∧ (t.bay b).movement = .none ∧ (t.bay b).retry = 0 ∧ (t.bay b).timer = none
    ∧ (t.bay b).cap = none
    ∧ (t.bay b).frame =
        { state := .active
          info := some { code := c, phase := some (s.bay b).phase, movement := some (s.bay b).movement, time := s.uptime
                         detail := BitVec.ofNat 16 detail, count := 1, retriesUsed := (s.bay b).retry, later := none } }

/-- A movement of a bay has been restarted in a phase with a fresh timer (spec/07 R133). -/
abbrev Retried (s t : State) (b : BayIx) (q : Phase) (limit : Nat) : Prop :=
  (t.bay b).phase = q ∧ (t.bay b).movement = (s.bay b).movement ∧ (t.bay b).retry = (s.bay b).retry + 1
    ∧ (t.bay b).reclose = 0 ∧ (t.bay b).timer = some { limit := limit, elapsed := 0 } ∧ (t.bay b).frame = (s.bay b).frame

/-- A bay has passed to CLOSING with a fresh close timer and no cap timer (spec/01 R11 to R13). -/
abbrev Closes (s t : State) (b : BayIx) : Prop :=
  (t.bay b).phase = .closing ∧ (t.bay b).movement = (s.bay b).movement ∧ (t.bay b).retry = (s.bay b).retry
    ∧ (t.bay b).reclose = (s.bay b).reclose ∧ (t.bay b).cap = none
    ∧ (t.bay b).timer = some { limit := (s.bayRecord b).closeLimit, elapsed := 0 }

/-- The map members out of control, RELEASED or FAULTED, with their reasons: what a re-open and a CLOSE_MAP report
(spec/02 R45, R47). -/
def outOfControl (s : State) : List (BayIx × Reason) :=
  s.train.map.filterMap (fun b =>
    if (s.bay b).phase = .released then some (b, .released)
    else if (s.bay b).phase = .faulted then some (b, .faulted)
    else none)

/-- The gap result is what its table gives (spec/03 R76). -/
abbrev GapFresh (s : State) : Prop := s.gapNow = s.gap.result

/-- A SLIDING bay whose inputs raise nothing at entry to a moving phase: no DRIVE_FAULT, no proof conflict
(spec/01 R16). -/
abbrev EntersFree (s : State) (b : BayIx) : Prop :=
  s.sliding b = true ∧ (s.bay b).lines.driveFault.level = false ∧ (s.bay b).lines.conflict = false

/-- What CLOSE takes to CLOSED_UNLOCKED (spec/01 R10): a bay in UNLOCKING, a bay in STOPPED with CLOSED active, and, with a
warning period of 0, a bay in OPEN or OPENING with CLOSED active, which passes through CLOSING. -/
abbrev ShutsByClose (s : State) (b : BayIx) : Prop :=
  (s.bay b).phase = .unlocking
    ∨ (s.bay b).lines.closed.level = true
      ∧ ((s.bay b).phase = .stopped
        ∨ s.platform.warningPeriod = 0 ∧ ((s.bay b).phase = .opened ∨ (s.bay b).phase = .opening))

/-- An input of a bay is about to change by its filter: the part takes events, and a candidate is held (spec/03 R57). -/
abbrev FilterRuns (s : State) (l : InputLine) : Prop :=
  s.active = true ∧ s.isInput l = true ∧ (s.inputLine l).candidate.isSome = true

/-- The lines of a bay once the filtered level of one input has changed (spec/03 R57). -/
def BayLines.changed (l : BayLines) (i : BayInput) : BayLines :=
  l.put { l.get i with level := !(l.get i).level, candidate := none } i

/-- The bays of a set that a BAY_COMMAND accepts (spec/01 R26). -/
def State.commandAccepts (s : State) (a : BayAction) (bays : Nat) (b : BayIx) : Bool :=
  inSet bays b && (s.commandRefusal a b).isNone

/-- The bays of a set that a BAY_COMMAND refuses, with their reasons (spec/01 R26). -/
def State.commandRefuses (s : State) (a : BayAction) (bays : Nat) : List (BayIx × Reason) :=
  (membersOf bays).filterMap (fun b => (s.commandRefusal a b).map (fun r => (b, r)))

/-- The result of a BAY_COMMAND (spec/01 R26): REFUSED when no bay is accepted, DONE when every bay is, else PARTIAL. -/
def State.commandResult (s : State) (a : BayAction) (bays : Nat) : Result :=
  if (membersOf bays).all (fun b => (s.commandRefusal a b).isSome) then .refused
  else if (s.commandRefuses a bays).isEmpty then .done
  else .partly

/-- What a BAY_COMMAND reply carries (spec/11, 11.4). -/
def State.commandReply (s : State) (a : BayAction) (bays : Nat) : List Byte :=
  setBytes (s.commandAccepts a bays) ++ reasonContent (s.commandRefuses a bays)

/-- A BAY_COMMAND that the station sends with an action is answered with the accepted set and the reasons (spec/01 R26), and
leaves as it was what is neither its link's nor its bays'. -/
abbrev CommandAnswered (s t : State) (a : BayAction) (bays : Nat) : Prop :=
  StationAnswered s t .bayCommand (s.commandResult a bays) (s.commandReply a bays) ∧ StationEvent s t
    ∧ t.train = s.train ∧ t.supervision = s.supervision ∧ FaceStands s t
    ∧ ∀ b, s.commandAccepts a bays b = false → (t.bay b).body = (s.bay b).body

/-! ### Restarts -/

/-- What a restart leaves at its beginning (spec/08 R146): every block at its restart value, with the medium, the raw
levels and the waiting commands as they stood. -/
structure Restarted (s t : State) (cause : RestartCause) : Prop where
  power : t.power = { supplyInRange := true, resetAsserted := false, supplyReturned := false, resetSeen := false }
  mode : t.mode = { mode := .starting, restartCause := cause, haltCause := .none, preparation := false
                    restartAccepted := false }
  uptime : t.uptime = 0
  train : t.train = Train.reset
  gap : t.gap = { result := .none, timer := none }
  proof : t.proof = Proof.reset
  release : t.release = Release.reset
  supervision : t.supervision = { state := .disarmed, timer := none, expiredAt := none }
  platformFrame : t.platformFrame = { state := .empty, info := none }
  station : t.station = Port.reset
  signalling : t.signalling = Port.reset
  events : t.events = EventUnit.reset
  pins : t.pins = Pins.off
  bays : ∀ b, (t.bay b).movement = .none ∧ (t.bay b).retry = 0 ∧ (t.bay b).reclose = 0 ∧ (t.bay b).hold = true
    ∧ (t.bay b).trace = false ∧ (t.bay b).presence = .clear ∧ (t.bay b).frame = { state := .empty, info := none }
    ∧ (t.bay b).timer = none ∧ (t.bay b).cap = none ∧ (t.bay b).gapStuckTimer = none ∧ (t.bay b).curtainStuckTimer = none
    ∧ (t.bay b).gapStuck = false ∧ (t.bay b).curtainStuck = false
  latches : ∀ n, (t.line n).changeLatch = false ∧ (t.line n).outputLatch = false
  stored : t.store.stored = s.store.stored
  area : t.store.area = s.store.area
  working : t.store.working = s.store.loaded
  state : t.store.state = if s.store.checkPasses then .valid else .invalid
  dirty : t.store.dirty = false
  frozen : t.store.frozen = false
  filters : ∀ l, t.inputLine l = { raw := (s.inputLine l).raw, level := false, candidate := none }
  pending : t.pending = s.pending
  runs : t.stalled = false

/-! ### The laws of the part -/

/-- The pins are those that the state gives (spec/01 R5, spec/03 R66, spec/10 R180). -/
abbrev PinsFollow (s : State) : Prop := s.pins = s.pinsNow

/-- The two drives of a bay are never energised together, and UNLOCK is energised with either (spec/01 R5). -/
abbrev DrivesApart (s : State) : Prop :=
  ∀ b : BayIx, ¬((s.pins.bays[b.val]).driveOpen = true ∧ (s.pins.bays[b.val]).driveClose = true)
    ∧ ((s.pins.bays[b.val]).driveOpen = true ∨ (s.pins.bays[b.val]).driveClose = true →
        (s.pins.bays[b.val]).unlock = true)

/-- No drive of a bay in RELEASED, ISOLATED or FAULTED is energised (spec/01 R5). -/
abbrev DrivesRest (s : State) : Prop :=
  ∀ b : BayIx, (s.bay b).phase = .released ∨ (s.bay b).phase = .isolated ∨ (s.bay b).phase = .faulted →
    (s.pins.bays[b.val]).driveOpen = false ∧ (s.pins.bays[b.val]).driveClose = false

/-- No drive is energised while the mode is HALTED (spec/01 R5); not of a stalled part (log 5). -/
abbrev DrivesHalted (s : State) : Prop :=
  s.stalled = false → s.mode.mode = .halted →
    ∀ b : BayIx, (s.pins.bays[b.val]).driveOpen = false ∧ (s.pins.bays[b.val]).driveClose = false

/-- The proof unit's fields are those that an evaluation gives (spec/04 R82, R83, R86), once STARTING is over. -/
abbrev ProofFollows (s : State) : Prop := s.mode.mode ≠ .starting → s.proof = s.proofNow

/-- The event queue holds at most 64 records and the release log at most 32 (spec/10 R177, spec/05 R98). -/
abbrev Bounded (s : State) : Prop := s.events.queue.length ≤ 64 ∧ s.release.log.length ≤ 32

/-- The law of the maintenance mode (spec/08 R150). -/
abbrev MaintenanceLaw (s : State) : Prop :=
  s.mode.mode = .maintenance → s.train.state = .empty ∧ s.supervision.state = .disarmed

/-- The opening map law (spec/02 R28), with the aligned set that it rests on. -/
structure MapLaw (s : State) : Prop where
  early : s.train.state = .empty ∨ s.train.state = .announced ∨ s.train.state = .berthed → s.train.map = []
  aligned : ∀ a ∈ s.train.aligned, s.sliding a.bay = true
  members : ∀ b ∈ s.train.map, (s.matched b).isSome = true ∧ (s.bay b).hold = false ∧ (s.bay b).phase ≠ .isolated
  distinct : (s.train.aligned.map AlignedBay.bay).Nodup ∧ s.train.map.Nodup

/-- The law of the fire latch (spec/05 R107), for the SLIDING bays and with REOPENING, from which CLOSING is reached; not of
a part that an endless event has stalled (log 5). -/
abbrev FireLaw (s : State) : Prop :=
  s.stalled = false → s.fire = true → ∀ b, s.sliding b = true →
    (s.bay b).phase ≠ .warning ∧ (s.bay b).phase ≠ .closing ∧ (s.bay b).phase ≠ .reopening

/-- In HALTED no SLIDING bay is in a moving phase (spec/08 R151, R152); not of a stalled part (log 5). -/
abbrev HaltedLaw (s : State) : Prop :=
  s.stalled = false → s.mode.mode = .halted → ∀ b, s.sliding b = true → (s.bay b).phase.isMoving = false

/-- A bay's phase is one that its kind has, once STARTING is over (spec/01 R3, R19): NOT_FITTED for an ABSENT position, and
CLOSED_LOCKED, RELEASED or FAULTED, with no movement, for an ESCAPE or END bay; stuck timers run on SLIDING bays in
CLOSED_LOCKED alone (spec/03 R73). -/
structure PhaseLaw (s : State) : Prop where
  mapLaw : MapLaw s
  absent : s.mode.mode ≠ .starting → ∀ b, s.kind b = .absent → (s.bay b).phase = .notFitted
  sliding : s.mode.mode ≠ .starting → ∀ b, s.kind b = .sliding → (s.bay b).phase ≠ .notFitted
  door : s.mode.mode ≠ .starting → ∀ b, s.kind b = .escape ∨ s.kind b = .endDoor →
    ((s.bay b).phase = .closedLocked ∨ (s.bay b).phase = .released ∨ (s.bay b).phase = .faulted)
      ∧ (s.bay b).movement = .none
  stuck : s.mode.mode ≠ .starting → ∀ b, (s.bay b).gapStuckTimer.isSome = true ∨ (s.bay b).curtainStuckTimer.isSome = true →
    s.kind b = .sliding ∧ (s.bay b).phase = .closedLocked

/-- RESET_N has been seen while it is asserted (spec/08 R146). -/
abbrev SupplyLaw (s : State) : Prop := s.power.resetAsserted = true → s.power.resetSeen = true

/-- While a commit is under way the completion mark is absent (spec/09 R164, R165). -/
abbrev CommitMarkLaw (s : State) : Prop := s.store.busy = true → s.store.stored.completion = false

/-- The law of the store over one step (spec/09 R165): the working copy does not change while the store is COMMITTING or
SUSPENDED, and where a step begins or resumes a commit, or goes on with it past a record, the train is EMPTY and the fire latch
clear. A suspending cause that comes later lets the record in progress complete, and no step goes on past it. -/
structure StoreLaw (s t : State) : Prop where
  working : s.store.busy = true → t.store.busy = true → t.store.working = s.store.working
  committing : t.store.state = .committing → s.store.state ≠ .committing ∨ t.store.written ≠ s.store.written →
    t.train.state = .empty ∧ t.fire = false

/-- The law of the fault frames (spec/07 R136): a bay is FAULTED exactly when its frame is ACTIVE, and every frame that is not
EMPTY, the platform frame among them, holds an occurrence count of at least 1. During STARTING every bay frame is EMPTY
(spec/07 R127), which the end of STARTING rests on. -/
structure FrameLaw (s : State) : Prop where
  faulted : ∀ b, (s.bay b).phase = .faulted ↔ (s.bay b).frame.state = .active
  counted : ∀ b, (s.bay b).frame.state ≠ .empty → ∃ i ∈ (s.bay b).frame.info, 1 ≤ i.count
  platform : s.platformFrame.state ≠ .empty → ∃ i ∈ s.platformFrame.info, 1 ≤ i.count
  starting : s.mode.mode = .starting → ∀ b, (s.bay b).frame.state = .empty

/-- The gap result is what its table gives for the state that stands (spec/03 R76), with what that rests on: the map law, and
NONE without a map. -/
structure GapLaw (s : State) : Prop where
  mapLaw : MapLaw s
  early : s.train.state = .empty ∨ s.train.state = .announced ∨ s.train.state = .berthed → s.gap.result = .none
  starting : s.mode.mode = .starting → s.train.state = .empty
  fresh : s.stalled = false → s.gapNow = s.gap.result

end Sys2Proof.Machine
end

