-- ==== Sys2Proof/WellFormed.lean ====
section
/-! DEFINITION. Which commands the links can carry: a body has at most 240 bytes (spec/10 R170), a BAY_COMMAND row's
action byte is the row's own action (spec/11 R181, 11.4), and an UNKNOWN_KIND is assigned to neither link (spec/10 R171). -/

namespace Sys2Proof

/-- The kinds the catalogue of spec/10, 10.3 assigns to one of the links. -/
def kindAssigned (k : Byte) : Bool :=
  let n := k.toNat
  (1 ≤ n && n ≤ 0x0B) || (0x10 ≤ n && n ≤ 0x14) || (0x18 ≤ n && n ≤ 0x1C) || (0x20 ≤ n && n ≤ 0x28)
    || (0x40 ≤ n && n ≤ 0x47)

/-- A frame body is 0 to 240 bytes (spec/10 R170). -/
def bodyOk (body : List Byte) : Bool := body.length ≤ 240

/-- A BAY_COMMAND body of the kind's own length carries the row's action code at offset 3 (spec/11, 11.4). A body of
another length is MALFORMED and has no action. -/
def actionOk (code : Nat) (body : List Byte) : Bool :=
  bodyOk body && (body.length != 4 || body[3]? == some (BitVec.ofNat 8 code))

/-- A command the outside world can give. -/
def Instr.wf : Instr → Bool
  | .powerOn | .supplyOutOfRange | .resetNAsserted | .resetNReleased | .loadingEnds => true
  | .rawLevelChange _ _ | .filterHoldExpires _ => true
  | .unlockLimitExpires _ | .openLimitExpires _ | .closeLimitExpires _ | .lockLimitExpires _ => true
  | .warningPeriodExpires _ | .curtainHoldLimitExpires _ | .reopenPauseExpires _ | .stuckTimerExpires _ _ => true
  | .gapScanTimerExpires | .supervisionTimerExpires | .dwellDue | .dwellOverstay | .recordWriteCompletes _ => true
  | .interByteGap _ | .frameCrcMismatch _ | .byteWhileReplyOwed _ | .replySent _ | .byteReceived _ _ => true
  | .unknownKind _ k body => bodyOk body && !kindAssigned k
  | .bayCommandOpen _ body => actionOk 0 body
  | .bayCommandClose _ body => actionOk 1 body
  | .bayCommandStop _ body => actionOk 2 body
  | .bayCommandHold _ body => actionOk 3 body
  | .bayCommandFree _ body => actionOk 4 body
  | .bayCommandIsolate _ body => actionOk 5 body
  | .bayCommandRestore _ body => actionOk 6 body
  | .bayCommandClearFault _ body => actionOk 7 body
  | .poll _ body | .announce _ body | .cancel _ body | .berth _ body | .openMap _ body | .closeMap _ body
  | .depart _ body | .resume _ body | .readStatus _ body | .readBays _ body | .readTrain _ body | .readMap _ body
  | .readFault _ body | .readReleases _ body | .readLines _ body | .readConfig _ body | .takeEvents _ body
  | .setAttention _ body | .setTrace _ body | .ackRelease _ body | .emergencyOpen _ body | .extendDwell _ body
  | .setOutput _ body | .enterMaintenance _ body | .leaveMaintenance _ body | .halt _ body | .prepareRestart _ body
  | .restart _ body | .writeBay _ body | .writeProfile _ body | .eraseProfile _ body | .writeResponse _ body
  | .writeLine _ body | .writePlatform _ body | .commit _ body | .freezeConfig _ body | .fixGeometry _ body => bodyOk body

end Sys2Proof
end

