-- ==== Sys2Proof/Certificates/Slice0/Obligations.lean ====
section
/-! DEFINITION. The statements for the provers (OBLIGATIONS.json): what the commands of the UP24 do, and the laws every step
keeps. -/

open Sys2Proof Sys2Proof.Machine

/-! ### The queue, the idle step, restarts -/

/-- A step takes the command at the front of the queue and carries it out on the state with the rest of the queue; every command
is answered with a next state, from every state: none ends in a fault or a refusal. -/
def Obligations.StepRunsTheFrontCommand : Prop :=
  (∀ (c : Instr) (rest : List Instr) (s : State), step { s with pending := c :: rest } = exec c { s with pending := rest })
  ∧ ((∀ (c : Instr) (s : State), ∃ t, exec c s = .next t) ∧ ∀ s : State, ∃ t, step s = .next t)

/-- With no command waiting (log 1 and log 3, the model's choices): a timer that has run out expires, in the present state; with
none, one millisecond passes, in which uptime, the timers and the dwell clock count, and the queue, the pins, phases, frames,
records and levels stand; a part that does not run keeps no time. -/
def Obligations.IdleStepLetsTimePass : Prop :=
  ∀ s : State, s.pending = [] →
    (s.runs = false → step s = .next s)
    ∧ (∀ c, s.runs = true → s.expiries.head? = some c → step s = exec c s)
    ∧ (s.runs = true → s.expiries = [] → ∃ t, step s = .next t ∧ t.uptime = s.uptime + 1 ∧ t.pending = []
        ∧ t.pins = s.pins ∧ t.mode = s.mode ∧ t.power = s.power ∧ t.store = s.store ∧ t.events = s.events
        ∧ t.release = s.release ∧ t.proof = s.proof ∧ t.platformFrame = s.platformFrame
        ∧ t.gap.result = s.gap.result ∧ t.supervision.state = s.supervision.state
        ∧ t.train.dwellElapsed =
            (if s.train.dwellRuns then min 4294967 (s.train.dwellElapsed + 1) else s.train.dwellElapsed)
        ∧ { t.train with dwellElapsed := s.train.dwellElapsed } = s.train
        ∧ (∀ l, (t.inputLine l).level = (s.inputLine l).level ∧ (t.inputLine l).raw = (s.inputLine l).raw)
        ∧ ∀ b, (t.bay b).phase = (s.bay b).phase ∧ (t.bay b).movement = (s.bay b).movement
            ∧ (t.bay b).frame = (s.bay b).frame ∧ (t.bay b).hold = (s.bay b).hold
            ∧ (t.bay b).presence = (s.bay b).presence
            ∧ (t.bay b).timer = (if (s.bay b).phase = .warning ∧ (s.bay b).presence = .blocking then (s.bay b).timer
                else (s.bay b).timer.map (fun x => { x with elapsed := x.elapsed + 1 })))

/-- The state after reset: the restart values of every block, STARTING with cause POWER_ON, a new module's store, the pins
off. -/
def Obligations.ResetValues : Prop :=
  State.reset.mode.mode = .starting ∧ State.reset.mode.restartCause = .powerOn ∧ State.reset.mode.haltCause = .none
  ∧ State.reset.mode.preparation = false ∧ State.reset.uptime = 0
  ∧ State.reset.train = { state := .empty, units := [], target := none, measured := none, stopError := none
                          alignment := .none, checked := false, aligned := [], map := [], dwellLimit := 0
                          dwellElapsed := 0, due := false, overstay := false }
  ∧ State.reset.gap.result = .none ∧ State.reset.proof.value = .notSecure ∧ State.reset.proof.withheld.mode = true
  ∧ State.reset.release.latch = none ∧ State.reset.release.log = [] ∧ State.reset.release.nextNumber = 1
  ∧ State.reset.supervision.state = .disarmed ∧ State.reset.platformFrame.state = .empty
  ∧ State.reset.store.state = .valid ∧ State.reset.store.dirty = false ∧ State.reset.store.frozen = false
  ∧ State.reset.store.working = Records.defaults ∧ State.reset.store.area.mark = false
  ∧ State.reset.store.total = 93
  ∧ State.reset.station.reply = none ∧ State.reset.station.overrun = false
  ∧ State.reset.signalling.reply = none ∧ State.reset.signalling.overrun = false
  ∧ State.reset.events.queue = [] ∧ State.reset.events.lost = false ∧ State.reset.events.mask = 0xF7#8
  ∧ State.reset.events.authority = false
  ∧ State.reset.pins.attn = false ∧ (∀ n : LineIx, State.reset.pins.lines[n.val] = none)
  ∧ ∀ b : BayIx, State.reset.pins.bays[b.val] = { unlock := false, driveOpen := false, driveClose := false, warning := false }
      ∧ (State.reset.bay b).movement = .none ∧ (State.reset.bay b).retry = 0 ∧ (State.reset.bay b).reclose = 0
      ∧ (State.reset.bay b).hold = true ∧ (State.reset.bay b).trace = false ∧ (State.reset.bay b).presence = .clear
      ∧ (State.reset.bay b).frame.state = .empty

/-- POWER_ON, SUPPLY_OUT_OF_RANGE, RESET_N_ASSERTED and RESET_N_RELEASED: the part stops with every output off, and restarts
with its cause once the supply is in range and RESET_N is not asserted. That every field but the power and the pins stands
while the part is stopped is log 24, and that the working copy is in place at the beginning of STARTING is log 15, both the
model's inference. -/
def Obligations.SupplyAndResetStopAndRestart : Prop :=
  ∀ s : State,
    (s.power.supplyInRange = true →
      exec .supplyOutOfRange s = .next { s with power := { s.power with supplyInRange := false }, pins := Pins.off })
    ∧ (s.power.resetAsserted = false →
      exec .resetNAsserted s =
        .next { s with power := { s.power with resetAsserted := true, resetSeen := true }, pins := Pins.off })
    ∧ (s.power.supplyInRange = false → s.power.resetAsserted = false →
      ∃ t, exec .powerOn s = .next t ∧ Restarted s t .powerOn)
    ∧ (s.power.supplyInRange = false → s.power.resetAsserted = true →
      exec .powerOn s = .next { s with power := { s.power with supplyInRange := true, supplyReturned := true } })
    ∧ (s.power.resetAsserted = true → s.power.supplyInRange = true → s.power.resetSeen = true →
      ∃ t, exec .resetNReleased s = .next t
        ∧ Restarted s t (if s.power.supplyReturned then .powerOn else .resetLine))
    ∧ (s.power.resetAsserted = true → s.power.supplyInRange = false →
      exec .resetNReleased s = .next { s with power := { s.power with resetAsserted := false } })

/-- LOADING_ENDS: every filter takes the level of its line, every fitted bay its derived phase, the bypass key its standing
level; the mode becomes SERVICE, or HALTED for an invalid store; an active FIRE_INPUT sets the latch. -/
def Obligations.LoadingEndsStarting : Prop :=
  ∀ s : State, s.runs = true → s.mode.mode = .starting →
    ∃ t, exec .loadingEnds s = .next t
      ∧ (∀ l, (t.inputLine l).level = s.logicalLevel l ∧ (t.inputLine l).raw = (s.inputLine l).raw)
      ∧ t.proof.keyLevel = t.functionLevel .bypassKey
      ∧ (t.mode.mode = .service ∨ t.mode.mode = .halted)
      ∧ (t.functionLevel .fireInput = true → s.release.latch = none → t.release.latch = some .fireInput)
      ∧ (t.functionLevel .fireInput = false →
          t.release.latch = s.release.latch
          ∧ (∀ b, (t.bay b).phase = derivedPhase (s.kind b) (t.bay b).lines
              ∧ ((t.bay b).phase = .closedUnlocked →
                  (t.bay b).timer = some { limit := (s.bayRecord b).lockLimit, elapsed := 0 })
              ∧ ((t.bay b).phase = .faulted → (t.bay b).frame.state = .active)
              ∧ (s.release.log = [] → (t.bay b).phase = .released → t.hasOpenRecord b = true))
          ∧ (s.store.state = .invalid → t.mode.mode = .halted ∧ t.mode.haltCause = .fault .storeInvalid
              ∧ (s.platformFrame.state ≠ .active → t.platformFrame = s.newPlatformFrame .storeInvalid 0))
          ∧ (s.store.state ≠ .invalid → (s.response .proofConflict).platformEffect ≠ .halt →
              t.mode.mode = .service ∧ t.mode.haltCause = .none)
          ∧ TrainStands s t)
      ∧ Stands s t ∧ StoreStands s t ∧ LinksStand s t ∧ t.supervision = s.supervision

/-! ### Lines and filters -/

/-- RAW_LEVEL_CHANGE: a level that stands changes nothing; a line that is not read only takes the raw level; the filter of an
input drops its candidate, starts one for the hold time of its class, or with hold time 0 changes at once. FILTER_HOLD_EXPIRES:
the candidate becomes the filtered level; without one nothing happens (log 2, the model's choice). -/
def Obligations.FiltersTakeTheLevelsOfLines : Prop :=
  ((FilterClass.none.holdTime = 0 ∧ FilterClass.short.holdTime = 4 ∧ FilterClass.medium.holdTime = 32
      ∧ FilterClass.long.holdTime = 256)
    ∧ ∀ (l : InputLine) (high : Bool) (s : State),
      ((s.inputLine l).raw = high → exec (.rawLevelChange l high) s = .next s)
      ∧ ((s.inputLine l).raw ≠ high →
        (s.active = false ∨ s.isInput l = false →
          exec (.rawLevelChange l high) s = .next (s.setInputLine l { s.inputLine l with raw := high }))
        ∧ (s.active = true → s.isInput l = true →
          ((s.setInputLine l { s.inputLine l with raw := high }).logicalLevel l = (s.inputLine l).level →
            exec (.rawLevelChange l high) s =
              .next (s.setInputLine l { raw := high, level := (s.inputLine l).level, candidate := none }))
          ∧ ((s.setInputLine l { s.inputLine l with raw := high }).logicalLevel l ≠ (s.inputLine l).level →
            ((s.filterClass l).holdTime ≠ 0 →
              exec (.rawLevelChange l high) s =
                .next (s.setInputLine l { raw := high, level := (s.inputLine l).level
                                          candidate := some { limit := (s.filterClass l).holdTime, elapsed := 0 } }))
            ∧ ((s.filterClass l).holdTime = 0 →
              ∃ t, exec (.rawLevelChange l high) s = .next t
                ∧ t.inputLine l = { raw := high, level := !(s.inputLine l).level, candidate := none }
                ∧ OtherLinesStand l s t ∧ Stands s t ∧ LinksStand s t ∧ StoreStands s t
                ∧ t.supervision = s.supervision)))))
  ∧ (∀ (l : InputLine) (s : State),
      (FilterRuns s l →
        ∃ t, exec (.filterHoldExpires l) s = .next t
          ∧ t.inputLine l = { raw := (s.inputLine l).raw, level := !(s.inputLine l).level, candidate := none }
          ∧ OtherLinesStand l s t ∧ Stands s t ∧ LinksStand s t ∧ StoreStands s t ∧ t.supervision = s.supervision)
      ∧ (¬FilterRuns s l → exec (.filterHoldExpires l) s = .next s))

/-- The proofs of a SLIDING bay end its phases: LOCKED inactive ends UNLOCKING, FULLY_OPEN ends OPENING and begins the pause of
REOPENING, CLOSED ends CLOSING, LOCKED active ends CLOSED_UNLOCKED. -/
def Obligations.ProofArrivalsMoveTheBay : Prop :=
  ∀ (s : State) (b : BayIx), s.sliding b = true → GapFresh s → (s.bay b).lines.driveFault.level = false →
    (FilterRuns s (.bay b .locked) → (s.bay b).phase = .unlocking → (s.bay b).lines.locked.level = true →
      (s.bay b).lines.fullyOpen.level = false →
      ∃ t, exec (.filterHoldExpires (.bay b .locked)) s = .next t ∧ (t.bay b).phase = .opening
        ∧ (t.bay b).movement = (s.bay b).movement
        ∧ (t.bay b).timer = some { limit := (s.bayRecord b).openLimit, elapsed := 0 } ∧ BayEvent b s t)
    ∧ (FilterRuns s (.bay b .fullyOpen) → (s.bay b).phase = .opening → (s.bay b).lines.fullyOpen.level = false →
      (s.bay b).lines.closed.level = false → (s.bay b).lines.locked.level = false →
      ∃ t, exec (.filterHoldExpires (.bay b .fullyOpen)) s = .next t ∧ (t.bay b).phase = .opened
        ∧ (t.bay b).movement = .none ∧ (t.bay b).retry = 0 ∧ (t.bay b).timer = none ∧ BayEvent b s t)
    ∧ (FilterRuns s (.bay b .fullyOpen) → (s.bay b).phase = .reopening → (s.bay b).pausing = false →
      (s.bay b).lines.fullyOpen.level = false → (s.bay b).lines.closed.level = false →
      (s.bay b).lines.locked.level = false →
      ∃ t, exec (.filterHoldExpires (.bay b .fullyOpen)) s = .next t ∧ (t.bay b).phase = .reopening
        ∧ (t.bay b).pausing = true ∧ (t.bay b).movement = (s.bay b).movement
        ∧ (t.bay b).timer = some { limit := s.platform.reopenPause, elapsed := 0 } ∧ BayEvent b s t)
    ∧ (FilterRuns s (.bay b .closed) → (s.bay b).phase = .closing → (s.bay b).lines.closed.level = false →
      (s.bay b).lines.fullyOpen.level = false → (s.bay b).lines.locked.level = false →
      ∃ t, exec (.filterHoldExpires (.bay b .closed)) s = .next t ∧ (t.bay b).phase = .closedUnlocked
        ∧ (t.bay b).movement = (s.bay b).movement
        ∧ (t.bay b).timer = some { limit := (s.bayRecord b).lockLimit, elapsed := 0 } ∧ BayEvent b s t)
    ∧ (FilterRuns s (.bay b .locked) → (s.bay b).phase = .closedUnlocked → (s.bay b).lines.locked.level = false →
      (s.bay b).lines.closed.level = true → (s.bay b).lines.fullyOpen.level = false →
      ∃ t, exec (.filterHoldExpires (.bay b .locked)) s = .next t ∧ (t.bay b).phase = .closedLocked
        ∧ (t.bay b).movement = .none ∧ (t.bay b).retry = 0 ∧ (t.bay b).reclose = 0 ∧ (t.bay b).timer = none
        ∧ BayEvent b s t)

/-- An obstruction in CLOSING (OBSTRUCTED, or a curtain that makes presence BLOCKING in a CLOSING that is not forced) reopens
the bay and raises the reclose count, or at the setting raises RECLOSE_EXHAUSTED. -/
def Obligations.ObstructionReopensOrExhausts : Prop :=
  ∀ (s : State) (b : BayIx), s.sliding b = true → GapFresh s → (s.bay b).phase = .closing →
    (s.bay b).lines.closed.level = false → (s.bay b).lines.locked.level = false →
    (s.bay b).lines.fullyOpen.level = false → (s.bay b).lines.driveFault.level = false →
    (FilterRuns s (.bay b .obstructed) → (s.bay b).lines.obstructed.level = false →
      (s.bay b).reclose < s.platform.recloseAttempts →
      ∃ t, exec (.filterHoldExpires (.bay b .obstructed)) s = .next t ∧ (t.bay b).phase = .reopening
        ∧ (t.bay b).pausing = false ∧ (t.bay b).reclose = (s.bay b).reclose + 1
        ∧ (t.bay b).movement = (s.bay b).movement
        ∧ (t.bay b).timer = some { limit := (s.bayRecord b).openLimit, elapsed := 0 } ∧ BayEvent b s t)
    ∧ (FilterRuns s (.bay b .curtain) → (s.bay b).lines.curtain.level = false → (s.bay b).lines.gap.level = false →
      (s.bay b).gapStuck = false → (s.bay b).curtainStuck = false → (s.bay b).presence ≠ .blocking →
      (s.bay b).forced = false → (s.bay b).reclose < s.platform.recloseAttempts →
      ∃ t, exec (.filterHoldExpires (.bay b .curtain)) s = .next t ∧ (t.bay b).phase = .reopening
        ∧ (t.bay b).reclose = (s.bay b).reclose + 1 ∧ (t.bay b).movement = (s.bay b).movement
        ∧ (t.bay b).timer = some { limit := (s.bayRecord b).openLimit, elapsed := 0 } ∧ BayEvent b s t)
    ∧ (FilterRuns s (.bay b .obstructed) → (s.bay b).lines.obstructed.level = false →
      s.platform.recloseAttempts ≤ (s.bay b).reclose → Faults s b .recloseExhausted →
      ∃ t, exec (.filterHoldExpires (.bay b .obstructed)) s = .next t
        ∧ FaultedAs s t b .recloseExhausted (s.bay b).reclose ∧ BayEvent b s t)

/-- A locked bay that loses LOCKED raises LOCK_LOST, and one that loses CLOSED raises LEAF_FORCED, with PROOF_CONFLICT counted
after it while LOCKED stands. -/
def Obligations.LostProofsFaultALockedBay : Prop :=
  ∀ (s : State) (b : BayIx), s.sliding b = true → GapFresh s → (s.bay b).phase = .closedLocked →
    (s.bay b).lines.closed.level = true →
    (FilterRuns s (.bay b .locked) → (s.bay b).lines.locked.level = true → Faults s b .lockLost →
      ∃ t, exec (.filterHoldExpires (.bay b .locked)) s = .next t ∧ FaultedAs s t b .lockLost 0 ∧ BayEvent b s t)
    ∧ (FilterRuns s (.bay b .closed) → Faults s b .leafForced → BayCodesHandNothing s →
      ∃ t i, exec (.filterHoldExpires (.bay b .closed)) s = .next t ∧ (t.bay b).phase = .faulted
        ∧ (t.bay b).frame = { state := .active, info := some i } ∧ i.code = .leafForced
        ∧ i.phase = some .closedLocked ∧ i.detail = 0#16
        ∧ i.count = (if (s.bay b).lines.locked.level then 2 else 1) ∧ BayEvent b s t)

/-- The release key of a SLIDING bay: going active it sends the bay to RELEASED with an open KEY record, and clears the frame
of a FAULTED bay; going inactive it restores the record, and the bay takes its derived phase. -/
def Obligations.ReleaseKeyReleasesAndRestores : Prop :=
  ∀ (s : State) (b : BayIx), s.sliding b = true → GapFresh s → FilterRuns s (.bay b .releaseKey) →
    ((s.bay b).lines.releaseKey.level = false → (s.bay b).phase ≠ .isolated → (s.bay b).phase ≠ .released →
      (s.bay b).phase ≠ .notFitted →
      ∃ t, exec (.filterHoldExpires (.bay b .releaseKey)) s = .next t ∧ (t.bay b).phase = .released
        ∧ (t.bay b).movement = .none ∧ (t.bay b).retry = 0 ∧ (t.bay b).reclose = 0 ∧ (t.bay b).timer = none
        ∧ t.hasOpenKind b .key = true ∧ t.release.latch = s.release.latch
        ∧ (t.bay b).frame = (if (s.bay b).phase = .faulted then { (s.bay b).frame with state := .cleared }
            else (s.bay b).frame)
        ∧ BayEvent b s t)
    ∧ ((s.bay b).lines.releaseKey.level = true → (s.bay b).phase = .released → s.hasOpenKind b .key = true →
      s.fire = false → BayCodesHandNothing s →
      ∃ t, exec (.filterHoldExpires (.bay b .releaseKey)) s = .next t
        ∧ (t.bay b).phase = derivedPhase .sliding ((s.bay b).lines.changed .releaseKey)
        ∧ (t.bay b).movement = .none ∧ (t.bay b).retry = 0 ∧ (t.bay b).reclose = 0
        ∧ t.release.log = (restoreIn s.uptime (fun r => r.bay == some b) s.release.log).1 ∧ t.release.latch = none
        ∧ BayEvent b s t)

/-- An ESCAPE or END bay follows its inputs: out of CLOSED_LOCKED to RELEASED with its record, or FAULTED on a conflict; and
back to CLOSED_LOCKED with its record restored. -/
def Obligations.DoorsFollowTheirInputs : Prop :=
  ∀ (s : State) (b : BayIx) (i : BayInput), s.kind b = .escape ∨ s.kind b = .endDoor → GapFresh s →
    i = .closed ∨ i = .locked ∨ i = .releaseKey → FilterRuns s (.bay b i) →
    ((s.bay b).phase = .closedLocked → ((s.bay b).lines.changed i).doorShut = false →
      ((s.bay b).lines.changed i).doorConflict = false →
      ∃ t, exec (.filterHoldExpires (.bay b i)) s = .next t ∧ (t.bay b).phase = .released ∧ (t.bay b).movement = .none
        ∧ t.hasOpenKind b (if s.kind b = .escape then .pushBar else .staffDoor) = true
        ∧ t.release.latch = s.release.latch ∧ BayEvent b s t)
    ∧ ((s.bay b).phase = .closedLocked → ((s.bay b).lines.changed i).doorConflict = true → Faults s b .proofConflict →
      ∃ t, exec (.filterHoldExpires (.bay b i)) s = .next t ∧ FaultedAs s t b .proofConflict 2
        ∧ ReleaseStands s t ∧ BayEvent b s t)
    ∧ ((s.bay b).phase = .released → ((s.bay b).lines.changed i).doorShut = true →
      ∃ t, exec (.filterHoldExpires (.bay b i)) s = .next t ∧ (t.bay b).phase = .closedLocked
        ∧ t.release.log = (restoreIn s.uptime (fun r => r.bay == some b) s.release.log).1
        ∧ t.release.latch = s.release.latch ∧ BayEvent b s t)

/-- The functions of general lines: FIRE_INPUT and PANEL_OPEN set the fire latch, KEY_RESET clears it unless one of them is
active, BYPASS_KEY sets the key level, FIELD_SUPPLY_OK lost raises its platform fault, a GENERAL_INPUT edge that is enabled
sets the change latch, and MAINTENANCE_KEY inactive ends MAINTENANCE. -/
def Obligations.GeneralLinesReachTheirOwners : Prop :=
  ∀ (s : State) (n : LineIx), FilterRuns s (.general n) →
    ((s.lineRecord n).function = .fireInput → (s.line n).line.level = false → s.release.latch = none →
      ∃ t, exec (.filterHoldExpires (.general n)) s = .next t ∧ t.release.latch = some .fireInput ∧ FireLaw t)
    ∧ ((s.lineRecord n).function = .panelOpen → (s.line n).line.level = false → s.release.latch = none →
      ∃ t, exec (.filterHoldExpires (.general n)) s = .next t ∧ t.release.latch = some .panelOpen ∧ FireLaw t)
    ∧ ((s.lineRecord n).function = .keyReset → (s.line n).line.level = false → s.fire = true →
      s.functionLevel .fireInput = true ∨ s.functionLevel .panelOpen = true →
      ∃ t, exec (.filterHoldExpires (.general n)) s = .next t ∧ ReleaseStands s t ∧ BaysStand s t ∧ TrainStands s t
        ∧ FaceStands s t)
    ∧ ((s.lineRecord n).function = .keyReset → (s.line n).line.level = false → s.fire = true →
      s.functionLevel .fireInput = false → s.functionLevel .panelOpen = false →
      ∃ t, exec (.filterHoldExpires (.general n)) s = .next t ∧ t.release.latch = none)
    ∧ ((s.lineRecord n).function = .bypassKey →
      ∃ t, exec (.filterHoldExpires (.general n)) s = .next t ∧ t.proof.keyLevel = !(s.line n).line.level
        ∧ BaysStand s t ∧ TrainStands s t ∧ ReleaseStands s t ∧ t.mode = s.mode)
    ∧ ((s.lineRecord n).function = .fieldSupplyOk → (s.line n).line.level = true → s.platformFrame.state ≠ .active →
      ∃ t, exec (.filterHoldExpires (.general n)) s = .next t
        ∧ t.platformFrame = s.newPlatformFrame .fieldSupplyLost (n.val + 1))
    ∧ ((s.lineRecord n).function = .generalInput →
      (if (s.line n).line.level then (s.lineRecord n).falling else (s.lineRecord n).rising) = true →
      ∃ t, exec (.filterHoldExpires (.general n)) s = .next t ∧ (t.line n).changeLatch = true ∧ BaysStand s t
        ∧ TrainStands s t ∧ ReleaseStands s t ∧ FaceStands s t)
    ∧ ((s.lineRecord n).function = .maintenanceKey → (s.line n).line.level = true → s.mode.mode = .maintenance →
      BayCodesHandNothing s →
      ∃ t, exec (.filterHoldExpires (.general n)) s = .next t ∧ t.mode = { s.mode with mode := .service })

/-- A change of a placed berthing sensor makes a BERTHED train's alignment STALE, and raises TRAIN_MOVED while the train is
ENABLED or CLOSING; while it is DEPARTING the last sensor that clears returns the record to EMPTY (spec/02 R41, R50, R49). -/
def Obligations.BerthSensorsWatchTheTrain : Prop :=
  ∀ (s : State) (n : LineIx) (p : Mm), FilterRuns s (.general n) → (s.lineRecord n).function = .berthSensor →
    s.platform.position (s.lineRecord n).index = some p →
    (s.train.state = .berthed →
      ∃ t, exec (.filterHoldExpires (.general n)) s = .next t ∧ t.train = { s.train with alignment := .stale }
        ∧ t.gap = s.gap ∧ BaysStand s t ∧ ReleaseStands s t ∧ FaceStands s t)
    ∧ (s.train.state = .enabled ∨ s.train.state = .closing → s.platformFrame.state ≠ .active →
      ∃ t, exec (.filterHoldExpires (.general n)) s = .next t
        ∧ t.platformFrame = s.newPlatformFrame .trainMoved (s.lineRecord n).index)
    ∧ (s.train.state = .departing → (s.line n).line.level = true →
      (∀ q ∈ s.placed, q.line ≠ n → (s.line q.line).line.level = false) →
      ∃ t, exec (.filterHoldExpires (.general n)) s = .next t ∧ t.train = Train.reset
        ∧ t.gap = { result := .none, timer := none })

/-! ### Timers of the bays and of the face -/

/-- A phase limit that expires with no retry granted and the action FAULT_BAY faults the bay, with the limit that ran as its
detail. That a proof conflict which stands at that entry to FAULTED is not counted in the frame is log 7, the model's
inference. -/
def Obligations.PhaseLimitFaultsTheBay : Prop :=
  ∀ (s : State) (b : BayIx) (x : Timer), s.active = true → GapFresh s → (s.bay b).timer = some x →
    ((s.bay b).phase = .unlocking → Faults s b .unlockTimeout →
      ∃ t, exec (.unlockLimitExpires b) s = .next t ∧ FaultedAs s t b .unlockTimeout x.limit ∧ LinesStand s t
        ∧ ReleaseStands s t ∧ BayEvent b s t)
    ∧ ((s.bay b).phase = .opening ∨ (s.bay b).phase = .reopening ∧ (s.bay b).pausing = false → Faults s b .openTimeout →
      ∃ t, exec (.openLimitExpires b) s = .next t ∧ FaultedAs s t b .openTimeout x.limit ∧ LinesStand s t
        ∧ ReleaseStands s t ∧ BayEvent b s t)
    ∧ ((s.bay b).phase = .closing → Faults s b .closeTimeout →
      ∃ t, exec (.closeLimitExpires b) s = .next t ∧ FaultedAs s t b .closeTimeout x.limit ∧ LinesStand s t
        ∧ ReleaseStands s t ∧ BayEvent b s t)
    ∧ ((s.bay b).phase = .closedUnlocked → Faults s b .lockTimeout →
      ∃ t, exec (.lockLimitExpires b) s = .next t ∧ FaultedAs s t b .lockTimeout x.limit ∧ LinesStand s t
        ∧ ReleaseStands s t ∧ BayEvent b s t)

/-- A phase limit that expires with a retry granted restarts the movement from its beginning: the retry count rises by one,
the reclose count becomes 0, movement and frame stand, and the restart phase is entered with a fresh timer. -/
def Obligations.PhaseLimitRetriesTheMovement : Prop :=
  ∀ (s : State) (b : BayIx) (x : Timer), s.active = true → GapFresh s → (s.bay b).timer = some x → EntersFree s b →
    (s.bay b).lines.fullyOpen.level = false →
    ((s.bay b).phase = .unlocking → (s.bay b).movement = .opens → s.retryGranted b .unlockTimeout = true →
      (s.response .unlockTimeout).platformEffect = .none → (s.bay b).lines.closed.level = true →
      (s.bay b).lines.locked.level = true →
      ∃ t, exec (.unlockLimitExpires b) s = .next t ∧ Retried s t b .unlocking (s.bayRecord b).unlockLimit
        ∧ LinesStand s t ∧ ReleaseStands s t ∧ BayEvent b s t)
    ∧ ((s.bay b).phase = .opening → (s.bay b).movement = .opens → s.retryGranted b .openTimeout = true →
      (s.response .openTimeout).platformEffect = .none → (s.bay b).lines.closed.level = false →
      ∃ t, exec (.openLimitExpires b) s = .next t ∧ Retried s t b .opening (s.bayRecord b).openLimit
        ∧ LinesStand s t ∧ ReleaseStands s t ∧ BayEvent b s t)
    ∧ ((s.bay b).phase = .closing → (s.bay b).movement = .closes → s.retryGranted b .closeTimeout = true →
      (s.response .closeTimeout).platformEffect = .none → (s.bay b).lines.closed.level = false →
      (s.bay b).lines.obstructed.level = false → (s.bay b).lines.curtain.level = false →
      ∃ t, exec (.closeLimitExpires b) s = .next t ∧ Retried s t b .closing (s.bayRecord b).closeLimit
        ∧ LinesStand s t ∧ ReleaseStands s t ∧ BayEvent b s t)
    ∧ ((s.bay b).phase = .closedUnlocked → (s.bay b).movement = .closes → s.retryGranted b .lockTimeout = true →
      (s.response .lockTimeout).platformEffect = .none → (s.bay b).lines.closed.level = true →
      (s.bay b).lines.locked.level = false →
      ∃ t, exec (.lockLimitExpires b) s = .next t ∧ Retried s t b .closedUnlocked (s.bayRecord b).lockLimit
        ∧ LinesStand s t ∧ ReleaseStands s t ∧ BayEvent b s t)

/-- The warning, its cap and the pause of REOPENING end in CLOSING with a fresh close timer; the warning does not end while it
is held, and the CLOSING that the cap brings is forced and posted (its value, the cap's limit, is log 25). -/
def Obligations.WarningAndPauseLeadToClosing : Prop :=
  ∀ (s : State) (b : BayIx) (x : Timer), s.active = true → GapFresh s → EntersFree s b →
    (s.bay b).lines.closed.level = false → (s.bay b).lines.obstructed.level = false →
    ((s.bay b).phase = .warning → (s.bay b).timer = some x → (s.bay b).presence ≠ .blocking →
      (s.bay b).lines.curtain.level = false →
      ∃ t, exec (.warningPeriodExpires b) s = .next t ∧ Closes s t b ∧ (t.bay b).forced = false ∧ LinesStand s t
        ∧ ReleaseStands s t ∧ BayEvent b s t)
    ∧ ((s.bay b).phase = .warning → (s.bay b).presence = .blocking → exec (.warningPeriodExpires b) s = .next s)
    ∧ ((s.bay b).phase = .reopening → (s.bay b).pausing = true → (s.bay b).timer = some x →
      (s.bay b).lines.curtain.level = false →
      ∃ t, exec (.reopenPauseExpires b) s = .next t ∧ Closes s t b ∧ (t.bay b).forced = false ∧ LinesStand s t
        ∧ ReleaseStands s t ∧ BayEvent b s t)
    ∧ ((s.bay b).phase = .warning → (s.bay b).cap = some x →
      ∃ t, exec (.curtainHoldLimitExpires b) s = .next t ∧ Closes s t b ∧ (t.bay b).forced = true ∧ LinesStand s t
        ∧ ReleaseStands s t ∧ BayEvent b s t
        ∧ (s.events.queue.length + 5 ≤ 64 →
          { time := s.uptime, kind := .closeForced, bay := some b, value := BitVec.ofNat 16 x.limit } ∈ t.events.queue))

/-- The expiry of a timer that does not run, or that belongs to another phase, has no effect. -/
def Obligations.DroppedTimersHaveNoEffect : Prop :=
  ∀ (s : State) (b : BayIx) (k : Sensor),
    ((s.bay b).phase ≠ .unlocking ∨ (s.bay b).timer = none → exec (.unlockLimitExpires b) s = .next s)
    ∧ ((s.bay b).phase ≠ .opening ∧ (s.bay b).phase ≠ .reopening ∨ (s.bay b).timer = none →
      exec (.openLimitExpires b) s = .next s)
    ∧ ((s.bay b).phase ≠ .closing ∨ (s.bay b).timer = none → exec (.closeLimitExpires b) s = .next s)
    ∧ ((s.bay b).phase ≠ .closedUnlocked ∨ (s.bay b).timer = none → exec (.lockLimitExpires b) s = .next s)
    ∧ ((s.bay b).phase ≠ .warning ∨ (s.bay b).timer = none → exec (.warningPeriodExpires b) s = .next s)
    ∧ ((s.bay b).phase ≠ .warning ∨ (s.bay b).cap = none → exec (.curtainHoldLimitExpires b) s = .next s)
    ∧ ((s.bay b).phase ≠ .reopening ∨ (s.bay b).timer = none → exec (.reopenPauseExpires b) s = .next s)
    ∧ ((s.bay b).stuckTimerOf k = none → exec (.stuckTimerExpires b k) s = .next s)
    ∧ (s.gap.timer = none ∨ s.gap.result ≠ .scanning → exec .gapScanTimerExpires s = .next s)
    ∧ (s.supervision.timer = none ∨ s.supervision.state ≠ .armed → exec .supervisionTimerExpires s = .next s)

/-- The stuck timer of a sensor marks it stuck: presence STUCK, and SENSOR_STUCK, advised, leaves the phase alone. The gap scan
timer that expires while SCANNING makes the gap result CLEAR, and leaves every bay as it was but for presence states. -/
def Obligations.StuckAndScanTimersExpire : Prop :=
  (∀ (s : State) (b : BayIx) (k : Sensor), s.active = true → s.sliding b = true → (s.bay b).phase = .closedLocked →
      ((s.bay b).stuckTimerOf k).isSome = true → (s.response .sensorStuck).action = .advise →
      (s.response .sensorStuck).platformEffect = .none → s.retryGranted b .sensorStuck = false →
      ∃ t, exec (.stuckTimerExpires b k) s = .next t
        ∧ (k = .gap → (t.bay b).gapStuck = true ∧ (t.bay b).curtainStuck = (s.bay b).curtainStuck)
        ∧ (k = .curtain → (t.bay b).curtainStuck = true ∧ (t.bay b).gapStuck = (s.bay b).gapStuck)
        ∧ (t.bay b).stuckTimerOf k = none ∧ (t.bay b).presence = .stuck ∧ (t.bay b).phase = .closedLocked
        ∧ (t.bay b).movement = (s.bay b).movement
        ∧ (t.bay b).frame = s.newFrame .advised .sensorStuck (if k = .gap then 1 else 2) .closedLocked (s.bay b).movement
            (s.bay b).retry
        ∧ LinesStand s t ∧ ReleaseStands s t ∧ t.gap = s.gap ∧ BayEvent b s t)
  ∧ (∀ s : State, s.active = true → s.gap.result = .scanning → s.gap.timer.isSome = true → GapFresh s →
      ∃ t, exec .gapScanTimerExpires s = .next t ∧ t.gap = { result := .clear, timer := none } ∧ t.train = s.train
        ∧ (∀ b, (t.bay b).body = (s.bay b).body) ∧ Stands s t ∧ StoreStands s t ∧ LinksStand s t ∧ LinesStand s t
        ∧ ReleaseStands s t ∧ FaceStands s t ∧ t.supervision = s.supervision)

/-- Supervision expires: EXPIRED with its time, LINK_EXPIRED in the platform frame, the proof NOT_SECURE, every GENERAL_OUTPUT
line at its safe level, and the link-loss action CLOSE taken by an open bay. -/
def Obligations.SupervisionExpires : Prop :=
  ∀ (s : State) (x : Timer), s.active = true → s.supervision.state = .armed → s.supervision.timer = some x →
    ∃ t, exec .supervisionTimerExpires s = .next t
      ∧ t.supervision = { state := .expired, timer := none, expiredAt := some s.uptime }
      ∧ t.proof.value = .notSecure ∧ t.proof.withheld.link = true
      ∧ (s.platformFrame.state ≠ .active → t.platformFrame = s.newPlatformFrame .linkExpired x.limit)
      ∧ (∀ n : LineIx, (s.lineRecord n).function = .generalOutput →
          t.pins.lines[n.val] = some ((s.lineRecord n).polarity.apply (s.lineRecord n).safe))
      ∧ Stands s t ∧ StoreStands s t ∧ LinksStand s t ∧ LinesStand s t ∧ t.release.latch = s.release.latch
      ∧ (BayCodesHandNothing s → (s.response .linkExpired).platformEffect = .none → GapFresh s →
          t.train = s.train ∧ t.mode = s.mode
          ∧ ∀ b, EntersFree s b → (s.bayRecord b).linkLoss = .close → s.fire = false → s.mode.mode ≠ .halted →
              s.platform.warningPeriod ≠ 0 → (s.bay b).phase = .opened →
              (t.bay b).phase = .warning ∧ (t.bay b).movement = .closes)

/-- DWELL_DUE and DWELL_OVERSTAY bring elapsed to their thresholds at the latest (log 23) and set their flags; both at once
when the overstay margin is 0. -/
def Obligations.DwellFlagsAreSet : Prop :=
  ∀ s : State, s.active = true → s.train.state = .enabled ∨ s.train.state = .closing → s.train.dwellLimit ≠ 0 →
    (s.train.due = false →
      ∃ t, exec .dwellDue s = .next t
        ∧ t.train = { s.train with
            dwellElapsed := max s.train.dwellElapsed (s.train.dwellLimit * 1000), due := true
            overstay := s.train.overstay
              || decide ((s.train.dwellLimit + s.platform.overstayMargin) * 1000
                  ≤ max s.train.dwellElapsed (s.train.dwellLimit * 1000)) }
        ∧ t.gap = s.gap ∧ BaysStand s t ∧ Stands s t ∧ StoreStands s t ∧ LinksStand s t ∧ LinesStand s t
        ∧ ReleaseStands s t ∧ FaceStands s t ∧ t.supervision = s.supervision)
    ∧ (s.train.overstay = false →
      ∃ t, exec .dwellOverstay s = .next t
        ∧ t.train = { s.train with
            dwellElapsed := max s.train.dwellElapsed ((s.train.dwellLimit + s.platform.overstayMargin) * 1000)
            due := true, overstay := true }
        ∧ t.gap = s.gap ∧ BaysStand s t ∧ Stands s t ∧ StoreStands s t ∧ LinksStand s t ∧ LinesStand s t
        ∧ ReleaseStands s t ∧ FaceStands s t ∧ t.supervision = s.supervision)

/-- RECORD_WRITE_COMPLETES: a record that verifies is copied and counted; the last one ends the commit, a suspending cause
suspends it; a record that does not verify leaves the store INVALID and raises STORE_FAILED with its number. That the record
which failed keeps its old stored content and fails its check value is the model's choice (log 13): the spec does not say what the
medium then holds. -/
def Obligations.RecordWritesCarryTheCommit : Prop :=
  ∀ s : State, s.active = true → s.store.state = .committing →
    (∃ t, exec (.recordWriteCompletes true) s = .next t
      ∧ t.store =
          (if s.store.written + 1 = s.store.total then
            { s.store with
              state := .valid, dirty := false, written := s.store.written + 1
              stored := { records := s.store.working.copyRecord s.store.stored.records s.store.position
                          completion := true, full := s.store.total == 93
                          sound := s.store.stored.sound.setIfInBounds s.store.position true } }
          else
            { s.store with
              state := if s.train.state ≠ .empty ∨ s.fire = true then .suspended else .committing
              written := s.store.written + 1
              stored := { s.store.stored with
                          records := s.store.working.copyRecord s.store.stored.records s.store.position
                          sound := s.store.stored.sound.setIfInBounds s.store.position true } })
      ∧ Stands s t ∧ LinksStand s t ∧ LinesStand s t ∧ BaysStand s t ∧ TrainStands s t ∧ ReleaseStands s t
      ∧ FaceStands s t ∧ t.supervision = s.supervision)
    ∧ ∃ t, exec (.recordWriteCompletes false) s = .next t
      ∧ t.store = { s.store with
          state := .invalid
          stored := { s.store.stored with sound := s.store.stored.sound.setIfInBounds s.store.position false } }
      ∧ (s.platformFrame.state ≠ .active → t.platformFrame = s.newPlatformFrame .storeFailed (s.store.written + 1))
      ∧ Stands s t ∧ LinksStand s t ∧ LinesStand s t ∧ t.release.latch = s.release.latch ∧ t.supervision = s.supervision

/-! ### The links -/

/-- A byte with no reply owed moves the receive buffer as its table gives; a gap of more than 20 ms and a CRC that does not
match bring it back to hunting. -/
def Obligations.BytesMoveTheBuffer : Prop :=
  ∀ (l : Link) (x : Byte) (s : State), s.runs = true → (s.port l).reply = none →
    ((s.port l).buffer = .hunting →
      exec (.byteReceived l x) s = .next (s.setBuffer l (if x = 0x5A#8 then .synced else .hunting)))
    ∧ ((s.port l).buffer = .synced →
      exec (.byteReceived l x) s =
        .next (s.setBuffer l (if 1 ≤ x.toNat ∧ x.toNat ≤ 241 then .awaiting x [] else .hunting)))
    ∧ (∀ n bytes, (s.port l).buffer = .awaiting n bytes →
      (bytes.length + 1 ≠ n.toNat + 2 → exec (.byteReceived l x) s = .next (s.setBuffer l (.awaiting n (bytes ++ [x]))))
      ∧ (bytes.length + 1 = n.toNat + 2 → (bytes ++ [x]).drop n.toNat ≠ be16 (crc16 (n :: bytes.take n.toNat)).toNat →
        exec (.byteReceived l x) s = .next (s.setBuffer l .hunting)))
    ∧ ((s.port l).buffer ≠ .hunting → exec (.interByteGap l) s = .next (s.setBuffer l .hunting))
    ∧ exec (.frameCrcMismatch l) s = .next (s.setBuffer l .hunting)

/-- While a reply is owed every byte is discarded and sets OVERRUN. REPLY_SENT frees the link: OVERRUN is cleared by a reply that
carried it unless a byte was discarded meanwhile; after an accepted RESTART the restart begins with cause REQUEST. A frame is
not taken while the part does not run, nor while a reply is owed, nor on the signalling link between an accepted RESTART and
the restart. Two points are the model's: that a request row met by an owed reply is an overrun (log 16), and that the working
copy is in place at the beginning of STARTING (log 15). -/
def Obligations.OwedRepliesHoldTheLink : Prop :=
  (∀ (l : Link) (x : Byte) (s : State) (r : Reply), s.runs = true → (s.port l).reply = some r →
      exec (.byteReceived l x) s = .next (s.setPort l { s.port l with overrun := true, discarded := true })
      ∧ exec (.byteWhileReplyOwed l) s = .next (s.setPort l { s.port l with overrun := true, discarded := true })
      ∧ exec (.frameCrcMismatch l) s = .next (s.setPort l { s.port l with overrun := true, discarded := true }))
  ∧ (∀ (l : Link) (s : State) (r : Reply), s.runs = true → (s.port l).reply = some r →
      (l = .signalling ∨ s.mode.restartAccepted = false →
        exec (.replySent l) s = .next (s.setPort l
          { buffer := .hunting, sinceByte := 0, reply := none, discarded := false
            overrun := ((s.port l).overrun && !r.showsOverrun) || (s.port l).discarded }))
      ∧ (l = .station → s.mode.restartAccepted = true → ∃ t, exec (.replySent l) s = .next t ∧ Restarted s t .request))
  ∧ (∀ (c : Instr) (l : Link) (k : RequestKind) (body : List Byte) (s : State), requestOf c = some (l, k, body) →
      (s.runs = false → exec c s = .next s)
      ∧ (s.runs = true → (s.port l).reply ≠ none →
        exec c s = .next (s.setPort l { s.port l with overrun := true, discarded := true }))
      ∧ (s.runs = true → (s.port l).reply = none → l = .signalling → s.mode.restartAccepted = true →
        exec c s = .next (s.setBuffer .signalling .hunting)))

/-- The bytes of a frame (sync, length, kind, body, CRC), sent one after another to a link that hunts and owes no reply, come
to the frame's being received, whatever its kind, body and CRC bytes are. -/
def Obligations.FrameBytesBringTheirFrame : Prop :=
  ∀ (l : Link) (kind : Byte) (body : List Byte) (rest : List Instr) (s : State), body.length ≤ 240 → s.runs = true →
    (s.port l).reply = none → (s.port l).buffer = .hunting →
    Host.Core.run Sys2Proof.core (frameBytes kind body).length
        { s with pending := (frameBytes kind body).map (fun x => .byteReceived l x) ++ rest } =
      .next (({ s with pending := rest } : State).receiveFrame l kind body)

/-- A request row does what the complete frame of its kind and body does. -/
def Obligations.RequestRowsAreTheirFrames : Prop :=
  ∀ (c : Instr) (l : Link) (k : RequestKind) (body : List Byte) (s : State), requestOf c = some (l, k, body) →
    exec c s = .next (s.receiveFrame l k.code body)

/-- A frame of a kind that neither link has is answered UNKNOWN, during STARTING BUSY; a request that fails one of the link's
checks is answered with the first refusal that applies. Nothing else changes but, for MODE and WRONG_LINK, the AUTHORITY flag and
its event. The reply kind of an unknown kind of 0x80 or more, the sum modulo 256, is log 22, the model's choice. -/
def Obligations.LinkRefusalsChangeNothing : Prop :=
  (∀ (l : Link) (kind : Byte) (body : List Byte) (s : State), kindAssigned kind = false → Ready l s →
      exec (.unknownKind l kind body) s =
        .next (answered l s kind (if s.mode.mode = .starting then .busy else .unknown) []))
  ∧ (∀ (c : Instr) (l : Link) (k : RequestKind) (body : List Byte) (s : State) (r : Result),
      requestOf c = some (l, k, body) → Ready l s → LinkRefuses l k body s r →
      exec c s = .next (answered l (refusalRecorded s l k.code r) k.code r []))

/-! ### Signalling requests -/

/-- A counted frame arms supervision, restarts its timer or disarms it, as its table gives; POLL then answers DONE with the
summary alone and changes nothing else. -/
def Obligations.PollAnswersAndArms : Prop :=
  ∀ (body : List Byte) (s : State),
    (Admits .signalling .poll body s →
      exec (.poll .signalling body) s = .next (signallingAnswer s RequestKind.poll.code .done []))
    ∧ { s.countFrame with supervision := s.supervision } = s
    ∧ (s.supervision.state = .disarmed → s.mode.mode = .service → s.platform.supervisionPeriod ≠ 0 →
        s.countFrame.supervision = { s.supervision with
          state := .armed, timer := some { limit := s.platform.supervisionPeriod, elapsed := 0 } })
    ∧ (s.supervision.state = .disarmed → s.mode.mode ≠ .service ∨ s.platform.supervisionPeriod = 0 →
        s.countFrame.supervision = s.supervision)
    ∧ (s.supervision.state = .armed → s.platform.supervisionPeriod ≠ 0 →
        s.countFrame.supervision =
          { s.supervision with timer := some { limit := s.platform.supervisionPeriod, elapsed := 0 } })
    ∧ (s.supervision.state = .armed → s.platform.supervisionPeriod = 0 →
        s.countFrame.supervision = { s.supervision with state := .disarmed, timer := none })
    ∧ (s.supervision.state = .expired → s.countFrame.supervision = s.supervision)

/-- ANNOUNCE: a train already there is refused SEQUENCE, a unit without a valid slot NO_PROFILE; otherwise the record becomes
ANNOUNCED with its units and target, and everything else in it empty. CANCEL returns an ANNOUNCED or BERTHED train to EMPTY and
the gap result to NONE; in every other state it is refused SEQUENCE. -/
def Obligations.AnnounceAndCancelTheTrain : Prop :=
  (∀ (body : List Byte) (s : State), Admits .signalling .announce body s →
      (announceOperand body = none →
        exec (.announce .signalling body) s = .next (signallingAnswer s RequestKind.announce.code .range []))
      ∧ ∀ units target, announceOperand body = some (units, target) →
        (s.train.state ≠ .empty →
          exec (.announce .signalling body) s = .next (signallingAnswer s RequestKind.announce.code .sequence []))
        ∧ (s.train.state = .empty → (∃ u ∈ units, s.profile u.consist = none) →
          exec (.announce .signalling body) s = .next (signallingAnswer s RequestKind.announce.code .noProfile []))
        ∧ (s.train.state = .empty → (∀ u ∈ units, (s.profile u.consist).isSome = true) →
          ∃ t, exec (.announce .signalling body) s = .next t ∧ SignallingAnswered s t .announce .done []
            ∧ t.train = { state := .announced, units := units, target := some target, measured := none, stopError := none
                          alignment := .none, checked := false, aligned := [], map := [], dwellLimit := 0
                          dwellElapsed := 0, due := false, overstay := false }
            ∧ t.gap = s.gap ∧ t.supervision = s.countFrame.supervision ∧ BaysStand s t ∧ ReleaseStands s t ∧ FaceStands s t
            ∧ SignallingEvent s t))
  ∧ (∀ (body : List Byte) (s : State), Admits .signalling .cancel body s →
      (s.train.state = .announced ∨ s.train.state = .berthed → s.train.map = [] →
        ∃ t, exec (.cancel .signalling body) s = .next t ∧ SignallingAnswered s t .cancel .done []
          ∧ t.train = Train.reset ∧ t.gap = { result := .none, timer := none }
          ∧ t.supervision = s.countFrame.supervision ∧ BaysStand s t ∧ ReleaseStands s t ∧ FaceStands s t
          ∧ SignallingEvent s t)
      ∧ (s.train.state ≠ .announced → s.train.state ≠ .berthed →
        exec (.cancel .signalling body) s = .next (signallingAnswer s RequestKind.cancel.code .sequence [])))

/-- BERTH places the train, records the measured position, the stop error, the alignment result, whether sensors checked it
and the aligned set, and answers with them; without a placed sensor the stop error alone gives the result. -/
def Obligations.BerthJudgesThePosition : Prop :=
  ∀ (body : List Byte) (s : State) (measured : Mm), Admits .signalling .berth body s →
    berthOperand body = some measured →
    (s.train.state ≠ .announced → s.train.state ≠ .berthed →
      exec (.berth .signalling body) s = .next (signallingAnswer s RequestKind.berth.code .sequence []))
    ∧ (s.train.state = .announced ∨ s.train.state = .berthed →
      (s.placeTrain 1 measured s.train.units = none →
        exec (.berth .signalling body) s = .next (signallingAnswer s RequestKind.berth.code .noProfile []))
      ∧ ∀ doorways target, s.placeTrain 1 measured s.train.units = some doorways → s.train.target = some target →
        ∃ t, exec (.berth .signalling body) s = .next t ∧ SignallingAnswered s t .berth .done t.berthContent
          ∧ t.train = { s.train with
              state := .berthed, measured := some measured, stopError := some (measured - target)
              alignment := s.alignmentOf measured (measured - target), checked := !s.placed.isEmpty
              aligned := s.alignedSet doorways }
          ∧ (s.placed = [] → t.train.alignment =
              (if (measured - target).natAbs ≤ s.platform.stopTolerance then .aligned
              else if (measured - target).natAbs ≤ s.platform.extendedWindow then .offset
              else .misaligned))
          ∧ t.gap = s.gap ∧ t.supervision = s.countFrame.supervision ∧ BaysStand s t ∧ ReleaseStands s t ∧ FaceStands s t
          ∧ SignallingEvent s t)

/-- The aligned set: the SLIDING bays whose largest overlap with a doorway is at least their minimum overlap, in increasing bay
number, each with the first doorway that gives that overlap, and the overlap in whole millimetres, rounded down. -/
def Obligations.AlignedSetFollowsTheOverlaps : Prop :=
  ∀ (s : State) (doorways : List PlacedDoorway),
    ((s.alignedSet doorways).map AlignedBay.bay).Pairwise (· < ·)
    ∧ (∀ b, (∃ a ∈ s.alignedSet doorways, a.bay = b) ↔
        s.kind b = .sliding ∧ ∃ d ∈ doorways, 2 * (s.bayRecord b).minOverlap ≤ bayOverlap2 (s.bayRecord b) d)
    ∧ ∀ a ∈ s.alignedSet doorways, ∃ before d after, doorways = before ++ d :: after
        ∧ a.unitNo = d.unitNo ∧ a.doorway = d.doorway ∧ a.overlap = bayOverlap2 (s.bayRecord a.bay) d / 2
        ∧ (∀ e ∈ before, bayOverlap2 (s.bayRecord a.bay) e < bayOverlap2 (s.bayRecord a.bay) d)
        ∧ ∀ e ∈ after, bayOverlap2 (s.bayRecord a.bay) e ≤ bayOverlap2 (s.bayRecord a.bay) d

/-- The selection of a map from an aligned set in increasing bay number: the whole set, its first n or its last n bays, or the
rest of it when inverted; and the map is, in increasing bay number, the selection less the bays in RELEASED, FAULTED or ISOLATED
and those held, each excluded with the first of these reasons. -/
def Obligations.MapIsSelectedFromTheAlignedSet : Prop :=
  ∀ (s : State) (x : Selection), s.train.alignedBays.Pairwise (· < ·) →
    (x.invert = false → x.kind = .all → s.selected x = s.train.alignedBays)
    ∧ (x.invert = false → x.kind = .near → s.selected x = s.train.alignedBays.take x.count)
    ∧ (x.invert = false → x.kind = .far →
        s.selected x = s.train.alignedBays.drop (s.train.alignedBays.length - x.count))
    ∧ (x.invert = true → x.kind = .all → s.selected x = [])
    ∧ (x.invert = true → x.kind = .near → s.selected x = s.train.alignedBays.drop x.count)
    ∧ (x.invert = true → x.kind = .far →
        s.selected x = s.train.alignedBays.take (s.train.alignedBays.length - x.count))
    ∧ (s.mapOf x).Pairwise (· < ·)
    ∧ (∀ b, b ∈ s.mapOf x ↔ b ∈ s.selected x ∧ (s.bay b).phase ≠ .released ∧ (s.bay b).phase ≠ .faulted
        ∧ (s.bay b).phase ≠ .isolated ∧ (s.bay b).hold = false)
    ∧ ∀ b r, (b, r) ∈ s.excludedOf x ↔ b ∈ s.selected x
        ∧ ((s.bay b).phase = .released ∧ r = .released ∨ (s.bay b).phase = .faulted ∧ r = .faulted
          ∨ (s.bay b).phase = .isolated ∧ r = .isolated
          ∨ (s.bay b).phase ≠ .released ∧ (s.bay b).phase ≠ .faulted ∧ (s.bay b).phase ≠ .isolated
            ∧ (s.bay b).hold = true ∧ r = .held)

/-- OPEN_MAP on a BERTHED train: its refusals in order; otherwise the map is formed, the train ENABLED, the dwell begun, the
gap result PENDING, the excluded bays reported, and a locked member with nothing against it passes to UNLOCKING. The content of
the EMPTY_MAP refusal and the order of the reported bays are log 31, the model's inference. -/
def Obligations.OpenMapFormsTheMap : Prop :=
  ∀ (body : List Byte) (s : State) (x : Selection), Admits .signalling .openMap body s →
    openMapOperand body = some x →
    (s.train.state = .empty ∨ s.train.state = .announced ∨ s.train.state = .departing →
      exec (.openMap .signalling body) s = .next (signallingAnswer s RequestKind.openMap.code .sequence []))
    ∧ (s.train.state = .berthed →
      (s.fire = true →
        exec (.openMap .signalling body) s = .next (signallingAnswer s RequestKind.openMap.code .emergency []))
      ∧ (s.fire = false →
        ¬(s.train.alignment = .aligned ∨ s.train.alignment = .offset ∧ x.acceptOffset = true) →
        exec (.openMap .signalling body) s = .next (signallingAnswer s RequestKind.openMap.code .notAligned []))
      ∧ (s.fire = false → s.train.alignment = .aligned ∨ s.train.alignment = .offset ∧ x.acceptOffset = true →
        (s.mapOf x = [] → exec (.openMap .signalling body) s =
          .next (signallingAnswer s RequestKind.openMap.code .emptyMap (mapContent [] (s.excludedOf x))))
        ∧ (s.mapOf x ≠ [] → PhaseLaw s → BayCodesHandNothing s →
          ∃ t, exec (.openMap .signalling body) s = .next t
            ∧ SignallingAnswered s t .openMap (if s.excludedOf x = [] then .done else .partly)
                (mapContent (s.mapOf x) (s.excludedOf x))
            ∧ t.train = { s.train with
                state := .enabled, map := s.mapOf x, dwellLimit := x.dwell, dwellElapsed := 0, due := false
                overstay := false }
            ∧ t.gap = { result := .pending, timer := none } ∧ t.supervision = s.countFrame.supervision
            ∧ (∀ b, b ∉ s.mapOf x → (t.bay b).core = (s.bay b).core)
            ∧ (∀ b ∈ s.mapOf x, EntersFree s b → (s.bay b).phase = .closedLocked →
                (s.bay b).lines.locked.level = true →
                (t.bay b).phase = .unlocking ∧ (t.bay b).movement = .opens ∧ (t.bay b).reclose = 0
                  ∧ (t.bay b).timer = some { limit := (s.bayRecord b).unlockLimit, elapsed := 0 })
            ∧ ReleaseStands s t ∧ FaceStands s t ∧ SignallingEvent s t)))

/-- OPEN_MAP on an ENABLED or CLOSING train re-opens it: ENABLED again with the same map and dwell, the gap result PENDING, and
a member in WARNING or CLOSING with nothing against it passes to OPENING; while the latch is set it is refused EMERGENCY. The
order of the reported bays is log 31, the model's inference. -/
def Obligations.OpenMapReopensTheMap : Prop :=
  ∀ (body : List Byte) (s : State) (x : Selection), Admits .signalling .openMap body s →
    openMapOperand body = some x → s.train.state = .enabled ∨ s.train.state = .closing →
    (s.fire = true →
      exec (.openMap .signalling body) s = .next (signallingAnswer s RequestKind.openMap.code .emergency []))
    ∧ (s.fire = false → PhaseLaw s → BayCodesHandNothing s →
      ∃ t, exec (.openMap .signalling body) s = .next t
        ∧ SignallingAnswered s t .openMap
            (if ∃ b ∈ s.train.map, (s.bay b).phase = .released ∨ (s.bay b).phase = .faulted then .partly else .done)
            (mapContent s.train.map (outOfControl s))
        ∧ t.train = { s.train with state := .enabled } ∧ t.gap = { result := .pending, timer := none }
        ∧ t.supervision = s.countFrame.supervision
        ∧ (∀ b, b ∉ s.train.map → (t.bay b).core = (s.bay b).core)
        ∧ (∀ b ∈ s.train.map, EntersFree s b → (s.bay b).phase = .warning ∨ (s.bay b).phase = .closing →
            (s.bay b).lines.fullyOpen.level = false →
            (t.bay b).phase = .opening ∧ (t.bay b).movement = .opens
              ∧ (t.bay b).timer = some { limit := (s.bayRecord b).openLimit, elapsed := 0 })
        ∧ ReleaseStands s t ∧ FaceStands s t ∧ SignallingEvent s t)

/-- CLOSE_MAP: without a map that dwells it is refused SEQUENCE, while the latch is set EMERGENCY; otherwise the train is
CLOSING, the members out of control are reported, and an open member with nothing against it passes to WARNING. The order of
the reported bays is log 31, the model's inference. -/
def Obligations.CloseMapClosesTheTrain : Prop :=
  ∀ (body : List Byte) (s : State), Admits .signalling .closeMap body s →
    (s.train.state ≠ .enabled → s.train.state ≠ .closing →
      exec (.closeMap .signalling body) s = .next (signallingAnswer s RequestKind.closeMap.code .sequence []))
    ∧ (s.train.state = .enabled ∨ s.train.state = .closing →
      (s.fire = true →
        exec (.closeMap .signalling body) s = .next (signallingAnswer s RequestKind.closeMap.code .emergency []))
      ∧ (s.fire = false → PhaseLaw s → GapFresh s → BayCodesHandNothing s →
        ∃ t, exec (.closeMap .signalling body) s = .next t
          ∧ SignallingAnswered s t .closeMap
              (if ∃ b ∈ s.train.map, (s.bay b).phase = .released ∨ (s.bay b).phase = .faulted then .partly else .done)
              (mapContent s.train.map (outOfControl s))
          ∧ t.train = { s.train with state := .closing } ∧ t.supervision = s.countFrame.supervision
          ∧ (∀ b, b ∉ s.train.map → (t.bay b).core = (s.bay b).core)
          ∧ (∀ b ∈ s.train.map, EntersFree s b → (s.bay b).phase = .opened → s.platform.warningPeriod ≠ 0 →
              (t.bay b).phase = .warning ∧ (t.bay b).movement = .closes
                ∧ (t.bay b).cap = some { limit := s.platform.curtainHold, elapsed := 0 })
          ∧ ReleaseStands s t ∧ FaceStands s t ∧ SignallingEvent s t))

/-- DEPART: SEQUENCE, EMERGENCY and NOT_SECURE in that order; otherwise the train is DEPARTING, or EMPTY at once when every
placed sensor is clear. -/
def Obligations.DepartEndsTheTrain : Prop :=
  ∀ (body : List Byte) (s : State), Admits .signalling .depart body s →
    (s.train.state ≠ .berthed → s.train.state ≠ .closing →
      exec (.depart .signalling body) s = .next (signallingAnswer s RequestKind.depart.code .sequence []))
    ∧ (s.train.state = .berthed ∨ s.train.state = .closing →
      (s.fire = true →
        exec (.depart .signalling body) s = .next (signallingAnswer s RequestKind.depart.code .emergency []))
      ∧ (s.fire = false → s.proof.value = .notSecure →
        exec (.depart .signalling body) s = .next (signallingAnswer s RequestKind.depart.code .notSecure []))
      ∧ (s.fire = false → s.proof.value ≠ .notSecure →
        ∃ t, exec (.depart .signalling body) s = .next t ∧ SignallingAnswered s t .depart .done []
          ∧ t.supervision = s.countFrame.supervision ∧ SignallingEvent s t ∧ t.release.latch = s.release.latch
          ∧ (s.sensorsClear = true → t.train = Train.reset ∧ t.gap = { result := .none, timer := none })
          ∧ (s.sensorsClear = false → t.train = { s.train with state := .departing } ∧ t.gap = s.gap ∧ BaysStand s t
              ∧ ReleaseStands s t ∧ FaceStands s t)))

/-- RESUME brings EXPIRED supervision back to ARMED with a full period, and is refused SEQUENCE otherwise. -/
def Obligations.ResumeRearmsSupervision : Prop :=
  ∀ (body : List Byte) (s : State), Admits .signalling .resume body s →
    (s.supervision.state = .expired →
      ∃ t, exec (.resume .signalling body) s = .next t ∧ SignallingAnswered s t .resume .done []
        ∧ t.supervision = { state := .armed, timer := some { limit := s.platform.supervisionPeriod, elapsed := 0 }
                            expiredAt := none }
        ∧ TrainStands s t ∧ BaysStand s t ∧ ReleaseStands s t ∧ FaceStands s t ∧ SignallingEvent s t)
    ∧ (s.supervision.state ≠ .expired →
      exec (.resume .signalling body) s = .next (signallingAnswer s RequestKind.resume.code .sequence []))

/-! ### Station requests: reads, the event queue, bay commands -/

/-- The reads: READ_BAYS, READ_TRAIN, READ_MAP, READ_RELEASES and READ_CONFIG answer DONE with what they read and change nothing;
READ_STATUS clears the AUTHORITY flag, READ_LINES the change latches, READ_FAULT with its clear flag an ADVISED bay frame or an
ACTIVE platform frame, each answering with what stood before. -/
def Obligations.ReadsAnswerWithWhatStood : Prop :=
  (∀ (body : List Byte) (s : State),
      (Admits .station .readBays body s →
        (readBaysOperand body = none →
          exec (.readBays .station body) s = .next (stationAnswer s RequestKind.readBays.code .range []))
        ∧ ∀ b n, readBaysOperand body = some (b, n) →
          exec (.readBays .station body) s = .next (stationAnswer s RequestKind.readBays.code .done (s.baysContent b n)))
      ∧ (Admits .station .readTrain body s →
        exec (.readTrain .station body) s = .next (stationAnswer s RequestKind.readTrain.code .done s.trainContent))
      ∧ (Admits .station .readMap body s →
        exec (.readMap .station body) s = .next (stationAnswer s RequestKind.readMap.code .done s.mapReplyContent))
      ∧ (Admits .station .readReleases body s →
        (readReleasesOperand body = none →
          exec (.readReleases .station body) s = .next (stationAnswer s RequestKind.readReleases.code .range []))
        ∧ ∀ n, readReleasesOperand body = some n →
          exec (.readReleases .station body) s =
            .next (stationAnswer s RequestKind.readReleases.code .done (s.releasesContent n)))
      ∧ (Admits .station .readConfig body s →
        (readConfigOperand body = none →
          exec (.readConfig .station body) s = .next (stationAnswer s RequestKind.readConfig.code .range []))
        ∧ ∀ i, readConfigOperand body = some i →
          exec (.readConfig .station body) s =
            .next (stationAnswer s RequestKind.readConfig.code .done (s.configContent i ++ flagByte s.store.dirty))))
  ∧ (∀ (body : List Byte) (s : State),
      (Admits .station .readStatus body s →
        exec (.readStatus .station body) s =
          .next (stationAnswer { s with events := { s.events with authority := false } } RequestKind.readStatus.code .done
            s.statusContent))
      ∧ (Admits .station .readLines body s → ∀ b, readLinesOperand body = some b →
        exec (.readLines .station body) s =
          .next (stationAnswer { s with lines := mapVector (fun x => { x with changeLatch := false }) s.lines }
            RequestKind.readLines.code .done (s.linesContent b)))
      ∧ (Admits .station .readFault body s →
        (∀ b, readFaultOperand body = some (some b, true) → (s.bay b).frame.state = .advised →
          exec (.readFault .station body) s =
            .next (stationAnswer
              ((s.setBay b { s.bay b with frame := { (s.bay b).frame with state := .cleared } }).post .faultCleared (some b)
                (highLow (s.bay b).frame.firstCode 5))
              RequestKind.readFault.code .done (s.faultContent (b.val + 1) (s.bay b).frame true)))
        ∧ (readFaultOperand body = some (none, true) → s.platformFrame.state = .active →
          exec (.readFault .station body) s =
            .next (stationAnswer
              (({ s with platformFrame := { s.platformFrame with state := .cleared } } : State).post .faultCleared none
                (highLow s.platformFrame.firstCode 5))
              RequestKind.readFault.code .done (s.faultContent 0 s.platformFrame true)))
        ∧ (∀ b f, readFaultOperand body = some (some b, f) → f = false ∨ (s.bay b).frame.state ≠ .advised →
          exec (.readFault .station body) s =
            .next (stationAnswer s RequestKind.readFault.code .done (s.faultContent (b.val + 1) (s.bay b).frame false)))
        ∧ (∀ f, readFaultOperand body = some (none, f) → f = false ∨ s.platformFrame.state ≠ .active →
          exec (.readFault .station body) s =
            .next (stationAnswer s RequestKind.readFault.code .done (s.faultContent 0 s.platformFrame false)))))

/-- TAKE_EVENTS returns and removes the oldest records and clears EVENTS_LOST; SET_ATTENTION sets the mask; SET_TRACE sets or
clears trace on a set of bays. -/
def Obligations.EventRequestsActOnTheQueue : Prop :=
  ∀ (body : List Byte) (s : State),
    (Admits .station .takeEvents body s → ∀ n, takeEventsOperand body = some n →
      exec (.takeEvents .station body) s =
        .next (stationAnswer { s with events := { s.events with queue := s.events.queue.drop n, lost := false } }
          RequestKind.takeEvents.code .done
          (be8 (s.events.queue.take n).length ++ be8 (s.events.queue.length - (s.events.queue.take n).length)
            ++ flagByte s.events.lost ++ (s.events.queue.take n).flatMap EventRecord.content)))
    ∧ (∀ mask, body = [mask] → Admits .station .setAttention body s →
      exec (.setAttention .station body) s =
        .next (stationAnswer { s with events := { s.events with mask := mask } } RequestKind.setAttention.code .done [mask]))
    ∧ (Admits .station .setTrace body s → ∀ bays on, setTraceOperand body = some (bays, on) →
      exec (.setTrace .station body) s =
        .next (stationAnswer
          { s with bays := tableOf (fun b => if inSet bays b then { s.bay b with trace := on } else s.bay b) }
          RequestKind.setTrace.code .done []))

/-- A record posted to a full queue: a SAFETY record displaces the oldest record that is neither SAFETY nor FAULT, or else the
oldest FAULT record; a FAULT record the first of these alone; every other record is discarded. EVENTS_LOST is set, the others
keep their order, and the queue holds at most 64. -/
def Obligations.QueueMakesRoomByClass : Prop :=
  ∀ (u : EventUnit) (r : EventRecord),
    (u.queue.length < 64 → u.add r = { u with queue := u.queue ++ [r] })
    ∧ (64 ≤ u.queue.length →
      (∀ before x after, u.queue = before ++ x :: after →
        (∀ y ∈ before, y.kind.cls = .safety ∨ y.kind.cls = .fault) → x.kind.cls ≠ .safety → x.kind.cls ≠ .fault →
        r.kind.cls = .safety ∨ r.kind.cls = .fault → u.add r = { u with queue := before ++ after ++ [r], lost := true })
      ∧ (∀ before x after, u.queue = before ++ x :: after → (∀ y ∈ before, y.kind.cls = .safety) →
        (∀ y ∈ after, y.kind.cls = .safety ∨ y.kind.cls = .fault) → x.kind.cls = .fault → r.kind.cls = .safety →
        u.add r = { u with queue := before ++ after ++ [r], lost := true })
      ∧ ((∀ y ∈ u.queue, y.kind.cls = .safety ∨ y.kind.cls = .fault) → r.kind.cls = .fault →
        u.add r = { u with lost := true })
      ∧ ((∀ y ∈ u.queue, y.kind.cls = .safety) → r.kind.cls = .safety → u.add r = { u with lost := true })
      ∧ (r.kind.cls ≠ .safety → r.kind.cls ≠ .fault → u.add r = { u with lost := true }))
    ∧ (u.queue.length ≤ 64 → (u.add r).queue.length ≤ 64)
    ∧ ((∃ y ∈ u.queue, y.kind.cls ≠ .safety) → (∀ y ∈ u.queue, y.kind.cls = .safety → y ∈ (u.add r).queue)
      ∧ (r.kind.cls = .safety → r ∈ (u.add r).queue))

/-- BAY_COMMAND OPEN, CLOSE and STOP: the accepted bays move as the claim says, the others are refused with their reasons. OPEN:
from CLOSED_LOCKED to UNLOCKING and from the other phases to OPENING. CLOSE: from OPEN, OPENING, or STOPPED with CLOSED inactive
to WARNING, or to CLOSING with a warning period of 0; from UNLOCKING, or STOPPED with CLOSED active, to CLOSED_UNLOCKED, and
where LOCKED still stands at once on to CLOSED_LOCKED (spec/01 R6, proof at entry; log 10, the model's inference). STOP: to
STOPPED, or with both proofs to CLOSED_LOCKED. -/
def Obligations.MovementCommandsMoveTheBays : Prop :=
  ∀ (body : List Byte) (s : State) (bays : Nat), BayCodesHandNothing s → GapFresh s →
    (Admits .station .bayCommand (withAction .opens body) s →
      bayCommandOperand (withAction .opens body) = some (bays, .opens) → s.mode.mode = .maintenance →
      ∃ t, exec (.bayCommandOpen .station body) s = .next t ∧ CommandAnswered s t .opens bays
        ∧ ∀ b, s.commandAccepts .opens bays b = true → EntersFree s b →
            ((s.bay b).phase = .closedLocked → (s.bay b).lines.locked.level = true →
              (t.bay b).phase = .unlocking ∧ (t.bay b).movement = .opens)
            ∧ ((s.bay b).phase ≠ .closedLocked → (s.bay b).lines.fullyOpen.level = false →
              (t.bay b).phase = .opening ∧ (t.bay b).movement = .opens))
    ∧ (Admits .station .bayCommand (withAction .closes body) s →
      bayCommandOperand (withAction .closes body) = some (bays, .closes) →
      s.mode.mode = .service ∨ s.mode.mode = .maintenance →
      ∃ t, exec (.bayCommandClose .station body) s = .next t ∧ CommandAnswered s t .closes bays
        ∧ ∀ b, s.commandAccepts .closes bays b = true → EntersFree s b →
            ((s.bay b).phase = .opened ∨ (s.bay b).phase = .opening
                ∨ (s.bay b).phase = .stopped ∧ (s.bay b).lines.closed.level = false →
              (s.platform.warningPeriod ≠ 0 → (t.bay b).phase = .warning ∧ (t.bay b).movement = .closes)
              ∧ (s.platform.warningPeriod = 0 → (s.bay b).lines.closed.level = false →
                (s.bay b).lines.obstructed.level = false → (s.bay b).lines.curtain.level = false →
                (t.bay b).phase = .closing ∧ (t.bay b).movement = .closes ∧ (t.bay b).cap = none
                  ∧ (t.bay b).timer = some { limit := (s.bayRecord b).closeLimit, elapsed := 0 }))
            ∧ (ShutsByClose s b →
              ((s.bay b).lines.locked.level = false → (t.bay b).phase = .closedUnlocked ∧ (t.bay b).movement = .closes)
              ∧ ((s.bay b).lines.locked.level = true → (t.bay b).phase = .closedLocked ∧ (t.bay b).movement = .none)))
    ∧ (Admits .station .bayCommand (withAction .stop body) s →
      bayCommandOperand (withAction .stop body) = some (bays, .stop) →
      s.mode.mode = .service ∨ s.mode.mode = .maintenance →
      ∃ t, exec (.bayCommandStop .station body) s = .next t ∧ CommandAnswered s t .stop bays
        ∧ ∀ b, s.commandAccepts .stop bays b = true → EntersFree s b →
            (t.bay b).movement = .none
            ∧ (t.bay b).phase = (if (s.bay b).bothProofs then .closedLocked else .stopped))

/-- BAY_COMMAND HOLD and FREE set and clear the service hold of the accepted bays and touch nothing else of any bay. -/
def Obligations.HoldAndFreeSetTheHold : Prop :=
  ∀ (body : List Byte) (s : State) (bays : Nat),
    (Admits .station .bayCommand (withAction .hold body) s →
      bayCommandOperand (withAction .hold body) = some (bays, .hold) →
      ∃ t, exec (.bayCommandHold .station body) s = .next t ∧ CommandAnswered s t .hold bays ∧ t.gap = s.gap
        ∧ ReleaseStands s t
        ∧ ∀ b, (t.bay b).core =
            { (s.bay b).core with hold := (s.bay b).hold || s.commandAccepts .hold bays b })
    ∧ (Admits .station .bayCommand (withAction .free body) s →
      bayCommandOperand (withAction .free body) = some (bays, .free) →
      ∃ t, exec (.bayCommandFree .station body) s = .next t ∧ CommandAnswered s t .free bays ∧ t.gap = s.gap
        ∧ ReleaseStands s t
        ∧ ∀ b, (t.bay b).core =
            { (s.bay b).core with hold := (s.bay b).hold && !s.commandAccepts .free bays b })

/-- BAY_COMMAND ISOLATE, RESTORE and CLEAR_FAULT: an accepted bay with no conflict is ISOLATED, its frame CLEARED if it was
FAULTED; an isolated one is CLOSED_LOCKED with the hold set, or RELEASED when its key is turned; a FAULTED one takes its
derived phase. -/
def Obligations.IsolateRestoreAndClearFault : Prop :=
  ∀ (body : List Byte) (s : State) (bays : Nat), BayCodesHandNothing s → GapFresh s →
    (Admits .station .bayCommand (withAction .isolate body) s →
      bayCommandOperand (withAction .isolate body) = some (bays, .isolate) →
      ∃ t, exec (.bayCommandIsolate .station body) s = .next t ∧ CommandAnswered s t .isolate bays
        ∧ ∀ b, s.commandAccepts .isolate bays b = true → (s.bay b).lines.conflict = false →
            (t.bay b).phase = .isolated ∧ (t.bay b).movement = .none ∧ (t.bay b).hold = (s.bay b).hold
            ∧ ((s.bay b).phase = .faulted → (t.bay b).frame = { (s.bay b).frame with state := .cleared })
            ∧ ((s.bay b).phase ≠ .faulted → (t.bay b).frame = (s.bay b).frame))
    ∧ (Admits .station .bayCommand (withAction .restore body) s →
      bayCommandOperand (withAction .restore body) = some (bays, .restore) → s.fire = false →
      ∃ t, exec (.bayCommandRestore .station body) s = .next t ∧ CommandAnswered s t .restore bays
        ∧ ∀ b, s.commandAccepts .restore bays b = true → (s.bay b).lines.conflict = false →
            (t.bay b).hold = true ∧ (t.bay b).movement = .none ∧ (t.bay b).retry = 0 ∧ (t.bay b).reclose = 0
            ∧ (t.bay b).phase = (if (s.bay b).lines.releaseKey.level then .released else .closedLocked))
    ∧ (Admits .station .bayCommand (withAction .clearFault body) s →
      bayCommandOperand (withAction .clearFault body) = some (bays, .clearFault) → s.fire = false →
      ∃ t, exec (.bayCommandClearFault .station body) s = .next t ∧ CommandAnswered s t .clearFault bays
        ∧ ∀ b, s.commandAccepts .clearFault bays b = true →
            (t.bay b).phase = derivedPhase (s.kind b) (s.bay b).lines ∧ (t.bay b).movement = .none
            ∧ (t.bay b).retry = 0 ∧ (t.bay b).reclose = 0
            ∧ ((t.bay b).phase ≠ .faulted → (t.bay b).frame = { (s.bay b).frame with state := .cleared })
            ∧ ((t.bay b).phase = .faulted → (t.bay b).frame.state = .active))

/-! ### Station requests: acts -/

/-- ACK_RELEASE removes the named restored records, marks the named open ones acknowledged and answers with the records left;
a number that no record holds is REFUSED. -/
def Obligations.AckReleaseUpdatesTheLog : Prop :=
  ∀ (body : List Byte) (s : State), Admits .station .ackRelease body s →
    (ackOperand body = none →
      exec (.ackRelease .station body) s = .next (stationAnswer s RequestKind.ackRelease.code .range []))
    ∧ (∀ n, ackOperand body = some (some n) → (∀ r ∈ s.release.log, r.number ≠ n) →
      exec (.ackRelease .station body) s = .next (stationAnswer s RequestKind.ackRelease.code .refused []))
    ∧ ∀ target, ackOperand body = some target →
      (∀ n, target = some n → ∃ r ∈ s.release.log, r.number = n) →
      ∃ log, exec (.ackRelease .station body) s =
          .next (stationAnswer { s with release := { s.release with log := log } } RequestKind.ackRelease.code .done
            (be8 log.length))
        ∧ log = (s.release.log.filter (fun r => !(acksRecord target r && r.restored.isSome))).map
            (fun r => if acksRecord target r then { r with acked := true } else r)

/-- EMERGENCY_OPEN with the latch clear sets it with source STATION, and every SLIDING bay that was closing opens or is left
out of control; with the latch set it changes nothing; either way the reply is DONE with the latch as it stood. -/
def Obligations.EmergencyOpenSetsTheLatch : Prop :=
  ∀ (body : List Byte) (s : State), Admits .station .emergencyOpen body s →
    (s.release.latch = none →
      ∃ t, exec (.emergencyOpen .station body) s = .next t ∧ StationAnswered s t .emergencyOpen .done [0#8, 0#8]
        ∧ t.release.latch = some .station ∧ FireLaw t ∧ StationEvent s t ∧ t.supervision = s.supervision
        ∧ (BayCodesHandNothing s → GapFresh s → s.mode.mode ≠ .halted → ∀ b, EntersFree s b →
            ((s.bay b).phase = .closedLocked → (s.bay b).lines.locked.level = true → (t.bay b).phase = .unlocking)
            ∧ ((s.bay b).phase = .warning → (s.bay b).lines.fullyOpen.level = false → (t.bay b).phase = .opening)))
    ∧ (s.fire = true →
      ∃ t, exec (.emergencyOpen .station body) s = .next t
        ∧ StationAnswered s t .emergencyOpen .done [1#8, BitVec.ofNat 8 (fireSourceCode s.release.latch)]
        ∧ ReleaseStands s t ∧ BaysStand s t ∧ TrainStands s t ∧ FaceStands s t ∧ StationEvent s t
        ∧ t.supervision = s.supervision)

/-- EXTEND_DWELL raises the dwell limit by its step, at most to 900 s, and the flags are those of the new limit; without a
dwell it is refused SEQUENCE. -/
def Obligations.ExtendDwellRaisesTheLimit : Prop :=
  ∀ (body : List Byte) (s : State) (n : Nat), Admits .station .extendDwell body s → extendOperand body = some n →
    (s.train.state ≠ .enabled → s.train.state ≠ .closing →
      exec (.extendDwell .station body) s = .next (stationAnswer s RequestKind.extendDwell.code .sequence []))
    ∧ (s.train.state = .enabled ∨ s.train.state = .closing →
      ∃ t limit, exec (.extendDwell .station body) s = .next t ∧ limit = min 900 (s.train.dwellLimit + n)
        ∧ t.train = { s.train with
            dwellLimit := limit, due := decide (limit * 1000 ≤ s.train.dwellElapsed)
            overstay := decide ((limit + s.platform.overstayMargin) * 1000 ≤ s.train.dwellElapsed) }
        ∧ StationAnswered s t .extendDwell .done (be16 limit) ∧ t.gap = s.gap ∧ BaysStand s t ∧ ReleaseStands s t
        ∧ FaceStands s t ∧ StationEvent s t ∧ t.supervision = s.supervision)

/-- SET_OUTPUT writes the output latches of a set of GENERAL_OUTPUT lines and answers with the latches and the levels driven;
a line of another function makes it CONFLICT. That a line which is not driven has the bit 0 among the levels driven is the model's
choice (log 42). -/
def Obligations.SetOutputWritesTheLatches : Prop :=
  ∀ (body : List Byte) (s : State) (lines levels : Nat), Admits .station .setOutput body s →
    setOutputOperand body = some (lines, levels) →
    ((∃ n, inSet lines n = true ∧ (s.lineRecord n).function ≠ .generalOutput) →
      exec (.setOutput .station body) s = .next (stationAnswer s RequestKind.setOutput.code .conflict []))
    ∧ ((∀ n, inSet lines n = true → (s.lineRecord n).function = .generalOutput) →
      ∃ t, t = { s with lines := tableOf (fun n =>
            if inSet lines n then { s.line n with outputLatch := inSet levels n } else s.line n) }
        ∧ exec (.setOutput .station body) s =
            .next (stationAnswer t RequestKind.setOutput.code .done
              (setBytes (fun n => (t.line n).outputLatch) ++ setBytes (fun n => t.drivenLevel n == some true)))
        ∧ ∀ n, inSet lines n = true → s.supervision.state ≠ .expired → t.drivenLevel n = some (inSet levels n))

/-- ENTER_MAINTENANCE asks for SERVICE, the key and an EMPTY train, in that order, and disarms supervision;
LEAVE_MAINTENANCE returns to SERVICE and closes an open bay with nothing against it. -/
def Obligations.MaintenanceIsEnteredAndLeft : Prop :=
  ∀ (body : List Byte) (s : State),
    (Admits .station .enterMaintenance body s →
      (s.mode.mode = .maintenance →
        exec (.enterMaintenance .station body) s =
          .next (stationAnswer s RequestKind.enterMaintenance.code .sequence []))
      ∧ (s.mode.mode = .service →
        (s.functionLevel .maintenanceKey = false →
          exec (.enterMaintenance .station body) s =
            .next (stationAnswer (refusalRecorded s .station RequestKind.enterMaintenance.code .key)
              RequestKind.enterMaintenance.code .key []))
        ∧ (s.functionLevel .maintenanceKey = true → s.train.state ≠ .empty →
          exec (.enterMaintenance .station body) s =
            .next (stationAnswer s RequestKind.enterMaintenance.code .sequence []))
        ∧ (s.functionLevel .maintenanceKey = true → s.train.state = .empty →
          ∃ t, exec (.enterMaintenance .station body) s = .next t ∧ StationAnswered s t .enterMaintenance .done []
            ∧ t.mode = { s.mode with mode := .maintenance, preparation := false }
            ∧ t.supervision = { state := .disarmed, timer := none, expiredAt := none }
            ∧ TrainStands s t ∧ BaysStand s t ∧ ReleaseStands s t ∧ t.platformFrame = s.platformFrame
            ∧ StationEvent s t)))
    ∧ (Admits .station .leaveMaintenance body s →
      (s.mode.mode = .service →
        exec (.leaveMaintenance .station body) s =
          .next (stationAnswer s RequestKind.leaveMaintenance.code .sequence []))
      ∧ (s.mode.mode = .maintenance → s.train.map = [] → BayCodesHandNothing s →
        ∃ t, exec (.leaveMaintenance .station body) s = .next t ∧ StationAnswered s t .leaveMaintenance .done []
          ∧ t.mode = { s.mode with mode := .service, preparation := false } ∧ t.supervision = s.supervision
          ∧ t.train = s.train ∧ t.platformFrame = s.platformFrame ∧ StationEvent s t
          ∧ ∀ b, (s.sliding b = false ∨ (s.bay b).phase = .closedLocked ∨ (s.bay b).phase = .isolated
                ∨ (s.bay b).phase = .faulted ∨ (s.bay b).phase = .released → (t.bay b).core = (s.bay b).core)
              ∧ (EntersFree s b → s.fire = false → (s.bay b).phase = .opened → s.platform.warningPeriod ≠ 0 →
                (t.bay b).phase = .warning ∧ (t.bay b).movement = .closes)))

/-- HALT brings the part to HALTED with cause REQUEST, and no SLIDING bay stays in a moving phase; in HALTED it changes nothing.
PREPARE_RESTART sets the preparation; RESTART is accepted with it and refused SEQUENCE without it, and clears it. -/
def Obligations.HaltAndRestartByRequest : Prop :=
  (∀ (body : List Byte) (s : State), Admits .station .halt body s →
      (s.mode.mode ≠ .halted →
        ∃ t, exec (.halt .station body) s = .next t ∧ StationAnswered s t .halt .done []
          ∧ t.mode = { s.mode with mode := .halted, haltCause := .request, preparation := false } ∧ HaltedLaw t
          ∧ t.proof.value = .notSecure ∧ t.supervision = s.supervision ∧ t.platformFrame = s.platformFrame
          ∧ t.release.latch = s.release.latch ∧ StationEvent s t)
      ∧ (s.mode.mode = .halted →
        ∃ t, exec (.halt .station body) s = .next t ∧ StationAnswered s t .halt .done []
          ∧ t.mode = { s.mode with preparation := false } ∧ BaysStand s t ∧ TrainStands s t ∧ ReleaseStands s t
          ∧ t.supervision = s.supervision ∧ t.platformFrame = s.platformFrame ∧ StationEvent s t))
  ∧ (∀ (body : List Byte) (s : State),
      (Admits .station .prepareRestart body s →
        exec (.prepareRestart .station body) s =
          .next { stationAnswer s RequestKind.prepareRestart.code .done [] with
            mode := { s.mode with preparation := true } })
      ∧ (Admits .station .restart body s → s.mode.preparation = true →
        exec (.restart .station body) s =
          .next (stationAnswer { s with mode := { s.mode with restartAccepted := true } } RequestKind.restart.code .done []))
      ∧ (Admits .station .restart body s → s.mode.preparation = false →
        exec (.restart .station body) s = .next (stationAnswer s RequestKind.restart.code .sequence [])))

/-! ### The configuration store -/

/-- The refusals of the owners: configuration writes and COMMIT are refused MODE outside MAINTENANCE and HALTED, GUARD while
frozen (WRITE_BAY also while the geometry mark is set, and first of all), BUSY during a commit; then RANGE for a field out of
range, of these and of every other request; then CONFLICT; and a BAY_COMMAND action that the mode does not admit is refused
MODE. -/
def Obligations.OwnerRefusalsComeInOrder : Prop :=
  ∀ (c : Instr) (l : Link) (k : RequestKind) (body : List Byte) (s : State), requestOf c = some (l, k, body) →
    Admits l k body s →
    (k = .writeBay → s.store.area.mark = true →
      exec c s = .next (stationAnswer (refusalRecorded s .station k.code .guarded) k.code .guarded []))
    ∧ (k.writesStore = true → k ≠ .writeBay ∨ s.store.area.mark = false →
      (s.mode.mode = .service →
        exec c s = .next (stationAnswer (refusalRecorded s .station k.code .mode) k.code .mode []))
      ∧ (s.mode.mode ≠ .service → s.store.frozen = true →
        exec c s = .next (stationAnswer (refusalRecorded s .station k.code .guarded) k.code .guarded []))
      ∧ (s.mode.mode ≠ .service → s.store.frozen = false →
        s.store.state = .committing ∨ s.store.state = .suspended →
        exec c s = .next (stationAnswer s k.code .busy []))
      ∧ (s.mode.mode ≠ .service → s.store.frozen = false → s.store.state ≠ .committing → s.store.state ≠ .suspended →
        (RangeFails k body → exec c s = .next (stationAnswer s k.code .range []))
        ∧ (∀ i p, k = .writeProfile → profileOperand body = some (i, p) → s.consistTaken i p.consist = true →
          exec c s = .next (stationAnswer s k.code .conflict []))
        ∧ (∀ i r, k = .writeResponse → responseOperand body = some (i, r) → i.val = 19 →
          exec c s = .next (stationAnswer s k.code .conflict []))
        ∧ (∀ n r, k = .writeLine → lineOperand body = some (n, r) → s.lineTaken n r = true ∨ s.endsSession n r = true →
          exec c s = .next (stationAnswer s k.code .conflict []))))
    ∧ (k.writesStore = false → RangeFails k body → exec c s = .next (answered l s k.code .range []))
    ∧ (∀ bays a, k = .bayCommand → bayCommandOperand body = some (bays, a) → a.admitted s.mode.mode = false →
      exec c s = .next (stationAnswer (refusalRecorded s .station k.code .mode) k.code .mode []))

/-- An accepted configuration write replaces its record in the working copy and sets the dirty flag, and nothing else in the
store; the reply is DONE. -/
def Obligations.ConfigurationWritesReplaceTheRecord : Prop :=
  ∀ (body : List Byte) (s : State), s.storeRefusal = none →
    (∀ i p, Admits .station .writeProfile body s → profileOperand body = some (i, p) →
      s.consistTaken i p.consist = false →
      ∃ t, exec (.writeProfile .station body) s = .next t ∧ StationAnswered s t .writeProfile .done []
        ∧ t.store = { s.store with
            dirty := true
            working := { s.store.working with profiles := s.store.working.profiles.set i.val p i.isLt } }
        ∧ WriteStands s t ∧ LinesStand s t)
    ∧ (∀ i, Admits .station .eraseProfile body s → eraseOperand body = some i →
      ∃ t, exec (.eraseProfile .station body) s = .next t ∧ StationAnswered s t .eraseProfile .done []
        ∧ t.store = { s.store with
            dirty := true
            working := { s.store.working with
              profiles := s.store.working.profiles.set i.val { s.store.working.profiles[i.val] with valid := false }
                i.isLt } }
        ∧ WriteStands s t ∧ LinesStand s t)
    ∧ (∀ i r, Admits .station .writeResponse body s → responseOperand body = some (i, r) → i.val ≠ 19 →
      ∃ t, exec (.writeResponse .station body) s = .next t ∧ StationAnswered s t .writeResponse .done []
        ∧ t.store = { s.store with
            dirty := true
            working := { s.store.working with responses := s.store.working.responses.set i.val r i.isLt } }
        ∧ WriteStands s t ∧ LinesStand s t)
    ∧ (∀ p, Admits .station .writePlatform body s → platformOperand body = some p →
      ∃ t, exec (.writePlatform .station body) s = .next t ∧ StationAnswered s t .writePlatform .done []
        ∧ t.store = { s.store with dirty := true, working := { s.store.working with platform := p } }
        ∧ Stands s t ∧ LinesStand s t ∧ (s.train.state ≠ .departing → WriteStands s t))
    ∧ (∀ n r, Admits .station .writeLine body s → lineOperand body = some (n, r) → s.lineTaken n r = false →
      s.endsSession n r = false →
      ∃ t, exec (.writeLine .station body) s = .next t ∧ StationAnswered s t .writeLine .done []
        ∧ t.store = { s.store with
            dirty := true
            working := { s.store.working with lines := s.store.working.lines.set n.val r n.isLt } }
        ∧ Stands s t ∧ t.signalling = s.signalling ∧ (∀ m, m ≠ n → t.line m = s.line m)
        ∧ ((s.lineRecord n).function ≠ r.function ∨ (s.lineRecord n).polarity ≠ r.polarity →
            (t.line n).line = { (s.line n).line with level := r.polarity.apply (s.line n).line.raw, candidate := none }
            ∧ (t.line n).changeLatch = false)
        ∧ ((s.lineRecord n).function = r.function → (s.lineRecord n).polarity = r.polarity → t.line n = s.line n))

/-- An accepted WRITE_BAY replaces the bay record; a kind that stays leaves every bay as it stood; a new kind starts the runtime
part of the bay again, in its derived phase or NOT_FITTED. An entry that breaks the geometry, or meets the aligned set or a
phase that does not admit it, is CONFLICT. -/
def Obligations.WriteBayReplacesTheRecord : Prop :=
  ∀ (body : List Byte) (s : State) (b : BayIx) (r : BayRecord), Admits .station .writeBay body s →
    s.store.area.mark = false → s.storeRefusal = none → bayOperand body = some (b, r) →
    (s.bayConflict b r = true →
      exec (.writeBay .station body) s = .next (stationAnswer s RequestKind.writeBay.code .conflict []))
    ∧ (s.bayConflict b r = false → s.fire = false → BayCodesHandNothing s → GapFresh s →
      ∃ t, exec (.writeBay .station body) s = .next t ∧ StationAnswered s t .writeBay .done []
        ∧ t.store = { s.store with
            dirty := true
            working := { s.store.working with bays := s.store.working.bays.set b.val r b.isLt } }
        ∧ (r.kind = s.kind b → WriteStands s t ∧ LinesStand s t)
        ∧ (r.kind ≠ s.kind b →
            (t.bay b).phase = derivedPhase r.kind (s.bay b).lines ∧ (t.bay b).movement = .none ∧ (t.bay b).retry = 0
            ∧ (t.bay b).reclose = 0 ∧ (t.bay b).hold = true ∧ (t.bay b).trace = (s.bay b).trace
            ∧ (t.bay b).gapStuck = false ∧ (t.bay b).curtainStuck = false
            ∧ ((s.bay b).phase = .faulted → (t.bay b).phase ≠ .faulted →
                (t.bay b).frame = { (s.bay b).frame with state := .cleared })
            ∧ Stands s t ∧ LinesStand s t ∧ OthersStand b s t))

/-- COMMIT begins to write from the first record with the completion mark cleared, or suspended while a suspending cause
stands; FREEZE_CONFIG sets the frozen flag; FIX_GEOMETRY, refused GUARD or BUSY first, copies the bay records to the one-time
area where the area verifies, and is REFUSED where it does not (a free value, log 12). That an area whose verify fails holds what it
held before is the model's choice (log 41); that the total is 69 at once is an inference (log 35). -/
def Obligations.CommitFreezeAndFixGeometry : Prop :=
  ∀ (body : List Byte) (s : State),
    (Admits .station .commit body s → s.storeRefusal = none →
      ∃ t, exec (.commit .station body) s = .next t
        ∧ StationAnswered s t .commit .done (be8 (if s.store.area.mark then 69 else 93))
        ∧ t.store = { s.store with
            state := if s.train.state ≠ .empty ∨ s.fire = true then .suspended else .committing
            total := if s.store.area.mark then 69 else 93
            written := 0
            stored := { s.store.stored with completion := false } }
        ∧ WriteStands s t ∧ LinesStand s t)
    ∧ (Admits .station .freezeConfig body s →
      exec (.freezeConfig .station body) s =
        .next (stationAnswer { s with store := { s.store with frozen := true } } RequestKind.freezeConfig.code .done []))
    ∧ (Admits .station .fixGeometry body s →
      (s.store.area.mark = true ∨ s.store.frozen = true →
        exec (.fixGeometry .station body) s =
          .next (stationAnswer (refusalRecorded s .station RequestKind.fixGeometry.code .guarded)
            RequestKind.fixGeometry.code .guarded []))
      ∧ (s.store.area.mark = false → s.store.frozen = false →
        (s.store.state = .committing ∨ s.store.state = .suspended →
          exec (.fixGeometry .station body) s = .next (stationAnswer s RequestKind.fixGeometry.code .busy []))
        ∧ (s.store.state ≠ .committing → s.store.state ≠ .suspended →
          (Config.areaVerifies s.freeCount = true →
            exec (.fixGeometry .station body) s =
              .next (stationAnswer
                { s with
                  freeCount := s.freeCount + 1
                  store := { s.store with
                    total := 69, area := { mark := true, bays := s.store.working.bays, sound := true } } }
                RequestKind.fixGeometry.code .done []))
          ∧ (Config.areaVerifies s.freeCount = false →
            exec (.fixGeometry .station body) s =
              .next (stationAnswer { s with freeCount := s.freeCount + 1 } RequestKind.fixGeometry.code .refused [])))))

/-! ### The proof -/

/-- The withheld set of the six conditions, the secure value by its table, and its laws, for every state in which the proof
unit's fields follow: SECURE only with every condition holding, BYPASSED only with the key in SERVICE with the fire latch clear
and supervision not EXPIRED. -/
def Obligations.SecureValueByItsTable : Prop :=
  ∀ s : State, ProofFollows s → s.mode.mode ≠ .starting →
    (s.proof.withheld =
      { mode := decide (s.mode.mode ≠ .service ∧ s.mode.mode ≠ .maintenance)
        fire := s.release.latch.isSome
        link := decide (s.supervision.state = .expired)
        bays := decide (∃ b, s.kind b ≠ .absent ∧ (s.bay b).phase ≠ .closedLocked
          ∧ ¬(s.kind b = .sliding ∧ (s.bay b).phase = .isolated ∧ (s.bay b).lines.closed.level = true
            ∧ (s.bay b).lines.locked.level = true))
        fault := decide (∃ b, (s.bay b).phase = .faulted)
        gap := decide (s.gap.result ≠ .none ∧ s.gap.result ≠ .clear) })
    ∧ (s.proof.value = .secure ↔
      (s.mode.mode = .service ∨ s.mode.mode = .maintenance) ∧ s.fire = false ∧ s.supervision.state ≠ .expired
        ∧ (∀ b, (s.bay b).phase ≠ .faulted) ∧ (s.gap.result = .none ∨ s.gap.result = .clear)
        ∧ ∀ b, s.kind b ≠ .absent → (s.bay b).phase = .closedLocked
            ∨ s.kind b = .sliding ∧ (s.bay b).phase = .isolated ∧ (s.bay b).lines.closed.level = true
                ∧ (s.bay b).lines.locked.level = true)
    ∧ (s.proof.value = .bypassed ↔
        s.proof.keyLevel = true ∧ s.mode.mode = .service ∧ s.fire = false ∧ s.supervision.state ≠ .expired
          ∧ ¬((∀ b, (s.bay b).phase ≠ .faulted) ∧ (s.gap.result = .none ∨ s.gap.result = .clear)
              ∧ ∀ b, s.kind b ≠ .absent → (s.bay b).phase = .closedLocked
                  ∨ s.kind b = .sliding ∧ (s.bay b).phase = .isolated ∧ (s.bay b).lines.closed.level = true
                      ∧ (s.bay b).lines.locked.level = true))
    ∧ (PinsFollow s → s.runs = true → ∀ n : LineIx, (s.lineRecord n).function = .secureOut →
        s.pins.lines[n.val] = some ((s.lineRecord n).polarity.apply
          (s.proof.value == .secure || s.proof.value == .bypassed)))

/-! ### Laws that every step keeps -/

/-- The pins follow the state after every step, and then no bay has both its drives energised, or one without UNLOCK, none is
driven in RELEASED, ISOLATED or FAULTED, and none in HALTED by the law of HALTED (which HaltedLawKept keeps); and the proof unit's
fields follow the state after every step. -/
def Obligations.PinsAndProofFollowEveryStep : Prop :=
  (∀ s t : State, PinsFollow s → step s = .next t →
      PinsFollow t ∧ DrivesApart t ∧ DrivesRest t ∧ (HaltedLaw t → DrivesHalted t))
  ∧ (∀ s t : State, ProofFollows s → step s = .next t → ProofFollows t)

/-- No step lets the event queue hold more than 64 records, or the release log more than 32; every step keeps the law of the
maintenance mode, the absence of the completion mark during a commit, and the law of RESET_N; and every step obeys the law of the
store (spec/09 R165). -/
def Obligations.BoundsAndStandingLawsKept : Prop :=
  (∀ s t : State, Bounded s → step s = .next t → Bounded t)
  ∧ (∀ s t : State, step s = .next t →
      (MaintenanceLaw s → MaintenanceLaw t) ∧ (CommitMarkLaw s → CommitMarkLaw t) ∧ (SupplyLaw s → SupplyLaw t)
        ∧ StoreLaw s t)

/-- Every step keeps the opening map law, the phase of every bay one of its kind, and the law of the fault frames. -/
def Obligations.PhaseAndMapLawsKept : Prop :=
  ∀ s t : State, step s = .next t → (MapLaw s → MapLaw t) ∧ (PhaseLaw s → PhaseLaw t) ∧ (FrameLaw s → FrameLaw t)

/-- While the fire latch is set no SLIDING bay is in WARNING, CLOSING or REOPENING, and every step keeps it so. -/
def Obligations.FireLawKept : Prop :=
  ∀ s t : State, FireLaw s → step s = .next t → FireLaw t

/-- In HALTED no SLIDING bay is in a moving phase, and every step keeps it so; with pins that follow the state no drive is then
energised in HALTED. -/
def Obligations.HaltedLawKept : Prop :=
  ∀ s t : State, HaltedLaw s → step s = .next t → HaltedLaw t ∧ (PinsFollow s → DrivesHalted t)

/-- The gap result is what its table gives for the state that stands, and every step keeps it so. -/
def Obligations.GapLawKept : Prop :=
  ∀ s t : State, GapLaw s → step s = .next t → GapLaw t

/-- The state after reset meets every law. -/
def Obligations.ResetMeetsTheLaws : Prop :=
  PinsFollow State.reset ∧ DrivesApart State.reset ∧ ProofFollows State.reset ∧ Bounded State.reset
    ∧ DrivesRest State.reset ∧ DrivesHalted State.reset ∧ MaintenanceLaw State.reset ∧ CommitMarkLaw State.reset
    ∧ SupplyLaw State.reset ∧ PhaseLaw State.reset ∧ FireLaw State.reset ∧ HaltedLaw State.reset ∧ GapLaw State.reset
    ∧ FrameLaw State.reset
end

