-- ==== Sys2Proof/Laws/State.lean ====
section
/-! SUPPORT. What each named update of the state leaves as it was, one lemma per field, so that no proof unfolds a record
update; and what is read back after it. -/

namespace Sys2Proof.Machine

/-! ### Replacing one bay -/

@[simp] theorem State.setBay_power (s : State) (b : BayIx) (x : Bay) : (s.setBay b x).power = s.power := rfl
@[simp] theorem State.setBay_uptime (s : State) (b : BayIx) (x : Bay) : (s.setBay b x).uptime = s.uptime := rfl
@[simp] theorem State.setBay_mode (s : State) (b : BayIx) (x : Bay) : (s.setBay b x).mode = s.mode := rfl
@[simp] theorem State.setBay_lines (s : State) (b : BayIx) (x : Bay) : (s.setBay b x).lines = s.lines := rfl
@[simp] theorem State.setBay_gap (s : State) (b : BayIx) (x : Bay) : (s.setBay b x).gap = s.gap := rfl
@[simp] theorem State.setBay_train (s : State) (b : BayIx) (x : Bay) : (s.setBay b x).train = s.train := rfl
@[simp] theorem State.setBay_proof (s : State) (b : BayIx) (x : Bay) : (s.setBay b x).proof = s.proof := rfl
@[simp] theorem State.setBay_release (s : State) (b : BayIx) (x : Bay) : (s.setBay b x).release = s.release := rfl
@[simp] theorem State.setBay_supervision (s : State) (b : BayIx) (x : Bay) : (s.setBay b x).supervision = s.supervision := rfl
@[simp] theorem State.setBay_platformFrame (s : State) (b : BayIx) (x : Bay) : (s.setBay b x).platformFrame = s.platformFrame := rfl
@[simp] theorem State.setBay_store (s : State) (b : BayIx) (x : Bay) : (s.setBay b x).store = s.store := rfl
@[simp] theorem State.setBay_station (s : State) (b : BayIx) (x : Bay) : (s.setBay b x).station = s.station := rfl
@[simp] theorem State.setBay_signalling (s : State) (b : BayIx) (x : Bay) : (s.setBay b x).signalling = s.signalling := rfl
@[simp] theorem State.setBay_events (s : State) (b : BayIx) (x : Bay) : (s.setBay b x).events = s.events := rfl
@[simp] theorem State.setBay_pins (s : State) (b : BayIx) (x : Bay) : (s.setBay b x).pins = s.pins := rfl
@[simp] theorem State.setBay_stalled (s : State) (b : BayIx) (x : Bay) : (s.setBay b x).stalled = s.stalled := rfl
@[simp] theorem State.setBay_freeCount (s : State) (b : BayIx) (x : Bay) : (s.setBay b x).freeCount = s.freeCount := rfl
@[simp] theorem State.setBay_pending (s : State) (b : BayIx) (x : Bay) : (s.setBay b x).pending = s.pending := rfl
@[simp] theorem State.setBay_platform (s : State) (b : BayIx) (x : Bay) : (s.setBay b x).platform = s.platform := rfl
@[simp] theorem State.setBay_runs (s : State) (b : BayIx) (x : Bay) : (s.setBay b x).runs = s.runs := rfl
@[simp] theorem State.setBay_active (s : State) (b : BayIx) (x : Bay) : (s.setBay b x).active = s.active := rfl
@[simp] theorem State.setBay_fire (s : State) (b : BayIx) (x : Bay) : (s.setBay b x).fire = s.fire := rfl
@[simp] theorem State.setBay_bayRecord (s : State) (b : BayIx) (x : Bay) (c : BayIx) : (s.setBay b x).bayRecord c = s.bayRecord c := rfl
@[simp] theorem State.setBay_kind (s : State) (b : BayIx) (x : Bay) (c : BayIx) : (s.setBay b x).kind c = s.kind c := rfl
@[simp] theorem State.setBay_sliding (s : State) (b : BayIx) (x : Bay) (c : BayIx) : (s.setBay b x).sliding c = s.sliding c := rfl
@[simp] theorem State.setBay_lineRecord (s : State) (b : BayIx) (x : Bay) (m : LineIx) : (s.setBay b x).lineRecord m = s.lineRecord m := rfl
@[simp] theorem State.setBay_response (s : State) (b : BayIx) (x : Bay) (c : FaultCode) : (s.setBay b x).response c = s.response c := rfl
@[simp] theorem State.setBay_isMember (s : State) (b : BayIx) (x : Bay) (c : BayIx) : (s.setBay b x).isMember c = s.isMember c := rfl
@[simp] theorem State.setBay_line (s : State) (b : BayIx) (x : Bay) (m : LineIx) : (s.setBay b x).line m = s.line m := rfl

/-! ### Replacing one general line -/

@[simp] theorem State.setLine_power (s : State) (n : LineIx) (x : GeneralLine) : (s.setLine n x).power = s.power := rfl
@[simp] theorem State.setLine_uptime (s : State) (n : LineIx) (x : GeneralLine) : (s.setLine n x).uptime = s.uptime := rfl
@[simp] theorem State.setLine_mode (s : State) (n : LineIx) (x : GeneralLine) : (s.setLine n x).mode = s.mode := rfl
@[simp] theorem State.setLine_bays (s : State) (n : LineIx) (x : GeneralLine) : (s.setLine n x).bays = s.bays := rfl
@[simp] theorem State.setLine_gap (s : State) (n : LineIx) (x : GeneralLine) : (s.setLine n x).gap = s.gap := rfl
@[simp] theorem State.setLine_train (s : State) (n : LineIx) (x : GeneralLine) : (s.setLine n x).train = s.train := rfl
@[simp] theorem State.setLine_proof (s : State) (n : LineIx) (x : GeneralLine) : (s.setLine n x).proof = s.proof := rfl
@[simp] theorem State.setLine_release (s : State) (n : LineIx) (x : GeneralLine) : (s.setLine n x).release = s.release := rfl
@[simp] theorem State.setLine_supervision (s : State) (n : LineIx) (x : GeneralLine) : (s.setLine n x).supervision = s.supervision := rfl
@[simp] theorem State.setLine_platformFrame (s : State) (n : LineIx) (x : GeneralLine) : (s.setLine n x).platformFrame = s.platformFrame := rfl
@[simp] theorem State.setLine_store (s : State) (n : LineIx) (x : GeneralLine) : (s.setLine n x).store = s.store := rfl
@[simp] theorem State.setLine_station (s : State) (n : LineIx) (x : GeneralLine) : (s.setLine n x).station = s.station := rfl
@[simp] theorem State.setLine_signalling (s : State) (n : LineIx) (x : GeneralLine) : (s.setLine n x).signalling = s.signalling := rfl
@[simp] theorem State.setLine_events (s : State) (n : LineIx) (x : GeneralLine) : (s.setLine n x).events = s.events := rfl
@[simp] theorem State.setLine_pins (s : State) (n : LineIx) (x : GeneralLine) : (s.setLine n x).pins = s.pins := rfl
@[simp] theorem State.setLine_stalled (s : State) (n : LineIx) (x : GeneralLine) : (s.setLine n x).stalled = s.stalled := rfl
@[simp] theorem State.setLine_freeCount (s : State) (n : LineIx) (x : GeneralLine) : (s.setLine n x).freeCount = s.freeCount := rfl
@[simp] theorem State.setLine_pending (s : State) (n : LineIx) (x : GeneralLine) : (s.setLine n x).pending = s.pending := rfl
@[simp] theorem State.setLine_platform (s : State) (n : LineIx) (x : GeneralLine) : (s.setLine n x).platform = s.platform := rfl
@[simp] theorem State.setLine_runs (s : State) (n : LineIx) (x : GeneralLine) : (s.setLine n x).runs = s.runs := rfl
@[simp] theorem State.setLine_active (s : State) (n : LineIx) (x : GeneralLine) : (s.setLine n x).active = s.active := rfl
@[simp] theorem State.setLine_fire (s : State) (n : LineIx) (x : GeneralLine) : (s.setLine n x).fire = s.fire := rfl
@[simp] theorem State.setLine_bayRecord (s : State) (n : LineIx) (x : GeneralLine) (c : BayIx) : (s.setLine n x).bayRecord c = s.bayRecord c := rfl
@[simp] theorem State.setLine_kind (s : State) (n : LineIx) (x : GeneralLine) (c : BayIx) : (s.setLine n x).kind c = s.kind c := rfl
@[simp] theorem State.setLine_sliding (s : State) (n : LineIx) (x : GeneralLine) (c : BayIx) : (s.setLine n x).sliding c = s.sliding c := rfl
@[simp] theorem State.setLine_lineRecord (s : State) (n : LineIx) (x : GeneralLine) (m : LineIx) : (s.setLine n x).lineRecord m = s.lineRecord m := rfl
@[simp] theorem State.setLine_response (s : State) (n : LineIx) (x : GeneralLine) (c : FaultCode) : (s.setLine n x).response c = s.response c := rfl
@[simp] theorem State.setLine_isMember (s : State) (n : LineIx) (x : GeneralLine) (c : BayIx) : (s.setLine n x).isMember c = s.isMember c := rfl
@[simp] theorem State.setLine_bay (s : State) (n : LineIx) (x : GeneralLine) (c : BayIx) : (s.setLine n x).bay c = s.bay c := rfl

/-! ### Replacing the frame of one bay -/

@[simp] theorem State.setFrame_power (s : State) (b : BayIx) (f : Frame) : (s.setFrame b f).power = s.power := rfl
@[simp] theorem State.setFrame_uptime (s : State) (b : BayIx) (f : Frame) : (s.setFrame b f).uptime = s.uptime := rfl
@[simp] theorem State.setFrame_mode (s : State) (b : BayIx) (f : Frame) : (s.setFrame b f).mode = s.mode := rfl
@[simp] theorem State.setFrame_lines (s : State) (b : BayIx) (f : Frame) : (s.setFrame b f).lines = s.lines := rfl
@[simp] theorem State.setFrame_gap (s : State) (b : BayIx) (f : Frame) : (s.setFrame b f).gap = s.gap := rfl
@[simp] theorem State.setFrame_train (s : State) (b : BayIx) (f : Frame) : (s.setFrame b f).train = s.train := rfl
@[simp] theorem State.setFrame_proof (s : State) (b : BayIx) (f : Frame) : (s.setFrame b f).proof = s.proof := rfl
@[simp] theorem State.setFrame_release (s : State) (b : BayIx) (f : Frame) : (s.setFrame b f).release = s.release := rfl
@[simp] theorem State.setFrame_supervision (s : State) (b : BayIx) (f : Frame) : (s.setFrame b f).supervision = s.supervision := rfl
@[simp] theorem State.setFrame_platformFrame (s : State) (b : BayIx) (f : Frame) : (s.setFrame b f).platformFrame = s.platformFrame := rfl
@[simp] theorem State.setFrame_store (s : State) (b : BayIx) (f : Frame) : (s.setFrame b f).store = s.store := rfl
@[simp] theorem State.setFrame_station (s : State) (b : BayIx) (f : Frame) : (s.setFrame b f).station = s.station := rfl
@[simp] theorem State.setFrame_signalling (s : State) (b : BayIx) (f : Frame) : (s.setFrame b f).signalling = s.signalling := rfl
@[simp] theorem State.setFrame_events (s : State) (b : BayIx) (f : Frame) : (s.setFrame b f).events = s.events := rfl
@[simp] theorem State.setFrame_pins (s : State) (b : BayIx) (f : Frame) : (s.setFrame b f).pins = s.pins := rfl
@[simp] theorem State.setFrame_stalled (s : State) (b : BayIx) (f : Frame) : (s.setFrame b f).stalled = s.stalled := rfl
@[simp] theorem State.setFrame_freeCount (s : State) (b : BayIx) (f : Frame) : (s.setFrame b f).freeCount = s.freeCount := rfl
@[simp] theorem State.setFrame_pending (s : State) (b : BayIx) (f : Frame) : (s.setFrame b f).pending = s.pending := rfl
@[simp] theorem State.setFrame_platform (s : State) (b : BayIx) (f : Frame) : (s.setFrame b f).platform = s.platform := rfl
@[simp] theorem State.setFrame_runs (s : State) (b : BayIx) (f : Frame) : (s.setFrame b f).runs = s.runs := rfl
@[simp] theorem State.setFrame_active (s : State) (b : BayIx) (f : Frame) : (s.setFrame b f).active = s.active := rfl
@[simp] theorem State.setFrame_fire (s : State) (b : BayIx) (f : Frame) : (s.setFrame b f).fire = s.fire := rfl
@[simp] theorem State.setFrame_bayRecord (s : State) (b : BayIx) (f : Frame) (c : BayIx) : (s.setFrame b f).bayRecord c = s.bayRecord c := rfl
@[simp] theorem State.setFrame_kind (s : State) (b : BayIx) (f : Frame) (c : BayIx) : (s.setFrame b f).kind c = s.kind c := rfl
@[simp] theorem State.setFrame_sliding (s : State) (b : BayIx) (f : Frame) (c : BayIx) : (s.setFrame b f).sliding c = s.sliding c := rfl
@[simp] theorem State.setFrame_lineRecord (s : State) (b : BayIx) (f : Frame) (m : LineIx) : (s.setFrame b f).lineRecord m = s.lineRecord m := rfl
@[simp] theorem State.setFrame_response (s : State) (b : BayIx) (f : Frame) (c : FaultCode) : (s.setFrame b f).response c = s.response c := rfl
@[simp] theorem State.setFrame_isMember (s : State) (b : BayIx) (f : Frame) (c : BayIx) : (s.setFrame b f).isMember c = s.isMember c := rfl
@[simp] theorem State.setFrame_line (s : State) (b : BayIx) (f : Frame) (m : LineIx) : (s.setFrame b f).line m = s.line m := rfl

/-! ### Posting an event -/

@[simp] theorem State.post_power (s : State) (k : EventKind) (b : Option BayIx) (v : Nat) : (s.post k b v).power = s.power := rfl
@[simp] theorem State.post_uptime (s : State) (k : EventKind) (b : Option BayIx) (v : Nat) : (s.post k b v).uptime = s.uptime := rfl
@[simp] theorem State.post_mode (s : State) (k : EventKind) (b : Option BayIx) (v : Nat) : (s.post k b v).mode = s.mode := rfl
@[simp] theorem State.post_bays (s : State) (k : EventKind) (b : Option BayIx) (v : Nat) : (s.post k b v).bays = s.bays := rfl
@[simp] theorem State.post_lines (s : State) (k : EventKind) (b : Option BayIx) (v : Nat) : (s.post k b v).lines = s.lines := rfl
@[simp] theorem State.post_gap (s : State) (k : EventKind) (b : Option BayIx) (v : Nat) : (s.post k b v).gap = s.gap := rfl
@[simp] theorem State.post_train (s : State) (k : EventKind) (b : Option BayIx) (v : Nat) : (s.post k b v).train = s.train := rfl
@[simp] theorem State.post_proof (s : State) (k : EventKind) (b : Option BayIx) (v : Nat) : (s.post k b v).proof = s.proof := rfl
@[simp] theorem State.post_release (s : State) (k : EventKind) (b : Option BayIx) (v : Nat) : (s.post k b v).release = s.release := rfl
@[simp] theorem State.post_supervision (s : State) (k : EventKind) (b : Option BayIx) (v : Nat) : (s.post k b v).supervision = s.supervision := rfl
@[simp] theorem State.post_platformFrame (s : State) (k : EventKind) (b : Option BayIx) (v : Nat) : (s.post k b v).platformFrame = s.platformFrame := rfl
@[simp] theorem State.post_store (s : State) (k : EventKind) (b : Option BayIx) (v : Nat) : (s.post k b v).store = s.store := rfl
@[simp] theorem State.post_station (s : State) (k : EventKind) (b : Option BayIx) (v : Nat) : (s.post k b v).station = s.station := rfl
@[simp] theorem State.post_signalling (s : State) (k : EventKind) (b : Option BayIx) (v : Nat) : (s.post k b v).signalling = s.signalling := rfl
@[simp] theorem State.post_pins (s : State) (k : EventKind) (b : Option BayIx) (v : Nat) : (s.post k b v).pins = s.pins := rfl
@[simp] theorem State.post_stalled (s : State) (k : EventKind) (b : Option BayIx) (v : Nat) : (s.post k b v).stalled = s.stalled := rfl
@[simp] theorem State.post_freeCount (s : State) (k : EventKind) (b : Option BayIx) (v : Nat) : (s.post k b v).freeCount = s.freeCount := rfl
@[simp] theorem State.post_pending (s : State) (k : EventKind) (b : Option BayIx) (v : Nat) : (s.post k b v).pending = s.pending := rfl
@[simp] theorem State.post_platform (s : State) (k : EventKind) (b : Option BayIx) (v : Nat) : (s.post k b v).platform = s.platform := rfl
@[simp] theorem State.post_runs (s : State) (k : EventKind) (b : Option BayIx) (v : Nat) : (s.post k b v).runs = s.runs := rfl
@[simp] theorem State.post_active (s : State) (k : EventKind) (b : Option BayIx) (v : Nat) : (s.post k b v).active = s.active := rfl
@[simp] theorem State.post_fire (s : State) (k : EventKind) (b : Option BayIx) (v : Nat) : (s.post k b v).fire = s.fire := rfl
@[simp] theorem State.post_bayRecord (s : State) (k : EventKind) (b : Option BayIx) (v : Nat) (c : BayIx) : (s.post k b v).bayRecord c = s.bayRecord c := rfl
@[simp] theorem State.post_kind (s : State) (k : EventKind) (b : Option BayIx) (v : Nat) (c : BayIx) : (s.post k b v).kind c = s.kind c := rfl
@[simp] theorem State.post_sliding (s : State) (k : EventKind) (b : Option BayIx) (v : Nat) (c : BayIx) : (s.post k b v).sliding c = s.sliding c := rfl
@[simp] theorem State.post_lineRecord (s : State) (k : EventKind) (b : Option BayIx) (v : Nat) (m : LineIx) : (s.post k b v).lineRecord m = s.lineRecord m := rfl
@[simp] theorem State.post_response (s : State) (k : EventKind) (b : Option BayIx) (v : Nat) (c : FaultCode) : (s.post k b v).response c = s.response c := rfl
@[simp] theorem State.post_isMember (s : State) (k : EventKind) (b : Option BayIx) (v : Nat) (c : BayIx) : (s.post k b v).isMember c = s.isMember c := rfl
@[simp] theorem State.post_bay (s : State) (k : EventKind) (b : Option BayIx) (v : Nat) (c : BayIx) : (s.post k b v).bay c = s.bay c := rfl
@[simp] theorem State.post_line (s : State) (k : EventKind) (b : Option BayIx) (v : Nat) (m : LineIx) : (s.post k b v).line m = s.line m := rfl

/-! ### Posting FAULT_TAKEN -/

@[simp] theorem State.postTaken_power (s : State) (b : Option BayIx) (c : FaultCode) (a : FaultAnswer) : (s.postTaken b c a).power = s.power := rfl
@[simp] theorem State.postTaken_uptime (s : State) (b : Option BayIx) (c : FaultCode) (a : FaultAnswer) : (s.postTaken b c a).uptime = s.uptime := rfl
@[simp] theorem State.postTaken_mode (s : State) (b : Option BayIx) (c : FaultCode) (a : FaultAnswer) : (s.postTaken b c a).mode = s.mode := rfl
@[simp] theorem State.postTaken_bays (s : State) (b : Option BayIx) (c : FaultCode) (a : FaultAnswer) : (s.postTaken b c a).bays = s.bays := rfl
@[simp] theorem State.postTaken_lines (s : State) (b : Option BayIx) (c : FaultCode) (a : FaultAnswer) : (s.postTaken b c a).lines = s.lines := rfl
@[simp] theorem State.postTaken_gap (s : State) (b : Option BayIx) (c : FaultCode) (a : FaultAnswer) : (s.postTaken b c a).gap = s.gap := rfl
@[simp] theorem State.postTaken_train (s : State) (b : Option BayIx) (c : FaultCode) (a : FaultAnswer) : (s.postTaken b c a).train = s.train := rfl
@[simp] theorem State.postTaken_proof (s : State) (b : Option BayIx) (c : FaultCode) (a : FaultAnswer) : (s.postTaken b c a).proof = s.proof := rfl
@[simp] theorem State.postTaken_release (s : State) (b : Option BayIx) (c : FaultCode) (a : FaultAnswer) : (s.postTaken b c a).release = s.release := rfl
@[simp] theorem State.postTaken_supervision (s : State) (b : Option BayIx) (c : FaultCode) (a : FaultAnswer) : (s.postTaken b c a).supervision = s.supervision := rfl
@[simp] theorem State.postTaken_platformFrame (s : State) (b : Option BayIx) (c : FaultCode) (a : FaultAnswer) : (s.postTaken b c a).platformFrame = s.platformFrame := rfl
@[simp] theorem State.postTaken_store (s : State) (b : Option BayIx) (c : FaultCode) (a : FaultAnswer) : (s.postTaken b c a).store = s.store := rfl
@[simp] theorem State.postTaken_station (s : State) (b : Option BayIx) (c : FaultCode) (a : FaultAnswer) : (s.postTaken b c a).station = s.station := rfl
@[simp] theorem State.postTaken_signalling (s : State) (b : Option BayIx) (c : FaultCode) (a : FaultAnswer) : (s.postTaken b c a).signalling = s.signalling := rfl
@[simp] theorem State.postTaken_pins (s : State) (b : Option BayIx) (c : FaultCode) (a : FaultAnswer) : (s.postTaken b c a).pins = s.pins := rfl
@[simp] theorem State.postTaken_stalled (s : State) (b : Option BayIx) (c : FaultCode) (a : FaultAnswer) : (s.postTaken b c a).stalled = s.stalled := rfl
@[simp] theorem State.postTaken_freeCount (s : State) (b : Option BayIx) (c : FaultCode) (a : FaultAnswer) : (s.postTaken b c a).freeCount = s.freeCount := rfl
@[simp] theorem State.postTaken_pending (s : State) (b : Option BayIx) (c : FaultCode) (a : FaultAnswer) : (s.postTaken b c a).pending = s.pending := rfl
@[simp] theorem State.postTaken_platform (s : State) (b : Option BayIx) (c : FaultCode) (a : FaultAnswer) : (s.postTaken b c a).platform = s.platform := rfl
@[simp] theorem State.postTaken_runs (s : State) (b : Option BayIx) (c : FaultCode) (a : FaultAnswer) : (s.postTaken b c a).runs = s.runs := rfl
@[simp] theorem State.postTaken_active (s : State) (b : Option BayIx) (c : FaultCode) (a : FaultAnswer) : (s.postTaken b c a).active = s.active := rfl
@[simp] theorem State.postTaken_fire (s : State) (b : Option BayIx) (c : FaultCode) (a : FaultAnswer) : (s.postTaken b c a).fire = s.fire := rfl
@[simp] theorem State.postTaken_bayRecord (s : State) (b : Option BayIx) (c : FaultCode) (a : FaultAnswer) (d : BayIx) : (s.postTaken b c a).bayRecord d = s.bayRecord d := rfl
@[simp] theorem State.postTaken_kind (s : State) (b : Option BayIx) (c : FaultCode) (a : FaultAnswer) (d : BayIx) : (s.postTaken b c a).kind d = s.kind d := rfl
@[simp] theorem State.postTaken_sliding (s : State) (b : Option BayIx) (c : FaultCode) (a : FaultAnswer) (d : BayIx) : (s.postTaken b c a).sliding d = s.sliding d := rfl
@[simp] theorem State.postTaken_lineRecord (s : State) (b : Option BayIx) (c : FaultCode) (a : FaultAnswer) (m : LineIx) : (s.postTaken b c a).lineRecord m = s.lineRecord m := rfl
@[simp] theorem State.postTaken_response (s : State) (b : Option BayIx) (c : FaultCode) (a : FaultAnswer) (d : FaultCode) : (s.postTaken b c a).response d = s.response d := rfl
@[simp] theorem State.postTaken_isMember (s : State) (b : Option BayIx) (c : FaultCode) (a : FaultAnswer) (d : BayIx) : (s.postTaken b c a).isMember d = s.isMember d := rfl
@[simp] theorem State.postTaken_bay (s : State) (b : Option BayIx) (c : FaultCode) (a : FaultAnswer) (d : BayIx) : (s.postTaken b c a).bay d = s.bay d := rfl
@[simp] theorem State.postTaken_line (s : State) (b : Option BayIx) (c : FaultCode) (a : FaultAnswer) (m : LineIx) : (s.postTaken b c a).line m = s.line m := rfl

/-! ### A mode change -/

@[simp] theorem State.changeMode_power (s : State) (m : Mode) : (s.changeMode m).power = s.power := rfl
@[simp] theorem State.changeMode_uptime (s : State) (m : Mode) : (s.changeMode m).uptime = s.uptime := rfl
@[simp] theorem State.changeMode_bays (s : State) (m : Mode) : (s.changeMode m).bays = s.bays := rfl
@[simp] theorem State.changeMode_lines (s : State) (m : Mode) : (s.changeMode m).lines = s.lines := rfl
@[simp] theorem State.changeMode_gap (s : State) (m : Mode) : (s.changeMode m).gap = s.gap := rfl
@[simp] theorem State.changeMode_train (s : State) (m : Mode) : (s.changeMode m).train = s.train := rfl
@[simp] theorem State.changeMode_proof (s : State) (m : Mode) : (s.changeMode m).proof = s.proof := rfl
@[simp] theorem State.changeMode_release (s : State) (m : Mode) : (s.changeMode m).release = s.release := rfl
@[simp] theorem State.changeMode_supervision (s : State) (m : Mode) : (s.changeMode m).supervision = s.supervision := rfl
@[simp] theorem State.changeMode_platformFrame (s : State) (m : Mode) : (s.changeMode m).platformFrame = s.platformFrame := rfl
@[simp] theorem State.changeMode_store (s : State) (m : Mode) : (s.changeMode m).store = s.store := rfl
@[simp] theorem State.changeMode_station (s : State) (m : Mode) : (s.changeMode m).station = s.station := rfl
@[simp] theorem State.changeMode_signalling (s : State) (m : Mode) : (s.changeMode m).signalling = s.signalling := rfl
@[simp] theorem State.changeMode_pins (s : State) (m : Mode) : (s.changeMode m).pins = s.pins := rfl
@[simp] theorem State.changeMode_stalled (s : State) (m : Mode) : (s.changeMode m).stalled = s.stalled := rfl
@[simp] theorem State.changeMode_freeCount (s : State) (m : Mode) : (s.changeMode m).freeCount = s.freeCount := rfl
@[simp] theorem State.changeMode_pending (s : State) (m : Mode) : (s.changeMode m).pending = s.pending := rfl
@[simp] theorem State.changeMode_platform (s : State) (m : Mode) : (s.changeMode m).platform = s.platform := rfl
@[simp] theorem State.changeMode_runs (s : State) (m : Mode) : (s.changeMode m).runs = s.runs := rfl
@[simp] theorem State.changeMode_fire (s : State) (m : Mode) : (s.changeMode m).fire = s.fire := rfl
@[simp] theorem State.changeMode_bayRecord (s : State) (m : Mode) (c : BayIx) : (s.changeMode m).bayRecord c = s.bayRecord c := rfl
@[simp] theorem State.changeMode_kind (s : State) (m : Mode) (c : BayIx) : (s.changeMode m).kind c = s.kind c := rfl
@[simp] theorem State.changeMode_sliding (s : State) (m : Mode) (c : BayIx) : (s.changeMode m).sliding c = s.sliding c := rfl
@[simp] theorem State.changeMode_lineRecord (s : State) (m : Mode) (n : LineIx) : (s.changeMode m).lineRecord n = s.lineRecord n := rfl
@[simp] theorem State.changeMode_response (s : State) (m : Mode) (c : FaultCode) : (s.changeMode m).response c = s.response c := rfl
@[simp] theorem State.changeMode_isMember (s : State) (m : Mode) (c : BayIx) : (s.changeMode m).isMember c = s.isMember c := rfl
@[simp] theorem State.changeMode_bay (s : State) (m : Mode) (c : BayIx) : (s.changeMode m).bay c = s.bay c := rfl
@[simp] theorem State.changeMode_line (s : State) (m : Mode) (n : LineIx) : (s.changeMode m).line n = s.line n := rfl

/-! ### A configuration write -/

@[simp] theorem State.setWorking_power (s : State) (w : Records) : (s.setWorking w).power = s.power := rfl
@[simp] theorem State.setWorking_uptime (s : State) (w : Records) : (s.setWorking w).uptime = s.uptime := rfl
@[simp] theorem State.setWorking_mode (s : State) (w : Records) : (s.setWorking w).mode = s.mode := rfl
@[simp] theorem State.setWorking_bays (s : State) (w : Records) : (s.setWorking w).bays = s.bays := rfl
@[simp] theorem State.setWorking_lines (s : State) (w : Records) : (s.setWorking w).lines = s.lines := rfl
@[simp] theorem State.setWorking_gap (s : State) (w : Records) : (s.setWorking w).gap = s.gap := rfl
@[simp] theorem State.setWorking_train (s : State) (w : Records) : (s.setWorking w).train = s.train := rfl
@[simp] theorem State.setWorking_proof (s : State) (w : Records) : (s.setWorking w).proof = s.proof := rfl
@[simp] theorem State.setWorking_release (s : State) (w : Records) : (s.setWorking w).release = s.release := rfl
@[simp] theorem State.setWorking_supervision (s : State) (w : Records) : (s.setWorking w).supervision = s.supervision := rfl
@[simp] theorem State.setWorking_platformFrame (s : State) (w : Records) : (s.setWorking w).platformFrame = s.platformFrame := rfl
@[simp] theorem State.setWorking_station (s : State) (w : Records) : (s.setWorking w).station = s.station := rfl
@[simp] theorem State.setWorking_signalling (s : State) (w : Records) : (s.setWorking w).signalling = s.signalling := rfl
@[simp] theorem State.setWorking_events (s : State) (w : Records) : (s.setWorking w).events = s.events := rfl
@[simp] theorem State.setWorking_pins (s : State) (w : Records) : (s.setWorking w).pins = s.pins := rfl
@[simp] theorem State.setWorking_stalled (s : State) (w : Records) : (s.setWorking w).stalled = s.stalled := rfl
@[simp] theorem State.setWorking_freeCount (s : State) (w : Records) : (s.setWorking w).freeCount = s.freeCount := rfl
@[simp] theorem State.setWorking_pending (s : State) (w : Records) : (s.setWorking w).pending = s.pending := rfl
@[simp] theorem State.setWorking_runs (s : State) (w : Records) : (s.setWorking w).runs = s.runs := rfl
@[simp] theorem State.setWorking_active (s : State) (w : Records) : (s.setWorking w).active = s.active := rfl
@[simp] theorem State.setWorking_fire (s : State) (w : Records) : (s.setWorking w).fire = s.fire := rfl
@[simp] theorem State.setWorking_isMember (s : State) (w : Records) (c : BayIx) : (s.setWorking w).isMember c = s.isMember c := rfl
@[simp] theorem State.setWorking_bay (s : State) (w : Records) (c : BayIx) : (s.setWorking w).bay c = s.bay c := rfl
@[simp] theorem State.setWorking_line (s : State) (w : Records) (m : LineIx) : (s.setWorking w).line m = s.line m := rfl

/-! ### Forming the alarm -/

@[simp] theorem State.formAlarm_power (s : State) : s.formAlarm.power = s.power := rfl
@[simp] theorem State.formAlarm_uptime (s : State) : s.formAlarm.uptime = s.uptime := rfl
@[simp] theorem State.formAlarm_mode (s : State) : s.formAlarm.mode = s.mode := rfl
@[simp] theorem State.formAlarm_bays (s : State) : s.formAlarm.bays = s.bays := rfl
@[simp] theorem State.formAlarm_lines (s : State) : s.formAlarm.lines = s.lines := rfl
@[simp] theorem State.formAlarm_gap (s : State) : s.formAlarm.gap = s.gap := rfl
@[simp] theorem State.formAlarm_train (s : State) : s.formAlarm.train = s.train := rfl
@[simp] theorem State.formAlarm_proof (s : State) : s.formAlarm.proof = s.proof := rfl
@[simp] theorem State.formAlarm_supervision (s : State) : s.formAlarm.supervision = s.supervision := rfl
@[simp] theorem State.formAlarm_platformFrame (s : State) : s.formAlarm.platformFrame = s.platformFrame := rfl
@[simp] theorem State.formAlarm_store (s : State) : s.formAlarm.store = s.store := rfl
@[simp] theorem State.formAlarm_station (s : State) : s.formAlarm.station = s.station := rfl
@[simp] theorem State.formAlarm_signalling (s : State) : s.formAlarm.signalling = s.signalling := rfl
@[simp] theorem State.formAlarm_events (s : State) : s.formAlarm.events = s.events := rfl
@[simp] theorem State.formAlarm_pins (s : State) : s.formAlarm.pins = s.pins := rfl
@[simp] theorem State.formAlarm_stalled (s : State) : s.formAlarm.stalled = s.stalled := rfl
@[simp] theorem State.formAlarm_freeCount (s : State) : s.formAlarm.freeCount = s.freeCount := rfl
@[simp] theorem State.formAlarm_pending (s : State) : s.formAlarm.pending = s.pending := rfl
@[simp] theorem State.formAlarm_platform (s : State) : s.formAlarm.platform = s.platform := rfl
@[simp] theorem State.formAlarm_runs (s : State) : s.formAlarm.runs = s.runs := rfl
@[simp] theorem State.formAlarm_active (s : State) : s.formAlarm.active = s.active := rfl
@[simp] theorem State.formAlarm_bayRecord (s : State) (c : BayIx) : s.formAlarm.bayRecord c = s.bayRecord c := rfl
@[simp] theorem State.formAlarm_kind (s : State) (c : BayIx) : s.formAlarm.kind c = s.kind c := rfl
@[simp] theorem State.formAlarm_sliding (s : State) (c : BayIx) : s.formAlarm.sliding c = s.sliding c := rfl
@[simp] theorem State.formAlarm_lineRecord (s : State) (m : LineIx) : s.formAlarm.lineRecord m = s.lineRecord m := rfl
@[simp] theorem State.formAlarm_response (s : State) (c : FaultCode) : s.formAlarm.response c = s.response c := rfl
@[simp] theorem State.formAlarm_isMember (s : State) (c : BayIx) : s.formAlarm.isMember c = s.isMember c := rfl
@[simp] theorem State.formAlarm_bay (s : State) (c : BayIx) : s.formAlarm.bay c = s.bay c := rfl
@[simp] theorem State.formAlarm_line (s : State) (m : LineIx) : s.formAlarm.line m = s.line m := rfl

/-! ### The standing level of the bypass key -/

@[simp] theorem State.standingKey_release (s : State) : s.standingKey.release = s.release := rfl
@[simp] theorem State.standingKey_keyLevel (s : State) : s.standingKey.proof.keyLevel = s.functionLevel .bypassKey := rfl
@[simp] theorem State.standingKey_power (s : State) : s.standingKey.power = s.power := rfl
@[simp] theorem State.standingKey_uptime (s : State) : s.standingKey.uptime = s.uptime := rfl
@[simp] theorem State.standingKey_mode (s : State) : s.standingKey.mode = s.mode := rfl
@[simp] theorem State.standingKey_bays (s : State) : s.standingKey.bays = s.bays := rfl
@[simp] theorem State.standingKey_lines (s : State) : s.standingKey.lines = s.lines := rfl
@[simp] theorem State.standingKey_gap (s : State) : s.standingKey.gap = s.gap := rfl
@[simp] theorem State.standingKey_train (s : State) : s.standingKey.train = s.train := rfl
@[simp] theorem State.standingKey_supervision (s : State) : s.standingKey.supervision = s.supervision := rfl
@[simp] theorem State.standingKey_platformFrame (s : State) : s.standingKey.platformFrame = s.platformFrame := rfl
@[simp] theorem State.standingKey_store (s : State) : s.standingKey.store = s.store := rfl
@[simp] theorem State.standingKey_station (s : State) : s.standingKey.station = s.station := rfl
@[simp] theorem State.standingKey_signalling (s : State) : s.standingKey.signalling = s.signalling := rfl
@[simp] theorem State.standingKey_events (s : State) : s.standingKey.events = s.events := rfl
@[simp] theorem State.standingKey_pins (s : State) : s.standingKey.pins = s.pins := rfl
@[simp] theorem State.standingKey_stalled (s : State) : s.standingKey.stalled = s.stalled := rfl
@[simp] theorem State.standingKey_freeCount (s : State) : s.standingKey.freeCount = s.freeCount := rfl
@[simp] theorem State.standingKey_pending (s : State) : s.standingKey.pending = s.pending := rfl
@[simp] theorem State.standingKey_platform (s : State) : s.standingKey.platform = s.platform := rfl
@[simp] theorem State.standingKey_runs (s : State) : s.standingKey.runs = s.runs := rfl
@[simp] theorem State.standingKey_active (s : State) : s.standingKey.active = s.active := rfl
@[simp] theorem State.standingKey_bayRecord (s : State) (c : BayIx) : s.standingKey.bayRecord c = s.bayRecord c := rfl
@[simp] theorem State.standingKey_kind (s : State) (c : BayIx) : s.standingKey.kind c = s.kind c := rfl
@[simp] theorem State.standingKey_sliding (s : State) (c : BayIx) : s.standingKey.sliding c = s.sliding c := rfl
@[simp] theorem State.standingKey_lineRecord (s : State) (m : LineIx) : s.standingKey.lineRecord m = s.lineRecord m := rfl
@[simp] theorem State.standingKey_response (s : State) (c : FaultCode) : s.standingKey.response c = s.response c := rfl
@[simp] theorem State.standingKey_isMember (s : State) (c : BayIx) : s.standingKey.isMember c = s.isMember c := rfl
@[simp] theorem State.standingKey_bay (s : State) (c : BayIx) : s.standingKey.bay c = s.bay c := rfl
@[simp] theorem State.standingKey_line (s : State) (m : LineIx) : s.standingKey.line m = s.line m := rfl

/-! ### Forming the pins -/

@[simp] theorem State.formPins_power (s : State) : s.formPins.power = s.power := rfl
@[simp] theorem State.formPins_uptime (s : State) : s.formPins.uptime = s.uptime := rfl
@[simp] theorem State.formPins_mode (s : State) : s.formPins.mode = s.mode := rfl
@[simp] theorem State.formPins_bays (s : State) : s.formPins.bays = s.bays := rfl
@[simp] theorem State.formPins_lines (s : State) : s.formPins.lines = s.lines := rfl
@[simp] theorem State.formPins_gap (s : State) : s.formPins.gap = s.gap := rfl
@[simp] theorem State.formPins_train (s : State) : s.formPins.train = s.train := rfl
@[simp] theorem State.formPins_proof (s : State) : s.formPins.proof = s.proof := rfl
@[simp] theorem State.formPins_release (s : State) : s.formPins.release = s.release := rfl
@[simp] theorem State.formPins_supervision (s : State) : s.formPins.supervision = s.supervision := rfl
@[simp] theorem State.formPins_platformFrame (s : State) : s.formPins.platformFrame = s.platformFrame := rfl
@[simp] theorem State.formPins_store (s : State) : s.formPins.store = s.store := rfl
@[simp] theorem State.formPins_station (s : State) : s.formPins.station = s.station := rfl
@[simp] theorem State.formPins_signalling (s : State) : s.formPins.signalling = s.signalling := rfl
@[simp] theorem State.formPins_events (s : State) : s.formPins.events = s.events := rfl
@[simp] theorem State.formPins_stalled (s : State) : s.formPins.stalled = s.stalled := rfl
@[simp] theorem State.formPins_freeCount (s : State) : s.formPins.freeCount = s.freeCount := rfl
@[simp] theorem State.formPins_pending (s : State) : s.formPins.pending = s.pending := rfl
@[simp] theorem State.formPins_platform (s : State) : s.formPins.platform = s.platform := rfl
@[simp] theorem State.formPins_runs (s : State) : s.formPins.runs = s.runs := rfl
@[simp] theorem State.formPins_active (s : State) : s.formPins.active = s.active := rfl
@[simp] theorem State.formPins_fire (s : State) : s.formPins.fire = s.fire := rfl
@[simp] theorem State.formPins_bayRecord (s : State) (c : BayIx) : s.formPins.bayRecord c = s.bayRecord c := rfl
@[simp] theorem State.formPins_kind (s : State) (c : BayIx) : s.formPins.kind c = s.kind c := rfl
@[simp] theorem State.formPins_sliding (s : State) (c : BayIx) : s.formPins.sliding c = s.sliding c := rfl
@[simp] theorem State.formPins_lineRecord (s : State) (m : LineIx) : s.formPins.lineRecord m = s.lineRecord m := rfl
@[simp] theorem State.formPins_response (s : State) (c : FaultCode) : s.formPins.response c = s.response c := rfl
@[simp] theorem State.formPins_isMember (s : State) (c : BayIx) : s.formPins.isMember c = s.isMember c := rfl
@[simp] theorem State.formPins_bay (s : State) (c : BayIx) : s.formPins.bay c = s.bay c := rfl
@[simp] theorem State.formPins_line (s : State) (m : LineIx) : s.formPins.line m = s.line m := rfl

/-! ### Replacing one link -/

@[simp] theorem State.setPort_power (s : State) (l : Link) (p : Port) : (s.setPort l p).power = s.power := by cases l <;> rfl
@[simp] theorem State.setPort_uptime (s : State) (l : Link) (p : Port) : (s.setPort l p).uptime = s.uptime := by cases l <;> rfl
@[simp] theorem State.setPort_mode (s : State) (l : Link) (p : Port) : (s.setPort l p).mode = s.mode := by cases l <;> rfl
@[simp] theorem State.setPort_bays (s : State) (l : Link) (p : Port) : (s.setPort l p).bays = s.bays := by cases l <;> rfl
@[simp] theorem State.setPort_lines (s : State) (l : Link) (p : Port) : (s.setPort l p).lines = s.lines := by cases l <;> rfl
@[simp] theorem State.setPort_gap (s : State) (l : Link) (p : Port) : (s.setPort l p).gap = s.gap := by cases l <;> rfl
@[simp] theorem State.setPort_train (s : State) (l : Link) (p : Port) : (s.setPort l p).train = s.train := by cases l <;> rfl
@[simp] theorem State.setPort_proof (s : State) (l : Link) (p : Port) : (s.setPort l p).proof = s.proof := by cases l <;> rfl
@[simp] theorem State.setPort_release (s : State) (l : Link) (p : Port) : (s.setPort l p).release = s.release := by cases l <;> rfl
@[simp] theorem State.setPort_supervision (s : State) (l : Link) (p : Port) : (s.setPort l p).supervision = s.supervision := by cases l <;> rfl
@[simp] theorem State.setPort_platformFrame (s : State) (l : Link) (p : Port) : (s.setPort l p).platformFrame = s.platformFrame := by cases l <;> rfl
@[simp] theorem State.setPort_store (s : State) (l : Link) (p : Port) : (s.setPort l p).store = s.store := by cases l <;> rfl
@[simp] theorem State.setPort_events (s : State) (l : Link) (p : Port) : (s.setPort l p).events = s.events := by cases l <;> rfl
@[simp] theorem State.setPort_pins (s : State) (l : Link) (p : Port) : (s.setPort l p).pins = s.pins := by cases l <;> rfl
@[simp] theorem State.setPort_stalled (s : State) (l : Link) (p : Port) : (s.setPort l p).stalled = s.stalled := by cases l <;> rfl
@[simp] theorem State.setPort_freeCount (s : State) (l : Link) (p : Port) : (s.setPort l p).freeCount = s.freeCount := by cases l <;> rfl
@[simp] theorem State.setPort_pending (s : State) (l : Link) (p : Port) : (s.setPort l p).pending = s.pending := by cases l <;> rfl
@[simp] theorem State.setPort_platform (s : State) (l : Link) (p : Port) : (s.setPort l p).platform = s.platform := by cases l <;> rfl
@[simp] theorem State.setPort_runs (s : State) (l : Link) (p : Port) : (s.setPort l p).runs = s.runs := by cases l <;> rfl
@[simp] theorem State.setPort_active (s : State) (l : Link) (p : Port) : (s.setPort l p).active = s.active := by cases l <;> rfl
@[simp] theorem State.setPort_fire (s : State) (l : Link) (p : Port) : (s.setPort l p).fire = s.fire := by cases l <;> rfl
@[simp] theorem State.setPort_bayRecord (s : State) (l : Link) (p : Port) (c : BayIx) : (s.setPort l p).bayRecord c = s.bayRecord c := by cases l <;> rfl
@[simp] theorem State.setPort_kind (s : State) (l : Link) (p : Port) (c : BayIx) : (s.setPort l p).kind c = s.kind c := by cases l <;> rfl
@[simp] theorem State.setPort_sliding (s : State) (l : Link) (p : Port) (c : BayIx) : (s.setPort l p).sliding c = s.sliding c := by cases l <;> rfl
@[simp] theorem State.setPort_lineRecord (s : State) (l : Link) (p : Port) (m : LineIx) : (s.setPort l p).lineRecord m = s.lineRecord m := by cases l <;> rfl
@[simp] theorem State.setPort_response (s : State) (l : Link) (p : Port) (c : FaultCode) : (s.setPort l p).response c = s.response c := by cases l <;> rfl
@[simp] theorem State.setPort_isMember (s : State) (l : Link) (p : Port) (c : BayIx) : (s.setPort l p).isMember c = s.isMember c := by cases l <;> rfl
@[simp] theorem State.setPort_bay (s : State) (l : Link) (p : Port) (c : BayIx) : (s.setPort l p).bay c = s.bay c := by cases l <;> rfl
@[simp] theorem State.setPort_line (s : State) (l : Link) (p : Port) (m : LineIx) : (s.setPort l p).line m = s.line m := by cases l <;> rfl

/-! ### Setting one receive buffer -/

@[simp] theorem State.setBuffer_power (s : State) (l : Link) (b : Buffer) : (s.setBuffer l b).power = s.power := by cases l <;> rfl
@[simp] theorem State.setBuffer_uptime (s : State) (l : Link) (b : Buffer) : (s.setBuffer l b).uptime = s.uptime := by cases l <;> rfl
@[simp] theorem State.setBuffer_mode (s : State) (l : Link) (b : Buffer) : (s.setBuffer l b).mode = s.mode := by cases l <;> rfl
@[simp] theorem State.setBuffer_bays (s : State) (l : Link) (b : Buffer) : (s.setBuffer l b).bays = s.bays := by cases l <;> rfl
@[simp] theorem State.setBuffer_lines (s : State) (l : Link) (b : Buffer) : (s.setBuffer l b).lines = s.lines := by cases l <;> rfl
@[simp] theorem State.setBuffer_gap (s : State) (l : Link) (b : Buffer) : (s.setBuffer l b).gap = s.gap := by cases l <;> rfl
@[simp] theorem State.setBuffer_train (s : State) (l : Link) (b : Buffer) : (s.setBuffer l b).train = s.train := by cases l <;> rfl
@[simp] theorem State.setBuffer_proof (s : State) (l : Link) (b : Buffer) : (s.setBuffer l b).proof = s.proof := by cases l <;> rfl
@[simp] theorem State.setBuffer_release (s : State) (l : Link) (b : Buffer) : (s.setBuffer l b).release = s.release := by cases l <;> rfl
@[simp] theorem State.setBuffer_supervision (s : State) (l : Link) (b : Buffer) : (s.setBuffer l b).supervision = s.supervision := by cases l <;> rfl
@[simp] theorem State.setBuffer_platformFrame (s : State) (l : Link) (b : Buffer) : (s.setBuffer l b).platformFrame = s.platformFrame := by cases l <;> rfl
@[simp] theorem State.setBuffer_store (s : State) (l : Link) (b : Buffer) : (s.setBuffer l b).store = s.store := by cases l <;> rfl
@[simp] theorem State.setBuffer_events (s : State) (l : Link) (b : Buffer) : (s.setBuffer l b).events = s.events := by cases l <;> rfl
@[simp] theorem State.setBuffer_pins (s : State) (l : Link) (b : Buffer) : (s.setBuffer l b).pins = s.pins := by cases l <;> rfl
@[simp] theorem State.setBuffer_stalled (s : State) (l : Link) (b : Buffer) : (s.setBuffer l b).stalled = s.stalled := by cases l <;> rfl
@[simp] theorem State.setBuffer_freeCount (s : State) (l : Link) (b : Buffer) : (s.setBuffer l b).freeCount = s.freeCount := by cases l <;> rfl
@[simp] theorem State.setBuffer_pending (s : State) (l : Link) (b : Buffer) : (s.setBuffer l b).pending = s.pending := by cases l <;> rfl
@[simp] theorem State.setBuffer_platform (s : State) (l : Link) (b : Buffer) : (s.setBuffer l b).platform = s.platform := by cases l <;> rfl
@[simp] theorem State.setBuffer_runs (s : State) (l : Link) (b : Buffer) : (s.setBuffer l b).runs = s.runs := by cases l <;> rfl
@[simp] theorem State.setBuffer_active (s : State) (l : Link) (b : Buffer) : (s.setBuffer l b).active = s.active := by cases l <;> rfl
@[simp] theorem State.setBuffer_fire (s : State) (l : Link) (b : Buffer) : (s.setBuffer l b).fire = s.fire := by cases l <;> rfl
@[simp] theorem State.setBuffer_bayRecord (s : State) (l : Link) (b : Buffer) (c : BayIx) : (s.setBuffer l b).bayRecord c = s.bayRecord c := by cases l <;> rfl
@[simp] theorem State.setBuffer_kind (s : State) (l : Link) (b : Buffer) (c : BayIx) : (s.setBuffer l b).kind c = s.kind c := by cases l <;> rfl
@[simp] theorem State.setBuffer_sliding (s : State) (l : Link) (b : Buffer) (c : BayIx) : (s.setBuffer l b).sliding c = s.sliding c := by cases l <;> rfl
@[simp] theorem State.setBuffer_lineRecord (s : State) (l : Link) (b : Buffer) (m : LineIx) : (s.setBuffer l b).lineRecord m = s.lineRecord m := by cases l <;> rfl
@[simp] theorem State.setBuffer_response (s : State) (l : Link) (b : Buffer) (c : FaultCode) : (s.setBuffer l b).response c = s.response c := by cases l <;> rfl
@[simp] theorem State.setBuffer_isMember (s : State) (l : Link) (b : Buffer) (c : BayIx) : (s.setBuffer l b).isMember c = s.isMember c := by cases l <;> rfl
@[simp] theorem State.setBuffer_bay (s : State) (l : Link) (b : Buffer) (c : BayIx) : (s.setBuffer l b).bay c = s.bay c := by cases l <;> rfl
@[simp] theorem State.setBuffer_line (s : State) (l : Link) (b : Buffer) (m : LineIx) : (s.setBuffer l b).line m = s.line m := by cases l <;> rfl

/-! ### Replacing one input line -/

@[simp] theorem State.setInputLine_power (s : State) (l : InputLine) (x : Line) : (s.setInputLine l x).power = s.power := by cases l <;> rfl
@[simp] theorem State.setInputLine_uptime (s : State) (l : InputLine) (x : Line) : (s.setInputLine l x).uptime = s.uptime := by cases l <;> rfl
@[simp] theorem State.setInputLine_mode (s : State) (l : InputLine) (x : Line) : (s.setInputLine l x).mode = s.mode := by cases l <;> rfl
@[simp] theorem State.setInputLine_gap (s : State) (l : InputLine) (x : Line) : (s.setInputLine l x).gap = s.gap := by cases l <;> rfl
@[simp] theorem State.setInputLine_train (s : State) (l : InputLine) (x : Line) : (s.setInputLine l x).train = s.train := by cases l <;> rfl
@[simp] theorem State.setInputLine_proof (s : State) (l : InputLine) (x : Line) : (s.setInputLine l x).proof = s.proof := by cases l <;> rfl
@[simp] theorem State.setInputLine_release (s : State) (l : InputLine) (x : Line) : (s.setInputLine l x).release = s.release := by cases l <;> rfl
@[simp] theorem State.setInputLine_supervision (s : State) (l : InputLine) (x : Line) : (s.setInputLine l x).supervision = s.supervision := by cases l <;> rfl
@[simp] theorem State.setInputLine_platformFrame (s : State) (l : InputLine) (x : Line) : (s.setInputLine l x).platformFrame = s.platformFrame := by cases l <;> rfl
@[simp] theorem State.setInputLine_store (s : State) (l : InputLine) (x : Line) : (s.setInputLine l x).store = s.store := by cases l <;> rfl
@[simp] theorem State.setInputLine_station (s : State) (l : InputLine) (x : Line) : (s.setInputLine l x).station = s.station := by cases l <;> rfl
@[simp] theorem State.setInputLine_signalling (s : State) (l : InputLine) (x : Line) : (s.setInputLine l x).signalling = s.signalling := by cases l <;> rfl
@[simp] theorem State.setInputLine_events (s : State) (l : InputLine) (x : Line) : (s.setInputLine l x).events = s.events := by cases l <;> rfl
@[simp] theorem State.setInputLine_pins (s : State) (l : InputLine) (x : Line) : (s.setInputLine l x).pins = s.pins := by cases l <;> rfl
@[simp] theorem State.setInputLine_stalled (s : State) (l : InputLine) (x : Line) : (s.setInputLine l x).stalled = s.stalled := by cases l <;> rfl
@[simp] theorem State.setInputLine_freeCount (s : State) (l : InputLine) (x : Line) : (s.setInputLine l x).freeCount = s.freeCount := by cases l <;> rfl
@[simp] theorem State.setInputLine_pending (s : State) (l : InputLine) (x : Line) : (s.setInputLine l x).pending = s.pending := by cases l <;> rfl
@[simp] theorem State.setInputLine_platform (s : State) (l : InputLine) (x : Line) : (s.setInputLine l x).platform = s.platform := by cases l <;> rfl
@[simp] theorem State.setInputLine_runs (s : State) (l : InputLine) (x : Line) : (s.setInputLine l x).runs = s.runs := by cases l <;> rfl
@[simp] theorem State.setInputLine_active (s : State) (l : InputLine) (x : Line) : (s.setInputLine l x).active = s.active := by cases l <;> rfl
@[simp] theorem State.setInputLine_fire (s : State) (l : InputLine) (x : Line) : (s.setInputLine l x).fire = s.fire := by cases l <;> rfl
@[simp] theorem State.setInputLine_bayRecord (s : State) (l : InputLine) (x : Line) (c : BayIx) : (s.setInputLine l x).bayRecord c = s.bayRecord c := by cases l <;> rfl
@[simp] theorem State.setInputLine_kind (s : State) (l : InputLine) (x : Line) (c : BayIx) : (s.setInputLine l x).kind c = s.kind c := by cases l <;> rfl
@[simp] theorem State.setInputLine_sliding (s : State) (l : InputLine) (x : Line) (c : BayIx) : (s.setInputLine l x).sliding c = s.sliding c := by cases l <;> rfl
@[simp] theorem State.setInputLine_lineRecord (s : State) (l : InputLine) (x : Line) (m : LineIx) : (s.setInputLine l x).lineRecord m = s.lineRecord m := by cases l <;> rfl
@[simp] theorem State.setInputLine_response (s : State) (l : InputLine) (x : Line) (c : FaultCode) : (s.setInputLine l x).response c = s.response c := by cases l <;> rfl
@[simp] theorem State.setInputLine_isMember (s : State) (l : InputLine) (x : Line) (c : BayIx) : (s.setInputLine l x).isMember c = s.isMember c := by cases l <;> rfl

/-! ### What is read back -/

@[simp] theorem State.bay_setBay_self (s : State) (b : BayIx) (x : Bay) : (s.setBay b x).bay b = x := by
  simp [State.bay, State.setBay]

theorem State.bay_setBay_ne (s : State) (b c : BayIx) (x : Bay) (h : c ≠ b) : (s.setBay b x).bay c = s.bay c := by
  have hv : b.val ≠ c.val := fun e => h (Fin.ext e.symm)
  simp [State.bay, State.setBay, Vector.getElem_set_ne, hv]

theorem State.bay_setBay (s : State) (b c : BayIx) (x : Bay) :
    (s.setBay b x).bay c = if c = b then x else s.bay c := by
  by_cases h : c = b
  · subst h; simp
  · simp [h, State.bay_setBay_ne]

@[simp] theorem State.line_setLine_self (s : State) (n : LineIx) (x : GeneralLine) : (s.setLine n x).line n = x := by
  simp [State.line, State.setLine]

theorem State.line_setLine_ne (s : State) (n m : LineIx) (x : GeneralLine) (h : m ≠ n) :
    (s.setLine n x).line m = s.line m := by
  have hv : n.val ≠ m.val := fun e => h (Fin.ext e.symm)
  simp [State.line, State.setLine, Vector.getElem_set_ne, hv]

theorem State.line_setLine (s : State) (n m : LineIx) (x : GeneralLine) :
    (s.setLine n x).line m = if m = n then x else s.line m := by
  by_cases h : m = n
  · subst h; simp
  · simp [h, State.line_setLine_ne]

@[simp] theorem State.port_setPort_self (s : State) (l : Link) (p : Port) : (s.setPort l p).port l = p := by
  cases l <;> rfl

theorem State.port_setPort_ne (s : State) (l k : Link) (p : Port) (h : k ≠ l) : (s.setPort l p).port k = s.port k := by
  cases l <;> cases k <;> first | rfl | exact absurd rfl h

@[simp] theorem BayLines.get_put_self (l : BayLines) (x : Line) (i : BayInput) : (l.put x i).get i = x := by cases i <;> rfl

theorem BayLines.get_put_ne (l : BayLines) (x : Line) (i j : BayInput) (h : j ≠ i) : (l.put x i).get j = l.get j := by
  cases i <;> cases j <;> first | rfl | exact absurd rfl h

@[simp] theorem State.inputLine_setInputLine_self (s : State) (l : InputLine) (x : Line) :
    (s.setInputLine l x).inputLine l = x := by
  cases l <;> simp [State.inputLine, State.setInputLine]

theorem State.inputLine_setInputLine_ne (s : State) (l m : InputLine) (x : Line) (h : m ≠ l) :
    (s.setInputLine l x).inputLine m = s.inputLine m := by
  cases l with
  | bay b i =>
    cases m with
    | bay c j =>
      by_cases hb : c = b
      · subst hb
        have hj : j ≠ i := fun e => h (by rw [e])
        simp [State.inputLine, State.setInputLine, BayLines.get_put_ne, hj]
      · simp [State.inputLine, State.setInputLine, State.bay_setBay_ne, hb]
    | general n => simp [State.inputLine, State.setInputLine]
  | general n =>
    cases m with
    | bay c j => simp [State.inputLine, State.setInputLine]
    | general k =>
      have hk : k ≠ n := fun e => h (by rw [e])
      simp [State.inputLine, State.setInputLine, State.line_setLine_ne, hk]

@[simp] theorem mapVector_get {α β : Type} {n : Nat} (f : α → β) (v : Vector α n) (i : Nat) (h : i < n) :
    (mapVector f v)[i] = f v[i] := by
  simp [mapVector]

@[simp] theorem tableOf_get {α : Type} {n : Nat} (f : Fin n → α) (i : Nat) (h : i < n) : (tableOf f)[i] = f ⟨i, h⟩ := by
  simp [tableOf]

/-! ### Events under way -/

@[simp] theorem Ev.on_s (e : Ev) (f : State → State) : (e.on f).s = f e.s := rfl
@[simp] theorem Ev.on_awaiting (e : Ev) (f : State → State) : (e.on f).awaiting = e.awaiting := rfl
@[simp] theorem Ev.on_starting (e : Ev) (f : State → State) : (e.on f).starting = e.starting := rfl
@[simp] theorem Ev.on_refused (e : Ev) (f : State → State) : (e.on f).refused = e.refused := rfl
@[simp] theorem Ev.on_accepted (e : Ev) (f : State → State) : (e.on f).accepted = e.accepted := rfl
@[simp] theorem Ev.report_s (e : Ev) (b : BayIx) (r : Reason) : (e.report b r).s = e.s := rfl
@[simp] theorem Ev.start_s (s : State) : (Ev.start s).s = s := rfl
@[simp] theorem Ev.onBay_s (e : Ev) (b : BayIx) (f : Bay → Bay) : (e.onBay b f).s = e.s.setBay b (f (e.s.bay b)) := rfl

end Sys2Proof.Machine
end

