-- ==== Sys2Proof/Laws/Kept.lean ====
section
/-! SUPPORT. What no task of an event touches, as one projection of the state: every block operation leaves it equal, so does
carrying out any list of tasks, and each part of it is read off by one lemma. -/

namespace Sys2Proof.Machine

/-- What the tasks of an event leave as it was: the supply, the time, the store, the links, the general lines, the proof, the
pins, supervision, the attention mask, the AUTHORITY flag, and of each bay its lines and its trace flag. -/
structure Kept where
  power : Power
  uptime : Uptime
  restartCause : RestartCause
  preparation : Bool
  restartAccepted : Bool
  bays : Vector (BayLines × Bool) 24
  lines : Vector GeneralLine 24
  proof : Proof
  supervision : Supervision
  store : Store
  station : Port
  signalling : Port
  mask : Byte
  authority : Bool
  pins : Pins
  stalled : Bool
  freeCount : Nat
  pending : List Instr

/-- What the tasks leave of a bay. -/
def Bay.kept (b : Bay) : BayLines × Bool := (b.lines, b.trace)

/-- What the tasks leave of the state. -/
def State.kept (s : State) : Kept :=
  { power := s.power, uptime := s.uptime, restartCause := s.mode.restartCause, preparation := s.mode.preparation
    restartAccepted := s.mode.restartAccepted, bays := mapVector Bay.kept s.bays, lines := s.lines, proof := s.proof
    supervision := s.supervision, store := s.store, station := s.station, signalling := s.signalling
    mask := s.events.mask, authority := s.events.authority, pins := s.pins, stalled := s.stalled
    freeCount := s.freeCount
    pending := s.pending }

/-! ### Reading the parts off

The parts are read from the form that a list of tasks leaves (run_kept); State.kept_same brings the plain form to it. -/

theorem State.kept_same {s t : State} (h : t.kept = s.kept) : t.kept = { s.kept with stalled := s.stalled } := h

theorem State.kept_stalled {s t : State} (h : t.kept = s.kept) : t.stalled = s.stalled := congrArg Kept.stalled h

theorem State.bay_kept (s : State) (b : BayIx) : s.kept.bays[b.val] = (s.bay b).kept := by
  simp [State.kept, State.bay]

theorem State.kept_power {s t : State} {x : Bool} (h : t.kept = { s.kept with stalled := x }) : t.power = s.power := congrArg Kept.power h
theorem State.kept_uptime {s t : State} {x : Bool} (h : t.kept = { s.kept with stalled := x }) : t.uptime = s.uptime := congrArg Kept.uptime h
theorem State.kept_restartCause {s t : State} {x : Bool} (h : t.kept = { s.kept with stalled := x }) : t.mode.restartCause = s.mode.restartCause :=
  congrArg Kept.restartCause h
theorem State.kept_preparation {s t : State} {x : Bool} (h : t.kept = { s.kept with stalled := x }) : t.mode.preparation = s.mode.preparation :=
  congrArg Kept.preparation h
theorem State.kept_restartAccepted {s t : State} {x : Bool} (h : t.kept = { s.kept with stalled := x }) : t.mode.restartAccepted = s.mode.restartAccepted :=
  congrArg Kept.restartAccepted h
theorem State.kept_lines {s t : State} {x : Bool} (h : t.kept = { s.kept with stalled := x }) : t.lines = s.lines := congrArg Kept.lines h
theorem State.kept_proof {s t : State} {x : Bool} (h : t.kept = { s.kept with stalled := x }) : t.proof = s.proof := congrArg Kept.proof h
theorem State.kept_supervision {s t : State} {x : Bool} (h : t.kept = { s.kept with stalled := x }) : t.supervision = s.supervision :=
  congrArg Kept.supervision h
theorem State.kept_store {s t : State} {x : Bool} (h : t.kept = { s.kept with stalled := x }) : t.store = s.store := congrArg Kept.store h
theorem State.kept_station {s t : State} {x : Bool} (h : t.kept = { s.kept with stalled := x }) : t.station = s.station := congrArg Kept.station h
theorem State.kept_signalling {s t : State} {x : Bool} (h : t.kept = { s.kept with stalled := x }) : t.signalling = s.signalling := congrArg Kept.signalling h
theorem State.kept_mask {s t : State} {x : Bool} (h : t.kept = { s.kept with stalled := x }) : t.events.mask = s.events.mask := congrArg Kept.mask h
theorem State.kept_authority {s t : State} {x : Bool} (h : t.kept = { s.kept with stalled := x }) : t.events.authority = s.events.authority :=
  congrArg Kept.authority h
theorem State.kept_pins {s t : State} {x : Bool} (h : t.kept = { s.kept with stalled := x }) : t.pins = s.pins := congrArg Kept.pins h
theorem State.kept_freeCount {s t : State} {x : Bool} (h : t.kept = { s.kept with stalled := x }) : t.freeCount = s.freeCount := congrArg Kept.freeCount h
theorem State.kept_pending {s t : State} {x : Bool} (h : t.kept = { s.kept with stalled := x }) : t.pending = s.pending := congrArg Kept.pending h

theorem State.kept_bay {s t : State} {x : Bool} (h : t.kept = { s.kept with stalled := x }) (b : BayIx) : (t.bay b).kept = (s.bay b).kept := by
  have hb : t.kept.bays = s.kept.bays := by rw [h]
  rw [← State.bay_kept, ← State.bay_kept, hb]

theorem State.kept_bayLines {s t : State} {x : Bool} (h : t.kept = { s.kept with stalled := x }) (b : BayIx) : (t.bay b).lines = (s.bay b).lines :=
  congrArg Prod.fst (State.kept_bay h b)

theorem State.kept_trace {s t : State} {x : Bool} (h : t.kept = { s.kept with stalled := x }) (b : BayIx) : (t.bay b).trace = (s.bay b).trace :=
  congrArg Prod.snd (State.kept_bay h b)

theorem State.kept_kind {s t : State} {x : Bool} (h : t.kept = { s.kept with stalled := x }) (b : BayIx) : t.kind b = s.kind b := by
  simp only [State.kind, State.bayRecord, State.kept_store h]

theorem State.kept_sliding {s t : State} {x : Bool} (h : t.kept = { s.kept with stalled := x }) (b : BayIx) : t.sliding b = s.sliding b := by
  simp only [State.sliding, State.kept_kind h]

theorem State.kept_platform {s t : State} {x : Bool} (h : t.kept = { s.kept with stalled := x }) : t.platform = s.platform := by
  simp only [State.platform, State.kept_store h]

/-! ### Bays -/

theorem mapVector_set {α β : Type} {n : Nat} (f : α → β) (v : Vector α n) (i : Nat) (h : i < n) (x : α) :
    mapVector f (v.set i x h) = (mapVector f v).set i (f x) h := by
  apply Vector.ext
  intro j hj
  by_cases hji : i = j
  · subst hji; simp
  · simp [Vector.getElem_set_ne, hji]

theorem State.kept_setBay_of (s : State) (b : BayIx) (x : Bay) (h : x.kept = (s.bay b).kept) :
    (s.setBay b x).kept = s.kept := by
  have hb : mapVector Bay.kept (s.bays.set b.val x b.isLt) = mapVector Bay.kept s.bays := by
    rw [mapVector_set, h, ← State.bay_kept]
    exact Vector.set_getElem_self b.isLt
  simp only [State.kept, State.setBay_power, State.setBay_uptime]
  congr 1

@[simp] theorem Bay.kept_enter (r : BayRecord) (p : Platform) (q : Phase) (b : Bay) : (b.enter r p q).kept = b.kept := rfl
@[simp] theorem Bay.kept_move (m : Movement) (b : Bay) : (b.move m).kept = b.kept := rfl

/-! ### The shared operations -/

/-- Changing one bay in a way that keeps its lines and its trace. -/
theorem State.kept_setBay (s : State) (b : BayIx) (x : Bay) (hl : x.lines = (s.bay b).lines) (ht : x.trace = (s.bay b).trace) :
    (s.setBay b x).kept = s.kept :=
  s.kept_setBay_of b x (by simp [Bay.kept, hl, ht])

theorem EventUnit.mask_add (u : EventUnit) (r : EventRecord) : (u.add r).mask = u.mask := by
  unfold EventUnit.add; split
  · rfl
  · split <;> rfl

theorem EventUnit.authority_add (u : EventUnit) (r : EventRecord) : (u.add r).authority = u.authority := by
  unfold EventUnit.add; split
  · rfl
  · split <;> rfl

@[simp] theorem State.post_mask (s : State) (k : EventKind) (b : Option BayIx) (v : Nat) :
    (s.post k b v).events.mask = s.events.mask := EventUnit.mask_add _ _

@[simp] theorem State.post_authority (s : State) (k : EventKind) (b : Option BayIx) (v : Nat) :
    (s.post k b v).events.authority = s.events.authority := EventUnit.authority_add _ _

@[simp] theorem State.kept_post (s : State) (k : EventKind) (b : Option BayIx) (v : Nat) : (s.post k b v).kept = s.kept := by
  simp [State.kept]

@[simp] theorem State.kept_postTaken (s : State) (b : Option BayIx) (c : FaultCode) (a : FaultAnswer) :
    (s.postTaken b c a).kept = s.kept := State.kept_post _ _ _ _

@[simp] theorem State.kept_setFrame (s : State) (b : BayIx) (f : Frame) : (s.setFrame b f).kept = s.kept :=
  s.kept_setBay b _ rfl rfl

@[simp] theorem State.kept_clearFrame (s : State) (c : ClearCause) (b : BayIx) : (s.clearFrame c b).kept = s.kept := by
  simp [State.clearFrame]

@[simp] theorem State.kept_setTrain (s : State) (x : Train) : ({ s with train := x } : State).kept = s.kept := rfl
@[simp] theorem State.kept_setRelease (s : State) (x : Release) : ({ s with release := x } : State).kept = s.kept := rfl
@[simp] theorem State.kept_setPlatformFrame (s : State) (x : Frame) : ({ s with platformFrame := x } : State).kept = s.kept := rfl

@[simp] theorem State.kept_makeLogRoom (s : State) : s.makeLogRoom.kept = s.kept := by
  unfold State.makeLogRoom; split
  · rfl
  · split <;> simp

@[simp] theorem State.kept_openRecord (s : State) (k : ReleaseKind) (b : Option BayIx) (f : Option FireSource) :
    (s.openRecord k b f).kept = s.kept := by
  unfold State.openRecord; cases k <;> simp

@[simp] theorem State.kept_restoreRecord (s : State) (p : ReleaseRecord → Bool) : (s.restoreRecord p).kept = s.kept := by
  unfold State.restoreRecord
  rcases restoreIn s.uptime p s.release.log with ⟨log, found⟩
  cases found with
  | none => rfl
  | some r => rcases h : r.kind <;> simp [h]

@[simp] theorem State.kept_restoreBay (s : State) (b : BayIx) : (s.restoreBay b).kept = s.kept := State.kept_restoreRecord _ _

@[simp] theorem State.kept_formPresence (s : State) (b : BayIx) : (s.formPresence b).kept = s.kept := by
  simp only [State.formPresence]; split
  · rfl
  · rw [State.kept_post]; exact s.kept_setBay b _ rfl rfl

theorem State.kept_foldl {α : Type} (f : State → α → State) (h : ∀ s a, (f s a).kept = s.kept) (l : List α) (s : State) :
    (l.foldl f s).kept = s.kept := by
  induction l generalizing s with
  | nil => rfl
  | cons a l ih => rw [List.foldl_cons, ih, h]

@[simp] theorem State.kept_formMembers (s : State) : s.formMembers.kept = s.kept :=
  State.kept_foldl _ State.kept_formPresence _ _

@[simp] theorem State.kept_setGap (s : State) (g : GapResult) : (s.setGap g).kept = s.kept := by
  cases g <;> simp only [State.setGap, State.kept_post] <;> rfl

@[simp] theorem State.kept_changeMode (s : State) (m : Mode) : (s.changeMode m).kept = s.kept := by
  simp only [State.changeMode, State.kept_post]; rfl

@[simp] theorem State.kept_recordPlatform (s : State) (c : FaultCode) (d : Nat) : (s.recordPlatform c d).kept = s.kept := by
  simp only [State.recordPlatform]
  split
  · split <;> simp
  · simp

/-! ### The operations of an event -/

@[simp] theorem Ev.kept_on (e : Ev) (f : State → State) (h : ∀ s, (f s).kept = s.kept) : (e.on f).s.kept = e.s.kept := h _

theorem Ev.kept_onBay (e : Ev) (b : BayIx) (f : Bay → Bay) (h : ∀ x, (f x).kept = x.kept) :
    (e.onBay b f).s.kept = e.s.kept := e.s.kept_setBay_of b _ (h _)

@[simp] theorem Ev.kept_enter (e : Ev) (b : BayIx) (q : Phase) : (e.enter b q).s.kept = e.s.kept := by
  have h : (e.s.setBay b ((e.s.bay b).enter (e.s.bayRecord b) e.s.platform q)).kept = e.s.kept :=
    e.s.kept_setBay_of b _ rfl
  simp only [Ev.enter]; split
  · rw [State.kept_post, h]
  · exact h

@[simp] theorem Ev.kept_report (e : Ev) (b : BayIx) (r : Reason) : (e.report b r).s.kept = e.s.kept := rfl

@[simp] theorem Ev.kept_openClaim (e : Ev) (b : BayIx) : (e.openClaim b).1.s.kept = e.s.kept := by
  unfold Ev.openClaim; split
  · rw [Ev.kept_enter, Ev.kept_onBay, Ev.kept_onBay] <;> (intro _; rfl)
  · rfl
  · rfl

@[simp] theorem Ev.kept_closeClaim (e : Ev) (b : BayIx) : (e.closeClaim b).1.s.kept = e.s.kept := by
  unfold Ev.closeClaim; split
  · simp only []
    split
    · rw [Ev.kept_enter, Ev.kept_enter, Ev.kept_onBay]; exact fun _ => rfl
    · rw [Ev.kept_enter, Ev.kept_onBay]; exact fun _ => rfl
  · rfl
  · rfl

@[simp] theorem Ev.kept_handOpen (e : Ev) (b : BayIx) : (e.handOpen b).1.s.kept = e.s.kept := by
  simp only [Ev.handOpen]
  repeat' split
  all_goals simp

@[simp] theorem Ev.kept_openMember (e : Ev) (again : Bool) (b : BayIx) : (e.openMember again b).1.s.kept = e.s.kept := by
  simp only [Ev.openMember]
  repeat' split
  all_goals simp

@[simp] theorem Ev.kept_closeMember (e : Ev) (r : Bool) (b : BayIx) : (e.closeMember r b).1.s.kept = e.s.kept := by
  simp only [Ev.closeMember]
  repeat' split
  all_goals simp

@[simp] theorem Ev.kept_stopBay (e : Ev) (b : BayIx) : (e.stopBay b).1.s.kept = e.s.kept := by
  unfold Ev.stopBay; split <;> simp

@[simp] theorem Ev.kept_obstruct (e : Ev) (atEntry : Bool) (b : BayIx) : (e.obstruct atEntry b).1.s.kept = e.s.kept := by
  simp only [Ev.obstruct]
  split
  · rfl
  · split
    · split
      · rw [Ev.kept_on _ _ (fun _ => State.kept_post _ _ _ _), Ev.kept_enter, Ev.kept_onBay]; exact fun _ => rfl
      · rw [Ev.kept_enter, Ev.kept_onBay]; exact fun _ => rfl
    · rfl

@[simp] theorem Ev.kept_startPause (e : Ev) (b : BayIx) : (e.startPause b).s.kept = e.s.kept :=
  Ev.kept_onBay _ _ _ (fun _ => rfl)

@[simp] theorem Ev.kept_pauseAtEntry (e : Ev) (b : BayIx) : (e.pauseAtEntry b).s.kept = e.s.kept := by
  simp only [Ev.pauseAtEntry]; split <;> simp

@[simp] theorem Ev.kept_entryChecks (e : Ev) (b : BayIx) : (e.entryChecks b).1.s.kept = e.s.kept := by
  simp only [Ev.entryChecks]
  repeat' split
  all_goals simp

@[simp] theorem Ev.kept_raiseConflict (e : Ev) (b : BayIx) : (e.raiseConflict b).1.s.kept = e.s.kept := by
  simp only [Ev.raiseConflict]; split <;> rfl

@[simp] theorem Ev.kept_enterReleased (e : Ev) (b : BayIx) (k : ReleaseKind) : (e.enterReleased b k).s.kept = e.s.kept := by
  simp only [Ev.enterReleased]; split <;> simp

@[simp] theorem Ev.kept_slidingInput (e : Ev) (b : BayIx) (i : BayInput) : (e.slidingInput b i).1.s.kept = e.s.kept := by
  simp only [Ev.slidingInput]; split <;> simp

@[simp] theorem Ev.kept_presence (e : Ev) (b : BayIx) : (e.presence b).1.s.kept = e.s.kept := by
  simp [Ev.presence]

@[simp] theorem Ev.kept_arrive (e : Ev) (b : BayIx) : (e.arrive b).1.s.kept = e.s.kept := by
  simp only [Ev.arrive]
  repeat' split
  all_goals simp

@[simp] theorem Ev.kept_setGap (e : Ev) (g : GapResult) : (e.setGap g).1.s.kept = e.s.kept := by simp [Ev.setGap]

@[simp] theorem Ev.kept_formGap (e : Ev) : e.formGap.1.s.kept = e.s.kept := by
  unfold Ev.formGap; split <;> simp

@[simp] theorem Ev.kept_raiseNested (e : Ev) (b : BayIx) (c : FaultCode) : (e.raiseNested b c).1.s.kept = e.s.kept := by
  simp only [Ev.raiseNested]
  repeat' split
  all_goals simp

@[simp] theorem Ev.kept_retry (e : Ev) (b : BayIx) (c : FaultCode) : (e.retry b c).s.kept = e.s.kept := by
  simp only [Ev.retry]
  rw [Ev.kept_enter, Ev.kept_on _ _ (fun _ => State.kept_post _ _ _ _), Ev.kept_onBay]; exact fun _ => rfl

@[simp] theorem Ev.kept_writeFrame (e : Ev) (b : BayIx) (c : FaultCode) (d : Nat) (st : FrameState) (a : FaultAnswer) :
    (e.writeFrame b c d st a).s.kept = e.s.kept := by simp [Ev.writeFrame]

@[simp] theorem Ev.kept_raise (e : Ev) (b : BayIx) (c : FaultCode) (d : Nat) : (e.raise b c d).1.s.kept = e.s.kept := by
  simp only [Ev.raise]
  repeat' split
  all_goals simp

@[simp] theorem Ev.kept_raiseAtEntry (e : Ev) (b : BayIx) (c : FaultCode) (d : Nat) :
    (e.raiseAtEntry b c d).1.s.kept = e.s.kept := Ev.kept_raise e b c d

@[simp] theorem Ev.kept_raiseFace (e : Ev) (c : FaultCode) (d : Nat) : (e.raiseFace c d).1.s.kept = e.s.kept := by
  simp [Ev.raiseFace]

@[simp] theorem State.kept_setHaltCause (s : State) (c : HaltCause) :
    ({ s with mode := { s.mode with haltCause := c } } : State).kept = s.kept := rfl

@[simp] theorem Ev.kept_enterHalted (e : Ev) (c : HaltCause) : (e.enterHalted c).1.s.kept = e.s.kept := by
  unfold Ev.enterHalted; split <;> simp

@[simp] theorem Ev.kept_closeTrain (e : Ev) (o : Nat) (r : Bool) : (e.closeTrain o r).1.s.kept = e.s.kept := by
  simp [Ev.closeTrain]

@[simp] theorem Ev.kept_closeMapEffect (e : Ev) : e.closeMapEffect.1.s.kept = e.s.kept := by
  unfold Ev.closeMapEffect; split <;> simp

@[simp] theorem Ev.kept_effect (e : Ev) (p : PlatformEffect) (c : FaultCode) : (e.effect p c).1.s.kept = e.s.kept := by
  cases p <;> simp [Ev.effect]

@[simp] theorem Ev.kept_takeDerivedConflict (e : Ev) (b : BayIx) : (e.takeDerivedConflict b).s.kept = e.s.kept := by
  simp [Ev.takeDerivedConflict]

@[simp] theorem Ev.kept_derive (e : Ev) (b : BayIx) : (e.derive b).1.s.kept = e.s.kept := by
  have h (q : Phase) :
      ((e.onBay b (fun x => { x with movement := .none, retry := 0, reclose := 0 })).enter b q).s.kept = e.s.kept := by
    rw [Ev.kept_enter, Ev.kept_onBay]; exact fun _ => rfl
  simp only [Ev.derive]
  split <;> (try split) <;> simp [h]

@[simp] theorem Ev.kept_fireSet (e : Ev) (f : FireSource) : (e.fireSet f).1.s.kept = e.s.kept := by
  unfold Ev.fireSet; split <;> simp

@[simp] theorem Ev.kept_fireOpen (e : Ev) (b : BayIx) : (e.fireOpen b).1.s.kept = e.s.kept := by
  simp only [Ev.fireOpen]; split <;> simp

@[simp] theorem Ev.kept_fireRelease (e : Ev) (b : BayIx) : (e.fireRelease b).1.s.kept = e.s.kept := by
  simp only [Ev.fireRelease]; split <;> simp

@[simp] theorem Ev.kept_fireBack (e : Ev) (b : BayIx) : (e.fireBack b).1.s.kept = e.s.kept := by
  simp only [Ev.fireBack]
  repeat' split
  all_goals simp

@[simp] theorem Ev.kept_fireClose (e : Ev) (b : BayIx) : (e.fireClose b).1.s.kept = e.s.kept := by
  simp only [Ev.fireClose]; split <;> simp

@[simp] theorem Ev.kept_fireUndo (e : Ev) (b : BayIx) : (e.fireUndo b).1.s.kept = e.s.kept := by
  simp only [Ev.fireUndo]; split <;> simp

@[simp] theorem Ev.kept_linkLoss (e : Ev) (b : BayIx) : (e.linkLoss b).1.s.kept = e.s.kept := by
  simp only [Ev.linkLoss]
  repeat' split
  all_goals simp

@[simp] theorem Ev.kept_exitClose (e : Ev) (b : BayIx) : (e.exitClose b).1.s.kept = e.s.kept := by
  simp only [Ev.exitClose]; split <;> simp

@[simp] theorem Ev.kept_leaveMaintenance (e : Ev) : e.leaveMaintenance.1.s.kept = e.s.kept := by simp [Ev.leaveMaintenance]

@[simp] theorem Ev.kept_returnEmpty (e : Ev) (k : EventKind) (v : Nat) : (e.returnEmpty k v).1.s.kept = e.s.kept := by
  simp [Ev.returnEmpty]

@[simp] theorem Ev.kept_departWatch (e : Ev) : e.departWatch.1.s.kept = e.s.kept := by
  unfold Ev.departWatch; split <;> simp

@[simp] theorem Ev.kept_keyActive (e : Ev) (b : BayIx) : (e.keyActive b).1.s.kept = e.s.kept := by
  unfold Ev.keyActive; split <;> simp

@[simp] theorem Ev.kept_keyInactive (e : Ev) (b : BayIx) : (e.keyInactive b).1.s.kept = e.s.kept := by
  unfold Ev.keyInactive; split <;> simp

@[simp] theorem Ev.kept_doorInput (e : Ev) (b : BayIx) : (e.doorInput b).1.s.kept = e.s.kept := by
  simp only [Ev.doorInput]
  repeat' split
  all_goals simp

@[simp] theorem Ev.kept_fireReset (e : Ev) : e.fireReset.1.s.kept = e.s.kept := by
  simp only [Ev.fireReset]
  repeat' split
  all_goals simp

@[simp] theorem Ev.kept_act (e : Ev) (a : BayAction) (b : BayIx) : (e.act a b).1.s.kept = e.s.kept := by
  cases a
  case hold => exact Ev.kept_onBay _ _ _ (fun _ => rfl)
  case free => exact Ev.kept_onBay _ _ _ (fun _ => rfl)
  case isolate => simp only [Ev.act, Ev.isolate]; split <;> simp
  case restore =>
    have h : ((e.enter b .closedLocked).onBay b (fun x => { x with hold := true })).s.kept = e.s.kept := by
      rw [Ev.kept_onBay, Ev.kept_enter]; exact fun _ => rfl
    simp only [Ev.act, Ev.restore]; split
    · rw [Ev.kept_enterReleased, h]
    · exact h
  all_goals simp [Ev.act, Ev.clearFault]

@[simp] theorem Ev.kept_command (e : Ev) (a : BayAction) (b : BayIx) : (e.command a b).1.s.kept = e.s.kept := by
  unfold Ev.command; split <;> simp

/-! ### Tasks -/

/-- No task touches what is kept. -/
@[simp] theorem Task.kept_perform (t : Task) (e : Ev) : (t.perform e).1.s.kept = e.s.kept := by
  cases t <;> simp [Task.perform, Ev.haltStop]

/-- No list of tasks, carried out to its end or to the bound, touches what is kept; past the bound the part is stalled. -/
theorem run_kept (n : Nat) (ts : List Task) (e : Ev) :
    (run n ts e).s.kept = { e.s.kept with stalled := (run n ts e).s.stalled } := by
  induction n generalizing ts e with
  | zero => cases ts <;> rfl
  | succ n ih =>
    cases ts with
    | nil => rfl
    | cons t ts => simp only [run]; rw [ih, Task.kept_perform]

end Sys2Proof.Machine
end

