-- ==== Sys2Proof/Laws/Event.lean ====
section
/-! SUPPORT. An event carried to its end: how the list of tasks runs, what a property needs to survive it, what the end of an
event leaves as it was, the cases of one step, and what every event as a whole leaves as it was. -/

namespace Sys2Proof.Machine

/-! ### Running tasks -/

@[simp] theorem run_nil (n : Nat) (e : Ev) : run n [] e = e := by cases n <;> rfl

theorem run_cons (n : Nat) (t : Task) (ts : List Task) (e : Ev) :
    run (n + 1) (t :: ts) e = run n ((t.perform e).2 ++ ts) (t.perform e).1 := rfl

/-- A property of events that every task keeps, whatever the tasks that wait, is kept by a run; past the bound it must bear
the stall. -/
theorem run_keeps (P : Ev → Prop) (hp : ∀ (t : Task) (e : Ev), P e → P (t.perform e).1)
    (hs : ∀ e : Ev, P e → P (e.on (fun s => { s with stalled := true }))) (n : Nat) (ts : List Task) (e : Ev) (h : P e) :
    P (run n ts e) := by
  induction n generalizing ts e with
  | zero => cases ts with
    | nil => exact h
    | cons t ts => exact hs e h
  | succ n ih => cases ts with
    | nil => exact h
    | cons t ts => exact ih _ _ (hp t e h)

/-- The same for a property of the event together with the tasks that wait: it may speak of what they still have to do. -/
theorem run_agenda (P : List Task → Ev → Prop) (hp : ∀ (t : Task) (ts : List Task) (e : Ev), P (t :: ts) e → P ((t.perform e).2 ++ ts) (t.perform e).1)
    (n : Nat) (ts : List Task) (e : Ev) (h : P ts e) : (run n ts e).s.stalled = true ∨ P [] (run n ts e) := by
  induction n generalizing ts e with
  | zero => cases ts with
    | nil => exact .inr h
    | cons t ts => exact .inl rfl
  | succ n ih => cases ts with
    | nil => rw [run_nil]; exact .inr h
    | cons t ts => exact ih _ _ (hp t ts e h)

/-! ### Runs that come to their end -/

/-- A list of tasks comes to its end in k steps, from one event to another. -/
inductive Runs : Nat → List Task → Ev → Ev → Prop
  | nil (e : Ev) : Runs 0 [] e e
  | cons {k : Nat} {t : Task} {ts : List Task} {e e' : Ev} (h : Runs k ((t.perform e).2 ++ ts) (t.perform e).1 e') :
      Runs (k + 1) (t :: ts) e e'

/-- A run with enough steps to spare gives the event that its tasks come to. -/
theorem run_of_runs {k n : Nat} {ts : List Task} {e e' : Ev} (h : Runs k ts e e') (hk : k ≤ n) : run n ts e = e' := by
  induction h generalizing n with
  | nil e => exact run_nil n e
  | cons h ih =>
    cases n with
    | zero => omega
    | succ n => exact ih (by omega)

/-- Tasks one after the other. -/
theorem Runs.append {k m : Nat} {ts us : List Task} {e e' e'' : Ev} (h : Runs k ts e e') (hu : Runs m us e' e'') :
    Runs (k + m) (ts ++ us) e e'' := by
  induction h with
  | nil e => simpa using hu
  | cons h ih =>
    rw [Nat.succ_add]
    exact .cons (by simpa using ih hu)

/-- One task whose own tasks come to their end. -/
theorem Runs.single {k : Nat} {t : Task} {e e' : Ev} (h : Runs k (t.perform e).2 (t.perform e).1 e') :
    Runs (k + 1) [t] e e' := .cons (by simpa using h)

/-- A task that puts no other before the rest. -/
theorem Runs.step {k : Nat} {t : Task} {ts : List Task} {e e' : Ev} (h0 : (t.perform e).2 = [])
    (h : Runs k ts (t.perform e).1 e') : Runs (k + 1) (t :: ts) e e' := .cons (by rw [h0]; exact h)

/-- What comes to its end leaves what is kept as it was, the stall among it. -/
theorem Runs.kept {k : Nat} {ts : List Task} {e e' : Ev} (h : Runs k ts e e') : e'.s.kept = e.s.kept := by
  induction h with
  | nil e => rfl
  | cons h ih => rw [ih, Task.kept_perform]

/-! ### The end of an event -/

theorem State.kept_stuckWatch (s : State) (b : BayIx) : (s.stuckWatch b).kept = s.kept := by
  simp only [State.stuckWatch]; split
  · rfl
  · exact s.kept_setBay b _ rfl rfl

theorem State.kept_watchStuck (s : State) : s.watchStuck.kept = s.kept := State.kept_foldl _ State.kept_stuckWatch _ _

theorem State.core_stuckWatch (s : State) (b c : BayIx) : ((s.stuckWatch b).bay c).core = (s.bay c).core := by
  simp only [State.stuckWatch]; split
  · rfl
  · rw [State.bay_setBay]; split
    · next h => subst h; rfl
    · rfl

/-- What the stuck watch leaves as it was: everything but the bays. -/
theorem State.stuckWatch_same (s : State) (b : BayIx) : { s.stuckWatch b with bays := s.bays } = s := by
  simp only [State.stuckWatch]; split <;> rfl

theorem State.watchStuck_same (s : State) : { s.watchStuck with bays := s.bays } = s := by
  have h (l : List BayIx) (s : State) : { l.foldl State.stuckWatch s with bays := s.bays } = s := by
    induction l generalizing s with
    | nil => rfl
    | cons b l ih =>
      have h1 := ih (s.stuckWatch b)
      have h2 := s.stuckWatch_same b
      calc { l.foldl State.stuckWatch (s.stuckWatch b) with bays := s.bays }
          = { { l.foldl State.stuckWatch (s.stuckWatch b) with bays := (s.stuckWatch b).bays } with bays := s.bays } := rfl
        _ = { s.stuckWatch b with bays := s.bays } := by rw [h1]
        _ = s := h2
  exact h allBays s

theorem State.core_watchStuck (s : State) (c : BayIx) : (s.watchStuck.bay c).core = (s.bay c).core := by
  have h (l : List BayIx) (s : State) : ((l.foldl State.stuckWatch s).bay c).core = (s.bay c).core := by
    induction l generalizing s with
    | nil => rfl
    | cons b l ih => rw [List.foldl_cons, ih, State.core_stuckWatch]
  exact h allBays s

theorem Bay.core_lines (x : Bay) : x.core.lines = x.lines := rfl

theorem Bay.core_trace (x : Bay) : x.core.trace = x.trace := rfl

/-- The end of an event, one part after the other. -/
theorem State.settle_eq (s : State) : s.settle = s.resumeStore.watchStuck.formAlarm.formProof.formPins := rfl

/-- What resuming a commit leaves as it was: everything but the store's state and the queue. -/
theorem State.resumeStore_same (s : State) :
    { s.resumeStore with store := s.store, events := s.events } = s := by
  unfold State.resumeStore; split <;> rfl

theorem State.resumeStore_store (s : State) : { s.resumeStore.store with state := s.store.state } = s.store := by
  unfold State.resumeStore; split <;> rfl

theorem State.resumeStore_mask (s : State) : s.resumeStore.events.mask = s.events.mask := by
  unfold State.resumeStore; split <;> simp

theorem State.resumeStore_authority (s : State) : s.resumeStore.events.authority = s.events.authority := by
  unfold State.resumeStore; split <;> simp

/-- What forming the proof leaves as it was: everything but the proof and the queue. -/
theorem State.formProof_same (s : State) : { s.formProof with proof := s.proof, events := s.events } = s := by
  simp only [State.formProof]; split <;> rfl

theorem State.formProof_mask (s : State) : s.formProof.events.mask = s.events.mask := by
  simp only [State.formProof]; split <;> simp

theorem State.formProof_authority (s : State) : s.formProof.events.authority = s.events.authority := by
  simp only [State.formProof]; split <;> simp

@[simp] theorem State.formProof_proof (s : State) : s.formProof.proof = s.proofNow := by
  simp only [State.formProof]; split <;> rfl

/-- The end of an event touches the bays, the alarm, the proof, the pins, the queue and the store's state, and nothing
else. -/
theorem State.settle_same (s : State) :
    { s.settle with
        bays := s.bays, store := s.store, release := s.release, proof := s.proof, pins := s.pins, events := s.events } = s := by
  have h1 := s.resumeStore_same
  have h2 := s.resumeStore.watchStuck_same
  have h4 := s.resumeStore.watchStuck.formAlarm.formProof_same
  calc { s.settle with
          bays := s.bays, store := s.store, release := s.release, proof := s.proof, pins := s.pins, events := s.events }
      = { { s.resumeStore.watchStuck.formAlarm.formProof with
              proof := s.resumeStore.watchStuck.formAlarm.proof, events := s.resumeStore.watchStuck.formAlarm.events } with
            bays := s.bays, store := s.store, release := s.release, proof := s.proof, pins := s.pins, events := s.events } := rfl
    _ = { { s.resumeStore.watchStuck with bays := s.resumeStore.bays } with
            bays := s.bays, store := s.store, release := s.release, proof := s.proof, pins := s.pins, events := s.events } := by
          rw [h4]; rfl
    _ = { { s.resumeStore with store := s.store, events := s.events } with
            bays := s.bays, store := s.store, release := s.release, proof := s.proof, pins := s.pins, events := s.events } := by
          rw [h2]
    _ = s := by rw [h1]

theorem State.settle_power (s : State) : s.settle.power = s.power := by
  have h := congrArg State.power s.settle_same; dsimp only at h; exact h
theorem State.settle_uptime (s : State) : s.settle.uptime = s.uptime := by
  have h := congrArg State.uptime s.settle_same; dsimp only at h; exact h
theorem State.settle_mode (s : State) : s.settle.mode = s.mode := by
  have h := congrArg State.mode s.settle_same; dsimp only at h; exact h
theorem State.settle_lines (s : State) : s.settle.lines = s.lines := by
  have h := congrArg State.lines s.settle_same; dsimp only at h; exact h
theorem State.settle_gap (s : State) : s.settle.gap = s.gap := by
  have h := congrArg State.gap s.settle_same; dsimp only at h; exact h
theorem State.settle_train (s : State) : s.settle.train = s.train := by
  have h := congrArg State.train s.settle_same; dsimp only at h; exact h
theorem State.settle_supervision (s : State) : s.settle.supervision = s.supervision := by
  have h := congrArg State.supervision s.settle_same; dsimp only at h; exact h
theorem State.settle_platformFrame (s : State) : s.settle.platformFrame = s.platformFrame := by
  have h := congrArg State.platformFrame s.settle_same; dsimp only at h; exact h
theorem State.settle_station (s : State) : s.settle.station = s.station := by
  have h := congrArg State.station s.settle_same; dsimp only at h; exact h
theorem State.settle_signalling (s : State) : s.settle.signalling = s.signalling := by
  have h := congrArg State.signalling s.settle_same; dsimp only at h; exact h
theorem State.settle_stalled (s : State) : s.settle.stalled = s.stalled := by
  have h := congrArg State.stalled s.settle_same; dsimp only at h; exact h
theorem State.settle_freeCount (s : State) : s.settle.freeCount = s.freeCount := by
  have h := congrArg State.freeCount s.settle_same; dsimp only at h; exact h
theorem State.settle_pending (s : State) : s.settle.pending = s.pending := by
  have h := congrArg State.pending s.settle_same; dsimp only at h; exact h

theorem State.formPins_pins (s : State) : s.formPins.pins = s.formPins.pinsNow := rfl

/-- After an event the pins are those of the state. -/
theorem State.settle_pins (s : State) : s.settle.pins = s.settle.pinsNow := by
  unfold State.settle; exact State.formPins_pins _

/-- The end of an event leaves of the store all but its state. -/
theorem State.settle_store (s : State) : { s.settle.store with state := s.store.state } = s.store := by
  have h1 : s.settle.store = s.resumeStore.store := by
    have h2 := congrArg State.store s.resumeStore.watchStuck_same
    have h4 := congrArg State.store s.resumeStore.watchStuck.formAlarm.formProof_same
    dsimp only at h2 h4
    rw [State.settle_eq, State.formPins_store, h4, State.formAlarm_store, h2]
  rw [h1]; exact s.resumeStore_store

/-- The end of an event leaves of every bay all but its stuck timers. -/
theorem State.settle_core (s : State) (b : BayIx) : (s.settle.bay b).core = (s.bay b).core := by
  have h1 : s.settle.bays = s.resumeStore.watchStuck.bays := by
    have h4 := congrArg State.bays s.resumeStore.watchStuck.formAlarm.formProof_same
    dsimp only at h4
    rw [State.settle_eq, State.formPins_bays, h4, State.formAlarm_bays]
  have h0 := congrArg State.bays s.resumeStore_same
  have h6 : s.settle.bay b = s.resumeStore.watchStuck.bay b := by unfold State.bay; rw [h1]
  have h7 : s.resumeStore.bay b = s.bay b := by
    unfold State.bay; dsimp only at h0; rw [h0]
  rw [h6, State.core_watchStuck, h7]

theorem State.settle_bayLines (s : State) (b : BayIx) : (s.settle.bay b).lines = (s.bay b).lines := by
  rw [← Bay.core_lines, State.settle_core, Bay.core_lines]

theorem State.settle_trace (s : State) (b : BayIx) : (s.settle.bay b).trace = (s.bay b).trace := by
  rw [← Bay.core_trace, State.settle_core, Bay.core_trace]

theorem State.settle_mask (s : State) : s.settle.events.mask = s.events.mask := by
  have h2 := congrArg State.events s.resumeStore.watchStuck_same
  dsimp only at h2
  rw [State.settle_eq, State.formPins_events, State.formProof_mask, State.formAlarm_events, h2, State.resumeStore_mask]

theorem State.settle_authority (s : State) : s.settle.events.authority = s.events.authority := by
  have h2 := congrArg State.events s.resumeStore.watchStuck_same
  dsimp only at h2
  rw [State.settle_eq, State.formPins_events, State.formProof_authority, State.formAlarm_events, h2, State.resumeStore_authority]

/-! ### One step -/

theorem step_of_pending {s : State} {c : Instr} {rest : List Instr} (h : s.pending = c :: rest) :
    step s = exec c { s with pending := rest } := by simp only [step, h]

theorem step_of_due {s : State} {c : Instr} (h : s.pending = []) (hd : s.dueCommand = some c) : step s = exec c s := by
  simp only [step, h, hd]

theorem step_of_none_due {s : State} (h : s.pending = []) (hd : s.dueCommand = none) : step s = .next s.tick := by
  simp only [step, h, hd]

theorem State.dueCommand_of_stopped {s : State} (h : s.runs = false) : s.dueCommand = none := by simp [State.dueCommand, h]

theorem State.dueCommand_of_runs {s : State} (h : s.runs = true) : s.dueCommand = s.expiries.head? := by
  simp [State.dueCommand, h]

theorem State.tick_of_stopped {s : State} (h : s.runs = false) : s.tick = s := by simp [State.tick, h]

theorem State.tick_of_runs {s : State} (h : s.runs = true) : s.tick = s.count := by simp [State.tick, h]

/-! ### What every event leaves as it was -/

/-- Tasks carried to their end, and the end of the event, leave as it was all that Stands, StoreStands, LinksStand and
LinesStand name, and supervision. -/
theorem Ev.finish_stands (e : Ev) (ts : List Task) :
    Stands e.s (e.finish ts).s ∧ StoreStands e.s (e.finish ts).s ∧ LinksStand e.s (e.finish ts).s
      ∧ LinesStand e.s (e.finish ts).s ∧ (e.finish ts).s.supervision = e.s.supervision := by
  have hk := run_kept Config.eventBound ts e
  generalize hr : run Config.eventBound ts e = r at hk
  have he : (e.finish ts).s = r.s.settle := by rw [Ev.finish, hr, Ev.on_s]
  rw [he]
  have hstore := r.s.settle_store
  have hs := State.kept_store hk
  refine ⟨⟨?_, ?_, ?_, ?_, ?_, ?_, ?_, ?_, ?_, ?_, ?_⟩, ?_, ⟨?_, ?_, ?_⟩, ⟨?_, ?_⟩, ?_⟩
  · rw [State.settle_power, State.kept_power hk]
  · rw [State.settle_uptime, State.kept_uptime hk]
  · have h := congrArg Store.area hstore; dsimp only at h; rw [h, hs]
  · have h := congrArg Store.frozen hstore; dsimp only at h; rw [h, hs]
  · rw [State.settle_pending, State.kept_pending hk]
  · rw [State.settle_mode, State.kept_restartCause hk]
  · rw [State.settle_mode, State.kept_restartAccepted hk]
  · rw [State.settle_mask, State.kept_mask hk]
  · rw [State.settle_authority, State.kept_authority hk]
  · intro b; rw [State.settle_trace, State.kept_trace hk]
  · rw [State.settle_freeCount, State.kept_freeCount hk]
  · rw [hs] at hstore; exact hstore
  · rw [State.settle_station, State.kept_station hk]
  · rw [State.settle_signalling, State.kept_signalling hk]
  · rw [State.settle_mode, State.kept_preparation hk]
  · rw [State.settle_lines, State.kept_lines hk]
  · intro b; rw [State.settle_bayLines, State.kept_bayLines hk]
  · rw [State.settle_supervision, State.kept_supervision hk]

/-- An evaluation of the proof that follows another gives the same. -/
theorem State.formProof_again (s : State) : s.formProof.proofNow = s.proofNow := by
  simp only [State.formProof]; split <;> rfl

/-- After an event the proof is the one that the state gives. -/
theorem State.settle_proof (s : State) : s.settle.proof = s.settle.proofNow := by
  have h (t : State) : t.formPins.proofNow = t.proofNow := rfl
  rw [State.settle_eq, State.formPins_proof, h, State.formProof_again, State.formProof_proof]

/-- The pins follow the state after every event. -/
theorem Ev.finish_pins (e : Ev) (ts : List Task) : PinsFollow (e.finish ts).s := State.settle_pins _

end Sys2Proof.Machine
end

