-- ==== Sys2Proof/Laws/Bay.lean ====
section
/-! SUPPORT. What the shared operations of an event do to each part of the state: one lemma per field they leave alone, and
what a bay becomes when it enters a phase or has its presence formed. -/

namespace Sys2Proof.Machine

/-! ### Clearing a frame -/

@[simp] theorem State.clearFrame_power (s : State) (c : ClearCause) (b : BayIx) : (s.clearFrame c b).power = s.power := rfl
@[simp] theorem State.clearFrame_uptime (s : State) (c : ClearCause) (b : BayIx) : (s.clearFrame c b).uptime = s.uptime := rfl
@[simp] theorem State.clearFrame_mode (s : State) (c : ClearCause) (b : BayIx) : (s.clearFrame c b).mode = s.mode := rfl
@[simp] theorem State.clearFrame_lines (s : State) (c : ClearCause) (b : BayIx) : (s.clearFrame c b).lines = s.lines := rfl
@[simp] theorem State.clearFrame_gap (s : State) (c : ClearCause) (b : BayIx) : (s.clearFrame c b).gap = s.gap := rfl
@[simp] theorem State.clearFrame_train (s : State) (c : ClearCause) (b : BayIx) : (s.clearFrame c b).train = s.train := rfl
@[simp] theorem State.clearFrame_proof (s : State) (c : ClearCause) (b : BayIx) : (s.clearFrame c b).proof = s.proof := rfl
@[simp] theorem State.clearFrame_release (s : State) (c : ClearCause) (b : BayIx) : (s.clearFrame c b).release = s.release := rfl
@[simp] theorem State.clearFrame_supervision (s : State) (c : ClearCause) (b : BayIx) : (s.clearFrame c b).supervision = s.supervision := rfl
@[simp] theorem State.clearFrame_platformFrame (s : State) (c : ClearCause) (b : BayIx) : (s.clearFrame c b).platformFrame = s.platformFrame := rfl
@[simp] theorem State.clearFrame_store (s : State) (c : ClearCause) (b : BayIx) : (s.clearFrame c b).store = s.store := rfl
@[simp] theorem State.clearFrame_station (s : State) (c : ClearCause) (b : BayIx) : (s.clearFrame c b).station = s.station := rfl
@[simp] theorem State.clearFrame_signalling (s : State) (c : ClearCause) (b : BayIx) : (s.clearFrame c b).signalling = s.signalling := rfl
@[simp] theorem State.clearFrame_pins (s : State) (c : ClearCause) (b : BayIx) : (s.clearFrame c b).pins = s.pins := rfl
@[simp] theorem State.clearFrame_stalled (s : State) (c : ClearCause) (b : BayIx) : (s.clearFrame c b).stalled = s.stalled := rfl
@[simp] theorem State.clearFrame_freeCount (s : State) (c : ClearCause) (b : BayIx) : (s.clearFrame c b).freeCount = s.freeCount := rfl
@[simp] theorem State.clearFrame_pending (s : State) (c : ClearCause) (b : BayIx) : (s.clearFrame c b).pending = s.pending := rfl

/-! ### Making room in the release log -/

@[simp] theorem State.makeLogRoom_power (s : State) : s.makeLogRoom.power = s.power := by
  unfold State.makeLogRoom; split
  · rfl
  · split <;> rfl
@[simp] theorem State.makeLogRoom_uptime (s : State) : s.makeLogRoom.uptime = s.uptime := by
  unfold State.makeLogRoom; split
  · rfl
  · split <;> rfl
@[simp] theorem State.makeLogRoom_mode (s : State) : s.makeLogRoom.mode = s.mode := by
  unfold State.makeLogRoom; split
  · rfl
  · split <;> rfl
@[simp] theorem State.makeLogRoom_bays (s : State) : s.makeLogRoom.bays = s.bays := by
  unfold State.makeLogRoom; split
  · rfl
  · split <;> rfl
@[simp] theorem State.makeLogRoom_lines (s : State) : s.makeLogRoom.lines = s.lines := by
  unfold State.makeLogRoom; split
  · rfl
  · split <;> rfl
@[simp] theorem State.makeLogRoom_gap (s : State) : s.makeLogRoom.gap = s.gap := by
  unfold State.makeLogRoom; split
  · rfl
  · split <;> rfl
@[simp] theorem State.makeLogRoom_train (s : State) : s.makeLogRoom.train = s.train := by
  unfold State.makeLogRoom; split
  · rfl
  · split <;> rfl
@[simp] theorem State.makeLogRoom_proof (s : State) : s.makeLogRoom.proof = s.proof := by
  unfold State.makeLogRoom; split
  · rfl
  · split <;> rfl
@[simp] theorem State.makeLogRoom_supervision (s : State) : s.makeLogRoom.supervision = s.supervision := by
  unfold State.makeLogRoom; split
  · rfl
  · split <;> rfl
@[simp] theorem State.makeLogRoom_platformFrame (s : State) : s.makeLogRoom.platformFrame = s.platformFrame := by
  unfold State.makeLogRoom; split
  · rfl
  · split <;> rfl
@[simp] theorem State.makeLogRoom_store (s : State) : s.makeLogRoom.store = s.store := by
  unfold State.makeLogRoom; split
  · rfl
  · split <;> rfl
@[simp] theorem State.makeLogRoom_station (s : State) : s.makeLogRoom.station = s.station := by
  unfold State.makeLogRoom; split
  · rfl
  · split <;> rfl
@[simp] theorem State.makeLogRoom_signalling (s : State) : s.makeLogRoom.signalling = s.signalling := by
  unfold State.makeLogRoom; split
  · rfl
  · split <;> rfl
@[simp] theorem State.makeLogRoom_pins (s : State) : s.makeLogRoom.pins = s.pins := by
  unfold State.makeLogRoom; split
  · rfl
  · split <;> rfl
@[simp] theorem State.makeLogRoom_stalled (s : State) : s.makeLogRoom.stalled = s.stalled := by
  unfold State.makeLogRoom; split
  · rfl
  · split <;> rfl
@[simp] theorem State.makeLogRoom_freeCount (s : State) : s.makeLogRoom.freeCount = s.freeCount := by
  unfold State.makeLogRoom; split
  · rfl
  · split <;> rfl
@[simp] theorem State.makeLogRoom_pending (s : State) : s.makeLogRoom.pending = s.pending := by
  unfold State.makeLogRoom; split
  · rfl
  · split <;> rfl

/-! ### Opening a release record -/

@[simp] theorem State.openRecord_power (s : State) (k : ReleaseKind) (b : Option BayIx) (f : Option FireSource) : (s.openRecord k b f).power = s.power := by
  unfold State.openRecord; cases k <;> simp
@[simp] theorem State.openRecord_uptime (s : State) (k : ReleaseKind) (b : Option BayIx) (f : Option FireSource) : (s.openRecord k b f).uptime = s.uptime := by
  unfold State.openRecord; cases k <;> simp
@[simp] theorem State.openRecord_mode (s : State) (k : ReleaseKind) (b : Option BayIx) (f : Option FireSource) : (s.openRecord k b f).mode = s.mode := by
  unfold State.openRecord; cases k <;> simp
@[simp] theorem State.openRecord_bays (s : State) (k : ReleaseKind) (b : Option BayIx) (f : Option FireSource) : (s.openRecord k b f).bays = s.bays := by
  unfold State.openRecord; cases k <;> simp
@[simp] theorem State.openRecord_lines (s : State) (k : ReleaseKind) (b : Option BayIx) (f : Option FireSource) : (s.openRecord k b f).lines = s.lines := by
  unfold State.openRecord; cases k <;> simp
@[simp] theorem State.openRecord_gap (s : State) (k : ReleaseKind) (b : Option BayIx) (f : Option FireSource) : (s.openRecord k b f).gap = s.gap := by
  unfold State.openRecord; cases k <;> simp
@[simp] theorem State.openRecord_train (s : State) (k : ReleaseKind) (b : Option BayIx) (f : Option FireSource) : (s.openRecord k b f).train = s.train := by
  unfold State.openRecord; cases k <;> simp
@[simp] theorem State.openRecord_proof (s : State) (k : ReleaseKind) (b : Option BayIx) (f : Option FireSource) : (s.openRecord k b f).proof = s.proof := by
  unfold State.openRecord; cases k <;> simp
@[simp] theorem State.openRecord_supervision (s : State) (k : ReleaseKind) (b : Option BayIx) (f : Option FireSource) : (s.openRecord k b f).supervision = s.supervision := by
  unfold State.openRecord; cases k <;> simp
@[simp] theorem State.openRecord_platformFrame (s : State) (k : ReleaseKind) (b : Option BayIx) (f : Option FireSource) : (s.openRecord k b f).platformFrame = s.platformFrame := by
  unfold State.openRecord; cases k <;> simp
@[simp] theorem State.openRecord_store (s : State) (k : ReleaseKind) (b : Option BayIx) (f : Option FireSource) : (s.openRecord k b f).store = s.store := by
  unfold State.openRecord; cases k <;> simp
@[simp] theorem State.openRecord_station (s : State) (k : ReleaseKind) (b : Option BayIx) (f : Option FireSource) : (s.openRecord k b f).station = s.station := by
  unfold State.openRecord; cases k <;> simp
@[simp] theorem State.openRecord_signalling (s : State) (k : ReleaseKind) (b : Option BayIx) (f : Option FireSource) : (s.openRecord k b f).signalling = s.signalling := by
  unfold State.openRecord; cases k <;> simp
@[simp] theorem State.openRecord_pins (s : State) (k : ReleaseKind) (b : Option BayIx) (f : Option FireSource) : (s.openRecord k b f).pins = s.pins := by
  unfold State.openRecord; cases k <;> simp
@[simp] theorem State.openRecord_stalled (s : State) (k : ReleaseKind) (b : Option BayIx) (f : Option FireSource) : (s.openRecord k b f).stalled = s.stalled := by
  unfold State.openRecord; cases k <;> simp
@[simp] theorem State.openRecord_freeCount (s : State) (k : ReleaseKind) (b : Option BayIx) (f : Option FireSource) : (s.openRecord k b f).freeCount = s.freeCount := by
  unfold State.openRecord; cases k <;> simp
@[simp] theorem State.openRecord_pending (s : State) (k : ReleaseKind) (b : Option BayIx) (f : Option FireSource) : (s.openRecord k b f).pending = s.pending := by
  unfold State.openRecord; cases k <;> simp

/-! ### Restoring a release record -/

@[simp] theorem State.restoreRecord_power (s : State) (p : ReleaseRecord → Bool) : (s.restoreRecord p).power = s.power := by
  unfold State.restoreRecord
  rcases restoreIn s.uptime p s.release.log with ⟨log, found⟩
  cases found with
  | none => rfl
  | some r => rcases h : r.kind <;> simp [h]
@[simp] theorem State.restoreRecord_uptime (s : State) (p : ReleaseRecord → Bool) : (s.restoreRecord p).uptime = s.uptime := by
  unfold State.restoreRecord
  rcases restoreIn s.uptime p s.release.log with ⟨log, found⟩
  cases found with
  | none => rfl
  | some r => rcases h : r.kind <;> simp [h]
@[simp] theorem State.restoreRecord_mode (s : State) (p : ReleaseRecord → Bool) : (s.restoreRecord p).mode = s.mode := by
  unfold State.restoreRecord
  rcases restoreIn s.uptime p s.release.log with ⟨log, found⟩
  cases found with
  | none => rfl
  | some r => rcases h : r.kind <;> simp [h]
@[simp] theorem State.restoreRecord_bays (s : State) (p : ReleaseRecord → Bool) : (s.restoreRecord p).bays = s.bays := by
  unfold State.restoreRecord
  rcases restoreIn s.uptime p s.release.log with ⟨log, found⟩
  cases found with
  | none => rfl
  | some r => rcases h : r.kind <;> simp [h]
@[simp] theorem State.restoreRecord_lines (s : State) (p : ReleaseRecord → Bool) : (s.restoreRecord p).lines = s.lines := by
  unfold State.restoreRecord
  rcases restoreIn s.uptime p s.release.log with ⟨log, found⟩
  cases found with
  | none => rfl
  | some r => rcases h : r.kind <;> simp [h]
@[simp] theorem State.restoreRecord_gap (s : State) (p : ReleaseRecord → Bool) : (s.restoreRecord p).gap = s.gap := by
  unfold State.restoreRecord
  rcases restoreIn s.uptime p s.release.log with ⟨log, found⟩
  cases found with
  | none => rfl
  | some r => rcases h : r.kind <;> simp [h]
@[simp] theorem State.restoreRecord_train (s : State) (p : ReleaseRecord → Bool) : (s.restoreRecord p).train = s.train := by
  unfold State.restoreRecord
  rcases restoreIn s.uptime p s.release.log with ⟨log, found⟩
  cases found with
  | none => rfl
  | some r => rcases h : r.kind <;> simp [h]
@[simp] theorem State.restoreRecord_proof (s : State) (p : ReleaseRecord → Bool) : (s.restoreRecord p).proof = s.proof := by
  unfold State.restoreRecord
  rcases restoreIn s.uptime p s.release.log with ⟨log, found⟩
  cases found with
  | none => rfl
  | some r => rcases h : r.kind <;> simp [h]
@[simp] theorem State.restoreRecord_supervision (s : State) (p : ReleaseRecord → Bool) : (s.restoreRecord p).supervision = s.supervision := by
  unfold State.restoreRecord
  rcases restoreIn s.uptime p s.release.log with ⟨log, found⟩
  cases found with
  | none => rfl
  | some r => rcases h : r.kind <;> simp [h]
@[simp] theorem State.restoreRecord_platformFrame (s : State) (p : ReleaseRecord → Bool) : (s.restoreRecord p).platformFrame = s.platformFrame := by
  unfold State.restoreRecord
  rcases restoreIn s.uptime p s.release.log with ⟨log, found⟩
  cases found with
  | none => rfl
  | some r => rcases h : r.kind <;> simp [h]
@[simp] theorem State.restoreRecord_store (s : State) (p : ReleaseRecord → Bool) : (s.restoreRecord p).store = s.store := by
  unfold State.restoreRecord
  rcases restoreIn s.uptime p s.release.log with ⟨log, found⟩
  cases found with
  | none => rfl
  | some r => rcases h : r.kind <;> simp [h]
@[simp] theorem State.restoreRecord_station (s : State) (p : ReleaseRecord → Bool) : (s.restoreRecord p).station = s.station := by
  unfold State.restoreRecord
  rcases restoreIn s.uptime p s.release.log with ⟨log, found⟩
  cases found with
  | none => rfl
  | some r => rcases h : r.kind <;> simp [h]
@[simp] theorem State.restoreRecord_signalling (s : State) (p : ReleaseRecord → Bool) : (s.restoreRecord p).signalling = s.signalling := by
  unfold State.restoreRecord
  rcases restoreIn s.uptime p s.release.log with ⟨log, found⟩
  cases found with
  | none => rfl
  | some r => rcases h : r.kind <;> simp [h]
@[simp] theorem State.restoreRecord_pins (s : State) (p : ReleaseRecord → Bool) : (s.restoreRecord p).pins = s.pins := by
  unfold State.restoreRecord
  rcases restoreIn s.uptime p s.release.log with ⟨log, found⟩
  cases found with
  | none => rfl
  | some r => rcases h : r.kind <;> simp [h]
@[simp] theorem State.restoreRecord_stalled (s : State) (p : ReleaseRecord → Bool) : (s.restoreRecord p).stalled = s.stalled := by
  unfold State.restoreRecord
  rcases restoreIn s.uptime p s.release.log with ⟨log, found⟩
  cases found with
  | none => rfl
  | some r => rcases h : r.kind <;> simp [h]
@[simp] theorem State.restoreRecord_freeCount (s : State) (p : ReleaseRecord → Bool) : (s.restoreRecord p).freeCount = s.freeCount := by
  unfold State.restoreRecord
  rcases restoreIn s.uptime p s.release.log with ⟨log, found⟩
  cases found with
  | none => rfl
  | some r => rcases h : r.kind <;> simp [h]
@[simp] theorem State.restoreRecord_pending (s : State) (p : ReleaseRecord → Bool) : (s.restoreRecord p).pending = s.pending := by
  unfold State.restoreRecord
  rcases restoreIn s.uptime p s.release.log with ⟨log, found⟩
  cases found with
  | none => rfl
  | some r => rcases h : r.kind <;> simp [h]

/-! ### Forming a presence state -/

@[simp] theorem State.formPresence_power (s : State) (c : BayIx) : (s.formPresence c).power = s.power := by
  simp only [State.formPresence]; split <;> rfl
@[simp] theorem State.formPresence_uptime (s : State) (c : BayIx) : (s.formPresence c).uptime = s.uptime := by
  simp only [State.formPresence]; split <;> rfl
@[simp] theorem State.formPresence_mode (s : State) (c : BayIx) : (s.formPresence c).mode = s.mode := by
  simp only [State.formPresence]; split <;> rfl
@[simp] theorem State.formPresence_lines (s : State) (c : BayIx) : (s.formPresence c).lines = s.lines := by
  simp only [State.formPresence]; split <;> rfl
@[simp] theorem State.formPresence_gap (s : State) (c : BayIx) : (s.formPresence c).gap = s.gap := by
  simp only [State.formPresence]; split <;> rfl
@[simp] theorem State.formPresence_train (s : State) (c : BayIx) : (s.formPresence c).train = s.train := by
  simp only [State.formPresence]; split <;> rfl
@[simp] theorem State.formPresence_proof (s : State) (c : BayIx) : (s.formPresence c).proof = s.proof := by
  simp only [State.formPresence]; split <;> rfl
@[simp] theorem State.formPresence_release (s : State) (c : BayIx) : (s.formPresence c).release = s.release := by
  simp only [State.formPresence]; split <;> rfl
@[simp] theorem State.formPresence_supervision (s : State) (c : BayIx) : (s.formPresence c).supervision = s.supervision := by
  simp only [State.formPresence]; split <;> rfl
@[simp] theorem State.formPresence_platformFrame (s : State) (c : BayIx) : (s.formPresence c).platformFrame = s.platformFrame := by
  simp only [State.formPresence]; split <;> rfl
@[simp] theorem State.formPresence_store (s : State) (c : BayIx) : (s.formPresence c).store = s.store := by
  simp only [State.formPresence]; split <;> rfl
@[simp] theorem State.formPresence_station (s : State) (c : BayIx) : (s.formPresence c).station = s.station := by
  simp only [State.formPresence]; split <;> rfl
@[simp] theorem State.formPresence_signalling (s : State) (c : BayIx) : (s.formPresence c).signalling = s.signalling := by
  simp only [State.formPresence]; split <;> rfl
@[simp] theorem State.formPresence_pins (s : State) (c : BayIx) : (s.formPresence c).pins = s.pins := by
  simp only [State.formPresence]; split <;> rfl
@[simp] theorem State.formPresence_stalled (s : State) (c : BayIx) : (s.formPresence c).stalled = s.stalled := by
  simp only [State.formPresence]; split <;> rfl
@[simp] theorem State.formPresence_freeCount (s : State) (c : BayIx) : (s.formPresence c).freeCount = s.freeCount := by
  simp only [State.formPresence]; split <;> rfl
@[simp] theorem State.formPresence_pending (s : State) (c : BayIx) : (s.formPresence c).pending = s.pending := by
  simp only [State.formPresence]; split <;> rfl

/-! ### Setting the gap result -/

@[simp] theorem State.setGap_power (s : State) (g : GapResult) : (s.setGap g).power = s.power := by cases g <;> rfl
@[simp] theorem State.setGap_uptime (s : State) (g : GapResult) : (s.setGap g).uptime = s.uptime := by cases g <;> rfl
@[simp] theorem State.setGap_mode (s : State) (g : GapResult) : (s.setGap g).mode = s.mode := by cases g <;> rfl
@[simp] theorem State.setGap_bays (s : State) (g : GapResult) : (s.setGap g).bays = s.bays := by cases g <;> rfl
@[simp] theorem State.setGap_lines (s : State) (g : GapResult) : (s.setGap g).lines = s.lines := by cases g <;> rfl
@[simp] theorem State.setGap_train (s : State) (g : GapResult) : (s.setGap g).train = s.train := by cases g <;> rfl
@[simp] theorem State.setGap_proof (s : State) (g : GapResult) : (s.setGap g).proof = s.proof := by cases g <;> rfl
@[simp] theorem State.setGap_release (s : State) (g : GapResult) : (s.setGap g).release = s.release := by cases g <;> rfl
@[simp] theorem State.setGap_supervision (s : State) (g : GapResult) : (s.setGap g).supervision = s.supervision := by cases g <;> rfl
@[simp] theorem State.setGap_platformFrame (s : State) (g : GapResult) : (s.setGap g).platformFrame = s.platformFrame := by cases g <;> rfl
@[simp] theorem State.setGap_store (s : State) (g : GapResult) : (s.setGap g).store = s.store := by cases g <;> rfl
@[simp] theorem State.setGap_station (s : State) (g : GapResult) : (s.setGap g).station = s.station := by cases g <;> rfl
@[simp] theorem State.setGap_signalling (s : State) (g : GapResult) : (s.setGap g).signalling = s.signalling := by cases g <;> rfl
@[simp] theorem State.setGap_pins (s : State) (g : GapResult) : (s.setGap g).pins = s.pins := by cases g <;> rfl
@[simp] theorem State.setGap_stalled (s : State) (g : GapResult) : (s.setGap g).stalled = s.stalled := by cases g <;> rfl
@[simp] theorem State.setGap_freeCount (s : State) (g : GapResult) : (s.setGap g).freeCount = s.freeCount := by cases g <;> rfl
@[simp] theorem State.setGap_pending (s : State) (g : GapResult) : (s.setGap g).pending = s.pending := by cases g <;> rfl

/-! ### Recording a platform fault -/

@[simp] theorem State.recordPlatform_power (s : State) (c : FaultCode) (d : Nat) : (s.recordPlatform c d).power = s.power := by
  simp only [State.recordPlatform]; split
  · split <;> rfl
  · rfl
@[simp] theorem State.recordPlatform_uptime (s : State) (c : FaultCode) (d : Nat) : (s.recordPlatform c d).uptime = s.uptime := by
  simp only [State.recordPlatform]; split
  · split <;> rfl
  · rfl
@[simp] theorem State.recordPlatform_mode (s : State) (c : FaultCode) (d : Nat) : (s.recordPlatform c d).mode = s.mode := by
  simp only [State.recordPlatform]; split
  · split <;> rfl
  · rfl
@[simp] theorem State.recordPlatform_bays (s : State) (c : FaultCode) (d : Nat) : (s.recordPlatform c d).bays = s.bays := by
  simp only [State.recordPlatform]; split
  · split <;> rfl
  · rfl
@[simp] theorem State.recordPlatform_lines (s : State) (c : FaultCode) (d : Nat) : (s.recordPlatform c d).lines = s.lines := by
  simp only [State.recordPlatform]; split
  · split <;> rfl
  · rfl
@[simp] theorem State.recordPlatform_gap (s : State) (c : FaultCode) (d : Nat) : (s.recordPlatform c d).gap = s.gap := by
  simp only [State.recordPlatform]; split
  · split <;> rfl
  · rfl
@[simp] theorem State.recordPlatform_train (s : State) (c : FaultCode) (d : Nat) : (s.recordPlatform c d).train = s.train := by
  simp only [State.recordPlatform]; split
  · split <;> rfl
  · rfl
@[simp] theorem State.recordPlatform_proof (s : State) (c : FaultCode) (d : Nat) : (s.recordPlatform c d).proof = s.proof := by
  simp only [State.recordPlatform]; split
  · split <;> rfl
  · rfl
@[simp] theorem State.recordPlatform_release (s : State) (c : FaultCode) (d : Nat) : (s.recordPlatform c d).release = s.release := by
  simp only [State.recordPlatform]; split
  · split <;> rfl
  · rfl
@[simp] theorem State.recordPlatform_supervision (s : State) (c : FaultCode) (d : Nat) : (s.recordPlatform c d).supervision = s.supervision := by
  simp only [State.recordPlatform]; split
  · split <;> rfl
  · rfl
@[simp] theorem State.recordPlatform_store (s : State) (c : FaultCode) (d : Nat) : (s.recordPlatform c d).store = s.store := by
  simp only [State.recordPlatform]; split
  · split <;> rfl
  · rfl
@[simp] theorem State.recordPlatform_station (s : State) (c : FaultCode) (d : Nat) : (s.recordPlatform c d).station = s.station := by
  simp only [State.recordPlatform]; split
  · split <;> rfl
  · rfl
@[simp] theorem State.recordPlatform_signalling (s : State) (c : FaultCode) (d : Nat) : (s.recordPlatform c d).signalling = s.signalling := by
  simp only [State.recordPlatform]; split
  · split <;> rfl
  · rfl
@[simp] theorem State.recordPlatform_pins (s : State) (c : FaultCode) (d : Nat) : (s.recordPlatform c d).pins = s.pins := by
  simp only [State.recordPlatform]; split
  · split <;> rfl
  · rfl
@[simp] theorem State.recordPlatform_stalled (s : State) (c : FaultCode) (d : Nat) : (s.recordPlatform c d).stalled = s.stalled := by
  simp only [State.recordPlatform]; split
  · split <;> rfl
  · rfl
@[simp] theorem State.recordPlatform_freeCount (s : State) (c : FaultCode) (d : Nat) : (s.recordPlatform c d).freeCount = s.freeCount := by
  simp only [State.recordPlatform]; split
  · split <;> rfl
  · rfl
@[simp] theorem State.recordPlatform_pending (s : State) (c : FaultCode) (d : Nat) : (s.recordPlatform c d).pending = s.pending := by
  simp only [State.recordPlatform]; split
  · split <;> rfl
  · rfl

/-! ### Entering a phase -/

@[simp] theorem Ev.enter_power (e : Ev) (b : BayIx) (q : Phase) : (e.enter b q).s.power = e.s.power := by
  simp only [Ev.enter]; split <;> rfl
@[simp] theorem Ev.enter_uptime (e : Ev) (b : BayIx) (q : Phase) : (e.enter b q).s.uptime = e.s.uptime := by
  simp only [Ev.enter]; split <;> rfl
@[simp] theorem Ev.enter_mode (e : Ev) (b : BayIx) (q : Phase) : (e.enter b q).s.mode = e.s.mode := by
  simp only [Ev.enter]; split <;> rfl
@[simp] theorem Ev.enter_lines (e : Ev) (b : BayIx) (q : Phase) : (e.enter b q).s.lines = e.s.lines := by
  simp only [Ev.enter]; split <;> rfl
@[simp] theorem Ev.enter_gap (e : Ev) (b : BayIx) (q : Phase) : (e.enter b q).s.gap = e.s.gap := by
  simp only [Ev.enter]; split <;> rfl
@[simp] theorem Ev.enter_train (e : Ev) (b : BayIx) (q : Phase) : (e.enter b q).s.train = e.s.train := by
  simp only [Ev.enter]; split <;> rfl
@[simp] theorem Ev.enter_proof (e : Ev) (b : BayIx) (q : Phase) : (e.enter b q).s.proof = e.s.proof := by
  simp only [Ev.enter]; split <;> rfl
@[simp] theorem Ev.enter_release (e : Ev) (b : BayIx) (q : Phase) : (e.enter b q).s.release = e.s.release := by
  simp only [Ev.enter]; split <;> rfl
@[simp] theorem Ev.enter_supervision (e : Ev) (b : BayIx) (q : Phase) : (e.enter b q).s.supervision = e.s.supervision := by
  simp only [Ev.enter]; split <;> rfl
@[simp] theorem Ev.enter_platformFrame (e : Ev) (b : BayIx) (q : Phase) : (e.enter b q).s.platformFrame = e.s.platformFrame := by
  simp only [Ev.enter]; split <;> rfl
@[simp] theorem Ev.enter_store (e : Ev) (b : BayIx) (q : Phase) : (e.enter b q).s.store = e.s.store := by
  simp only [Ev.enter]; split <;> rfl
@[simp] theorem Ev.enter_station (e : Ev) (b : BayIx) (q : Phase) : (e.enter b q).s.station = e.s.station := by
  simp only [Ev.enter]; split <;> rfl
@[simp] theorem Ev.enter_signalling (e : Ev) (b : BayIx) (q : Phase) : (e.enter b q).s.signalling = e.s.signalling := by
  simp only [Ev.enter]; split <;> rfl
@[simp] theorem Ev.enter_pins (e : Ev) (b : BayIx) (q : Phase) : (e.enter b q).s.pins = e.s.pins := by
  simp only [Ev.enter]; split <;> rfl
@[simp] theorem Ev.enter_stalled (e : Ev) (b : BayIx) (q : Phase) : (e.enter b q).s.stalled = e.s.stalled := by
  simp only [Ev.enter]; split <;> rfl
@[simp] theorem Ev.enter_freeCount (e : Ev) (b : BayIx) (q : Phase) : (e.enter b q).s.freeCount = e.s.freeCount := by
  simp only [Ev.enter]; split <;> rfl
@[simp] theorem Ev.enter_pending (e : Ev) (b : BayIx) (q : Phase) : (e.enter b q).s.pending = e.s.pending := by
  simp only [Ev.enter]; split <;> rfl

/-! ### Bays -/

@[simp] theorem Ev.enter_bay_self (e : Ev) (b : BayIx) (q : Phase) :
    (e.enter b q).s.bay b = (e.s.bay b).enter (e.s.bayRecord b) e.s.platform q := by
  simp only [Ev.enter]; split <;> simp

theorem Ev.enter_bay_ne (e : Ev) (b c : BayIx) (q : Phase) (h : c ≠ b) : (e.enter b q).s.bay c = e.s.bay c := by
  simp only [Ev.enter]; split <;> simp [State.bay_setBay_ne _ _ _ _ h]

@[simp] theorem Ev.enter_awaiting (e : Ev) (b : BayIx) (q : Phase) :
    (e.enter b q).awaiting = b :: e.awaiting.filter (· != b) := rfl

@[simp] theorem Ev.enter_refused (e : Ev) (b : BayIx) (q : Phase) : (e.enter b q).refused = e.refused := rfl

@[simp] theorem Ev.enter_accepted (e : Ev) (b : BayIx) (q : Phase) : (e.enter b q).accepted = e.accepted := rfl

/-- What entry to a phase sets of a bay. -/
theorem Bay.enter_fields (r : BayRecord) (p : Platform) (q : Phase) (b : Bay) :
    (b.enter r p q).phase = q ∧ (b.enter r p q).pausing = false ∧ (b.enter r p q).forced = false
      ∧ (b.enter r p q).timer = phaseTimer r p q ∧ (b.enter r p q).cap = capTimer p q
      ∧ (b.enter r p q).hold = b.hold ∧ (b.enter r p q).presence = b.presence ∧ (b.enter r p q).lines = b.lines
      ∧ (b.enter r p q).frame = b.frame :=
  ⟨rfl, rfl, rfl, rfl, rfl, rfl, rfl, rfl, rfl⟩

theorem Bay.enter_movement (r : BayRecord) (p : Platform) (q : Phase) (b : Bay) :
    (b.enter r p q).movement = if q.endsMovement then .none else b.movement := rfl

theorem Bay.enter_retry (r : BayRecord) (p : Platform) (q : Phase) (b : Bay) :
    (b.enter r p q).retry = if q.endsMovement then 0 else b.retry := rfl

theorem Bay.enter_reclose (r : BayRecord) (p : Platform) (q : Phase) (b : Bay) :
    (b.enter r p q).reclose = if q.endsReclose then 0 else b.reclose := rfl

@[simp] theorem Ev.enter_starting (e : Ev) (b : BayIx) (q : Phase) : (e.enter b q).starting = e.starting := rfl

/-! ### The turn of a member in OPEN_MAP -/

/-- Once the train is not ENABLED the claim is not handed, and the member is reported with reason PHASE. -/
theorem Ev.handOpen_of_not_enabled (e : Ev) (b : BayIx) (h : e.s.train.state ≠ .enabled) :
    e.handOpen b = (e.report b .phase, []) := by simp [Ev.handOpen, h]

/-- While the train is ENABLED the claim is judged. -/
theorem Ev.handOpen_of_enabled (e : Ev) (b : BayIx) (h : e.s.train.state = .enabled) :
    e.handOpen b = match (e.s.judgeOpen b).reason with
      | some r => (e.report b r, [])
      | none => e.openClaim b := by simp only [Ev.handOpen, h]; rfl

/-- A formation hands a claim for every member. -/
theorem Ev.openMember_formation (e : Ev) (b : BayIx) : e.openMember false b = e.handOpen b := rfl

/-- A re-open has no claim for a member in OPEN. -/
theorem Ev.openMember_opened (e : Ev) (b : BayIx) (h : (e.s.bay b).phase = .opened) : e.openMember true b = (e, []) := by
  simp [Ev.openMember, h]

/-- A re-open skips a RELEASED member and reports it so, whatever the train's state. -/
theorem Ev.openMember_released (e : Ev) (b : BayIx) (h : (e.s.bay b).phase = .released) :
    e.openMember true b = (e.report b .released, []) := by simp [Ev.openMember, h]

/-- A re-open skips a FAULTED member and reports it so, whatever the train's state. -/
theorem Ev.openMember_faulted (e : Ev) (b : BayIx) (h : (e.s.bay b).phase = .faulted) :
    e.openMember true b = (e.report b .faulted, []) := by simp [Ev.openMember, h]

/-- A re-open claims every other member. -/
theorem Ev.openMember_other (e : Ev) (b : BayIx) (ho : (e.s.bay b).phase ≠ .opened) (hr : (e.s.bay b).phase ≠ .released)
    (hf : (e.s.bay b).phase ≠ .faulted) : e.openMember true b = e.handOpen b := by
  simp only [Ev.openMember, if_true]
  cases h : (e.s.bay b).phase <;> simp_all

/-! ### What follows an entry -/

/-- A bay whose entry has been judged owes nothing more. -/
theorem Ev.arrive_of_not_awaiting (e : Ev) (b : BayIx) (h : b ∉ e.awaiting) : e.arrive b = (e, []) := by
  simp [Ev.arrive, h]

/-- In an event that ends STARTING no presence is formed at entry to a phase. -/
theorem Ev.arrive_of_starting (e : Ev) (b : BayIx) (h : b ∈ e.awaiting) (hs : e.starting = true) :
    e.arrive b = if e.s.sliding b then { e with awaiting := e.awaiting.filter (· != b) }.entryChecks b
      else ({ e with awaiting := e.awaiting.filter (· != b) }, []) := by
  simp [Ev.arrive, h, hs]

/-- In every other event the presence is formed before the checks at entry. -/
theorem Ev.arrive_of_running (e : Ev) (b : BayIx) (h : b ∈ e.awaiting) (hs : e.starting = false) :
    e.arrive b =
      if (e.s.formPresence b).sliding b then
        { e with s := e.s.formPresence b, awaiting := e.awaiting.filter (· != b) }.entryChecks b
      else ({ e with s := e.s.formPresence b, awaiting := e.awaiting.filter (· != b) }, []) := by
  simp [Ev.arrive, h, hs]

/-! ### Faults at entry -/

/-- A fault raised at entry whose answer leaves the bay FAULTED is followed by a conflict that stands. -/
theorem Ev.raiseAtEntry_faulted (e : Ev) (b : BayIx) (c : FaultCode) (d : Nat)
    (h : ((e.raise b c d).1.s.bay b).phase = .faulted) :
    e.raiseAtEntry b c d = ((e.raise b c d).1, (e.raise b c d).2 ++ [.conflict b]) := by
  simp [Ev.raiseAtEntry, h]

/-- After any other answer it is raised as any fault is. -/
theorem Ev.raiseAtEntry_other (e : Ev) (b : BayIx) (c : FaultCode) (d : Nat)
    (h : ((e.raise b c d).1.s.bay b).phase ≠ .faulted) : e.raiseAtEntry b c d = e.raise b c d := by
  simp [Ev.raiseAtEntry, h]

/-- A conflict that begins stands. -/
theorem BayLines.conflict_of_begins (l : BayLines) (i : BayInput) (h : l.conflictBegins i = true) : l.conflict = true := by
  simp only [BayLines.conflictBegins, BayLines.conflict, Bool.or_eq_true, Bool.and_eq_true] at h ⊢
  exact h.imp And.left And.left

/-! ### Presence and frames -/

theorem State.formPresence_bay_ne (s : State) (b c : BayIx) (h : c ≠ b) : (s.formPresence b).bay c = s.bay c := by
  simp only [State.formPresence]; split
  · rfl
  · simp [State.bay_setBay_ne _ _ _ _ h]

/-- The presence state after it has been formed is the one that its table gives. -/
theorem State.formPresence_presence (s : State) (b : BayIx) : ((s.formPresence b).bay b).presence = s.presenceNow b := by
  simp only [State.formPresence]; split
  · next h => exact (beq_iff_eq.mp h).symm
  · simp

/-- Forming a presence state touches of its bay the presence state and the timer of a warning whose hold has ended, and
nothing else. -/
theorem State.formPresence_bay (s : State) (b : BayIx) :
    { (s.formPresence b).bay b with presence := (s.bay b).presence, timer := (s.bay b).timer } = s.bay b := by
  simp only [State.formPresence]; split
  · rfl
  · simp

theorem State.clearFrame_bay_self (s : State) (c : ClearCause) (b : BayIx) :
    (s.clearFrame c b).bay b = { s.bay b with frame := (s.bay b).frame.clear } := by
  simp [State.clearFrame, State.setFrame]

theorem State.clearFrame_bay_ne (s : State) (k : ClearCause) (b c : BayIx) (h : c ≠ b) :
    (s.clearFrame k b).bay c = s.bay c := by
  simp [State.clearFrame, State.setFrame, State.bay_setBay_ne _ _ _ _ h]

/-- A log with an open record of a bay, after one has been opened. -/
theorem State.hasOpenKind_openRecord (s : State) (k : ReleaseKind) (b : BayIx) (f : Option FireSource) :
    (s.openRecord k (some b) f).hasOpenKind b k = true := by
  unfold State.openRecord State.hasOpenKind
  cases k <;> simp

end Sys2Proof.Machine
end

