-- ==== Sys2Proof/Laws/Link.lean ====
section
/-! SUPPORT. How a frame is received, judged and answered, case by case: what the provers cite in place of unfolding the link
unit. -/

namespace Sys2Proof.Machine

/-! ### Receiving a frame -/

theorem State.receive_stopped (s : State) (l : Link) (k : Byte) (f : State → Answer) (h : s.runs = false) :
    s.receive l k f = s := by
  simp [State.receive, h]

theorem State.receive_owed (s : State) (l : Link) (k : Byte) (f : State → Answer) (h : s.runs = true)
    (hr : (s.port l).reply ≠ none) : s.receive l k f = s.discard l := by
  have hs : (s.port l).reply.isSome = true := Option.isSome_iff_ne_none.mpr hr
  simp [State.receive, h, hs]

theorem State.receive_restarting (s : State) (k : Byte) (f : State → Answer) (h : s.runs = true)
    (hr : s.signalling.reply = none) (ha : s.mode.restartAccepted = true) :
    s.receive .signalling k f = s.setBuffer .signalling .hunting := by
  have hp : (s.port .signalling).reply = none := hr
  simp [State.receive, h, hp, ha]

/-- A link that is ready takes the frame, and its answer is carried out. -/
theorem State.receive_ready (s : State) (l : Link) (k : Byte) (f : State → Answer) (h : Ready l s) :
    s.receive l k f = (f (s.takeFrame l)).carryOut l k := by
  obtain ⟨hr, hp, hs⟩ := h
  cases l
  · simp [State.receive, hr, hp]
  · simp [State.receive, hr, hp, hs rfl]

/-! ### Taking the frame -/

/-- Counting a frame touches supervision alone. -/
theorem State.countFrame_same (s : State) : { s.countFrame with supervision := s.supervision } = s := by
  unfold State.countFrame
  cases s.supervision.state <;> simp only []
  · split <;> rfl
  · split <;> rfl

/-- Counting a frame neither brings supervision to EXPIRED nor takes it out of it. -/
theorem State.countFrame_expired (s : State) :
    s.countFrame.supervision.state = .expired ↔ s.supervision.state = .expired := by
  unfold State.countFrame
  rcases h : s.supervision.state <;> simp only []
  · split <;> simp [h]
  · split <;> simp [h]
  · simp [h]

theorem State.takeFrame_station (s : State) : s.takeFrame .station = s.setBuffer .station .hunting := rfl

theorem State.takeFrame_signalling (s : State) :
    s.takeFrame .signalling = (s.setBuffer .signalling .hunting).countFrame := rfl

theorem State.takeFrame_mode (s : State) (l : Link) : (s.takeFrame l).mode = s.mode := by
  cases l
  · rfl
  · have h := congrArg State.mode (s.setBuffer .signalling .hunting).countFrame_same
    exact h

theorem State.takeFrame_expired (s : State) (l : Link) :
    (s.takeFrame l).supervision.state = .expired ↔ s.supervision.state = .expired := by
  cases l
  · exact Iff.rfl
  · rw [State.takeFrame_signalling, State.countFrame_expired, State.setBuffer_supervision]

/-- The link's checks read nothing that taking the frame changes. -/
theorem State.linkRefusal_takeFrame (s : State) (l : Link) (k : RequestKind) (body : List Byte) :
    (s.takeFrame l).linkRefusal l k body = s.linkRefusal l k body := by
  have he : ((s.takeFrame l).supervision.state == .expired) = (s.supervision.state == .expired) := by
    rw [Bool.eq_iff_iff, beq_iff_eq, beq_iff_eq]; exact s.takeFrame_expired l
  simp only [State.linkRefusal, State.takeFrame_mode, he]

/-! ### The link's checks -/

/-- A request that the link admits is refused by none of its checks. -/
theorem State.linkRefusal_admits (s : State) (l : Link) (k : RequestKind) (body : List Byte) (h : Admits l k body s) :
    s.linkRefusal l k body = none := by
  obtain ⟨_, hm, hl, hf, ha, he⟩ := h
  have h5 : (l == .signalling && s.supervision.state == .expired && !k.passesExpired) = false := by
    by_cases h1 : l = .signalling
    · by_cases h2 : s.supervision.state = .expired
      · simp [he h1 h2]
      · simp [h2]
    · simp [h1]
  have hn : (k.link != l) = false := by simp [hl]
  simp [State.linkRefusal, hm, hn, hf, ha, h5]

/-- The first check that a request fails is the refusal that the link gives. -/
theorem State.linkRefusal_refuses (s : State) (l : Link) (k : RequestKind) (body : List Byte) (r : Result)
    (h : LinkRefuses l k body s r) : s.linkRefusal l k body = some r := by
  cases h with
  | busy hm => simp [State.linkRefusal, hm]
  | wrongLink hm hl => simp [State.linkRefusal, hm, hl]
  | malformed hm hl hf => simp [State.linkRefusal, hm, hl, hf]
  | mode hm hl hf ha => simp [State.linkRefusal, hm, hl, hf, ha]
  | expired hm hl hf ha hs he hp => subst hl; simp [State.linkRefusal, hm, hf, ha, hs, he, hp]

/-- A request that the link admits comes to its owner on the state with the frame taken, and the owner's answer is carried
out. -/
theorem State.request_admits (s : State) (l : Link) (k : RequestKind) (body : List Byte) (owner : Owner)
    (h : Admits l k body s) :
    s.request l k body owner = (owner body (s.takeFrame l)).carryOut l k.code := by
  rw [State.request, State.receive_ready _ _ _ _ h.1, judge, State.linkRefusal_takeFrame,
    State.linkRefusal_admits _ _ _ _ h]

/-- A request that fails a check of the link is answered with its refusal. -/
theorem State.request_refused (s : State) (l : Link) (k : RequestKind) (body : List Byte) (owner : Owner) (r : Result)
    (h : Ready l s) (hr : LinkRefuses l k body s r) :
    s.request l k body owner = (Answer.refuse (s.takeFrame l) r).carryOut l k.code := by
  rw [State.request, State.receive_ready _ _ _ _ h, judge, State.linkRefusal_takeFrame,
    State.linkRefusal_refuses _ _ _ _ _ hr]

/-! ### Carrying an answer out -/

/-- An answer without an event leaves the state it began with. -/
theorem Answer.outcome_still (a : Answer) (ht : a.tasks = []) (hm : a.moves = false) : a.outcome = a.ev := by
  simp [Answer.outcome, ht, hm]

/-- An answer that is an event has its tasks carried out and comes to the end of an event. -/
theorem Answer.outcome_moves (a : Answer) (hm : a.moves = true) : a.outcome = a.ev.finish a.tasks := by
  simp [Answer.outcome, hm, Ev.finish]

theorem Answer.outcome_refuse (s : State) (r : Result) : (Answer.refuse s r).outcome = Ev.start s :=
  Answer.outcome_still _ rfl rfl

theorem Answer.outcome_settled (s : State) (content : List Byte) : (Answer.settled s content).outcome = Ev.start s :=
  Answer.outcome_still _ rfl rfl

theorem Answer.outcome_event (s : State) (f : Ev → Ev × List Task) (reply : Ev → Result × List Byte) :
    (Answer.event s f reply).outcome = (f (Ev.start s)).1.finish (f (Ev.start s)).2 :=
  Answer.outcome_moves _ rfl

/-- A refusal that is not one of authority leaves the AUTHORITY flag and the queue alone. -/
theorem State.recordAuthority_other (s : State) (l : Link) (k : Byte) (r : Result) (h : r.isAuthority = false) :
    s.recordAuthority l k r = s := by
  simp [State.recordAuthority, h]

end Sys2Proof.Machine
end

