-- ==== Sys2Proof/Laws/Lists.lean ====
section
/-! SUPPORT. What the list operations of the event queue and of the release log can do. -/

namespace Sys2Proof.Machine

/-- What removeFirst removes: the first element that p holds of, from wherever it stands. -/
theorem removeFirst_some {α : Type} (p : α → Bool) {l l' : List α} (h : removeFirst p l = some l') :
    ∃ before x after, l = before ++ x :: after ∧ l' = before ++ after ∧ p x = true ∧ ∀ y ∈ before, p y = false := by
  induction l generalizing l' with
  | nil => simp [removeFirst] at h
  | cons a l ih =>
    by_cases ha : p a = true
    · simp only [removeFirst, ha, if_true, Option.some.injEq] at h
      subst h
      exact ⟨[], a, l, rfl, rfl, ha, by simp⟩
    · simp only [removeFirst, ha, Bool.false_eq_true, if_false, Option.map_eq_some_iff] at h
      obtain ⟨m, hm, rfl⟩ := h
      obtain ⟨before, x, after, rfl, rfl, hx, hb⟩ := ih hm
      refine ⟨a :: before, x, after, rfl, rfl, hx, ?_⟩
      intro y hy
      rcases List.mem_cons.mp hy with rfl | hy
      · simpa using ha
      · exact hb y hy

/-- What removeFirst gives when it finds nothing. -/
theorem removeFirst_none {α : Type} (p : α → Bool) (l : List α) : removeFirst p l = none ↔ ∀ x ∈ l, p x = false := by
  induction l with
  | nil => simp [removeFirst]
  | cons a l ih =>
    by_cases ha : p a = true
    · simp [removeFirst, ha]
    · simp [removeFirst, ha, ih]

/-- The first element that p holds of, named by where it stands. -/
theorem removeFirst_at {α : Type} (p : α → Bool) (before : List α) (x : α) (after : List α)
    (hb : ∀ y ∈ before, p y = false) (hx : p x = true) :
    removeFirst p (before ++ x :: after) = some (before ++ after) := by
  induction before with
  | nil => simp [removeFirst, hx]
  | cons a l ih =>
    have ha : p a = false := hb a (by simp)
    simp [removeFirst, ha, ih (fun y hy => hb y (List.mem_cons_of_mem _ hy))]

theorem removeFirst_length {α : Type} (p : α → Bool) {l l' : List α} (h : removeFirst p l = some l') :
    l'.length + 1 = l.length := by
  obtain ⟨before, x, after, rfl, rfl, _, _⟩ := removeFirst_some p h
  simp only [List.length_append, List.length_cons]; omega

theorem takeOldest_length {log rest : List ReleaseRecord} {r : ReleaseRecord} (h : takeOldest log = some (r, rest)) :
    rest.length + 1 = log.length := by
  unfold takeOldest at h
  split at h
  · next hr =>
    simp only [Option.some.injEq, Prod.mk.injEq] at h
    obtain ⟨_, rfl⟩ := h
    exact removeFirst_length _ hr
  · split at h
    · exact absurd h (by simp)
    · simp only [Option.some.injEq, Prod.mk.injEq] at h
      obtain ⟨_, rfl⟩ := h
      simp

theorem restoreIn_length (t : Uptime) (p : ReleaseRecord → Bool) (l : List ReleaseRecord) :
    (restoreIn t p l).1.length ≤ l.length := by
  induction l with
  | nil => simp [restoreIn]
  | cons r rs ih =>
    simp only [restoreIn]
    split
    · split <;> simp
    · simpa using ih

theorem ackIn_length (p : ReleaseRecord → Bool) (l : List ReleaseRecord) : (ackIn p l).length ≤ l.length := by
  simp only [ackIn, List.length_map]
  exact List.length_filter_le _ _

end Sys2Proof.Machine
end

