-- ==== Sys2Proof/Laws/PerInstr.lean ====
section
/-! SUPPORT. A family of statements made command by command: the body of a well-formed request fits a frame. -/

namespace Sys2Proof.Laws.Bodies

open Sys2Proof.Machine

/-- The body that a well-formed request row hands to its owner has at most 240 bytes (spec/10 R170). -/
def Statement (i : Instr) : Prop :=
  ∀ (l : Link) (k : RequestKind) (body : List Byte), requestOf i = some (l, k, body) → i.wf = true → body.length ≤ 240

/-- A row that is no request has no body. -/
theorem none_statement {i : Instr} (h : requestOf i = none) : Statement i := by
  intro l k body hb; rw [h] at hb; exact absurd hb (by simp)

/-- A request row that carries its body as it is. -/
theorem some_statement {i : Instr} {l : Link} {k : RequestKind} {body : List Byte} (h : requestOf i = some (l, k, body))
    (hw : i.wf = bodyOk body) : Statement i := by
  intro l' k' body' hb hi
  rw [h] at hb
  simp only [Option.some.injEq, Prod.mk.injEq] at hb
  obtain ⟨_, _, rfl⟩ := hb
  rw [hw] at hi
  simpa [bodyOk] using hi

/-- An action byte does not lengthen a body. -/
theorem length_withAction (a : BayAction) (body : List Byte) : (withAction a body).length = body.length := by
  unfold withAction; split <;> simp

/-- A BAY_COMMAND row, whose body carries its action. -/
theorem action_statement {i : Instr} {l : Link} {a : BayAction} {n : Nat} {body : List Byte}
    (h : requestOf i = some (l, .bayCommand, withAction a body)) (hw : i.wf = actionOk n body) : Statement i := by
  intro l' k' body' hb hi
  rw [h] at hb
  simp only [Option.some.injEq, Prod.mk.injEq] at hb
  obtain ⟨_, _, rfl⟩ := hb
  rw [hw] at hi
  simp only [actionOk, bodyOk, Bool.and_eq_true, decide_eq_true_eq] at hi
  rw [length_withAction]; exact hi.1

theorem powerOn : Statement .powerOn := none_statement rfl
theorem supplyOutOfRange : Statement .supplyOutOfRange := none_statement rfl
theorem resetNAsserted : Statement .resetNAsserted := none_statement rfl
theorem resetNReleased : Statement .resetNReleased := none_statement rfl
theorem loadingEnds : Statement .loadingEnds := none_statement rfl
theorem rawLevelChange (line : InputLine) (high : Bool) : Statement (.rawLevelChange line high) := none_statement rfl
theorem filterHoldExpires (line : InputLine) : Statement (.filterHoldExpires line) := none_statement rfl
theorem unlockLimitExpires (b : BayIx) : Statement (.unlockLimitExpires b) := none_statement rfl
theorem openLimitExpires (b : BayIx) : Statement (.openLimitExpires b) := none_statement rfl
theorem closeLimitExpires (b : BayIx) : Statement (.closeLimitExpires b) := none_statement rfl
theorem lockLimitExpires (b : BayIx) : Statement (.lockLimitExpires b) := none_statement rfl
theorem warningPeriodExpires (b : BayIx) : Statement (.warningPeriodExpires b) := none_statement rfl
theorem curtainHoldLimitExpires (b : BayIx) : Statement (.curtainHoldLimitExpires b) := none_statement rfl
theorem reopenPauseExpires (b : BayIx) : Statement (.reopenPauseExpires b) := none_statement rfl
theorem stuckTimerExpires (b : BayIx) (sensor : Sensor) : Statement (.stuckTimerExpires b sensor) := none_statement rfl
theorem gapScanTimerExpires : Statement .gapScanTimerExpires := none_statement rfl
theorem supervisionTimerExpires : Statement .supervisionTimerExpires := none_statement rfl
theorem dwellDue : Statement .dwellDue := none_statement rfl
theorem dwellOverstay : Statement .dwellOverstay := none_statement rfl
theorem recordWriteCompletes (verified : Bool) : Statement (.recordWriteCompletes verified) := none_statement rfl
theorem interByteGap (l : Link) : Statement (.interByteGap l) := none_statement rfl
theorem frameCrcMismatch (l : Link) : Statement (.frameCrcMismatch l) := none_statement rfl
theorem byteWhileReplyOwed (l : Link) : Statement (.byteWhileReplyOwed l) := none_statement rfl
theorem replySent (l : Link) : Statement (.replySent l) := none_statement rfl
theorem unknownKind (l : Link) (kind : Byte) (body : List Byte) : Statement (.unknownKind l kind body) := none_statement rfl
theorem poll (l : Link) (body : List Byte) : Statement (.poll l body) := some_statement rfl rfl
theorem announce (l : Link) (body : List Byte) : Statement (.announce l body) := some_statement rfl rfl
theorem cancel (l : Link) (body : List Byte) : Statement (.cancel l body) := some_statement rfl rfl
theorem berth (l : Link) (body : List Byte) : Statement (.berth l body) := some_statement rfl rfl
theorem openMap (l : Link) (body : List Byte) : Statement (.openMap l body) := some_statement rfl rfl
theorem closeMap (l : Link) (body : List Byte) : Statement (.closeMap l body) := some_statement rfl rfl
theorem depart (l : Link) (body : List Byte) : Statement (.depart l body) := some_statement rfl rfl
theorem resume (l : Link) (body : List Byte) : Statement (.resume l body) := some_statement rfl rfl
theorem readStatus (l : Link) (body : List Byte) : Statement (.readStatus l body) := some_statement rfl rfl
theorem readBays (l : Link) (body : List Byte) : Statement (.readBays l body) := some_statement rfl rfl
theorem readTrain (l : Link) (body : List Byte) : Statement (.readTrain l body) := some_statement rfl rfl
theorem readMap (l : Link) (body : List Byte) : Statement (.readMap l body) := some_statement rfl rfl
theorem readFault (l : Link) (body : List Byte) : Statement (.readFault l body) := some_statement rfl rfl
theorem readReleases (l : Link) (body : List Byte) : Statement (.readReleases l body) := some_statement rfl rfl
theorem readLines (l : Link) (body : List Byte) : Statement (.readLines l body) := some_statement rfl rfl
theorem readConfig (l : Link) (body : List Byte) : Statement (.readConfig l body) := some_statement rfl rfl
theorem takeEvents (l : Link) (body : List Byte) : Statement (.takeEvents l body) := some_statement rfl rfl
theorem setAttention (l : Link) (body : List Byte) : Statement (.setAttention l body) := some_statement rfl rfl
theorem setTrace (l : Link) (body : List Byte) : Statement (.setTrace l body) := some_statement rfl rfl
theorem bayCommandOpen (l : Link) (body : List Byte) : Statement (.bayCommandOpen l body) := action_statement rfl rfl
theorem bayCommandClose (l : Link) (body : List Byte) : Statement (.bayCommandClose l body) := action_statement rfl rfl
theorem bayCommandStop (l : Link) (body : List Byte) : Statement (.bayCommandStop l body) := action_statement rfl rfl
theorem bayCommandHold (l : Link) (body : List Byte) : Statement (.bayCommandHold l body) := action_statement rfl rfl
theorem bayCommandFree (l : Link) (body : List Byte) : Statement (.bayCommandFree l body) := action_statement rfl rfl
theorem bayCommandIsolate (l : Link) (body : List Byte) : Statement (.bayCommandIsolate l body) := action_statement rfl rfl
theorem bayCommandRestore (l : Link) (body : List Byte) : Statement (.bayCommandRestore l body) := action_statement rfl rfl
theorem bayCommandClearFault (l : Link) (body : List Byte) : Statement (.bayCommandClearFault l body) := action_statement rfl rfl
theorem ackRelease (l : Link) (body : List Byte) : Statement (.ackRelease l body) := some_statement rfl rfl
theorem emergencyOpen (l : Link) (body : List Byte) : Statement (.emergencyOpen l body) := some_statement rfl rfl
theorem extendDwell (l : Link) (body : List Byte) : Statement (.extendDwell l body) := some_statement rfl rfl
theorem setOutput (l : Link) (body : List Byte) : Statement (.setOutput l body) := some_statement rfl rfl
theorem enterMaintenance (l : Link) (body : List Byte) : Statement (.enterMaintenance l body) := some_statement rfl rfl
theorem leaveMaintenance (l : Link) (body : List Byte) : Statement (.leaveMaintenance l body) := some_statement rfl rfl
theorem halt (l : Link) (body : List Byte) : Statement (.halt l body) := some_statement rfl rfl
theorem prepareRestart (l : Link) (body : List Byte) : Statement (.prepareRestart l body) := some_statement rfl rfl
theorem restart (l : Link) (body : List Byte) : Statement (.restart l body) := some_statement rfl rfl
theorem writeBay (l : Link) (body : List Byte) : Statement (.writeBay l body) := some_statement rfl rfl
theorem writeProfile (l : Link) (body : List Byte) : Statement (.writeProfile l body) := some_statement rfl rfl
theorem eraseProfile (l : Link) (body : List Byte) : Statement (.eraseProfile l body) := some_statement rfl rfl
theorem writeResponse (l : Link) (body : List Byte) : Statement (.writeResponse l body) := some_statement rfl rfl
theorem writeLine (l : Link) (body : List Byte) : Statement (.writeLine l body) := some_statement rfl rfl
theorem writePlatform (l : Link) (body : List Byte) : Statement (.writePlatform l body) := some_statement rfl rfl
theorem commit (l : Link) (body : List Byte) : Statement (.commit l body) := some_statement rfl rfl
theorem freezeConfig (l : Link) (body : List Byte) : Statement (.freezeConfig l body) := some_statement rfl rfl
theorem fixGeometry (l : Link) (body : List Byte) : Statement (.fixGeometry l body) := some_statement rfl rfl
theorem byteReceived (l : Link) (byte : Byte) : Statement (.byteReceived l byte) := none_statement rfl

end Sys2Proof.Laws.Bodies
end

