-- ==== Sys2Proof/Tests/Slice0.lean ====
section
/-! SUPPORT. Tests: what WellFormed refuses, small checks on single commands, and for every statement of
Certificates/Slice0/Obligations.lean states and operands that meet its hypotheses, clause by clause. -/

namespace Sys2Proof.Tests

open Sys2Proof.Machine

/-! ### WellFormed -/

theorem test_wf_body_longer_than_240 : (Instr.poll .signalling (List.replicate 241 0#8)).wf = false := by decide +kernel
theorem test_wf_body_of_240 : (Instr.poll .signalling (List.replicate 240 0#8)).wf = true := by decide +kernel
theorem test_wf_unknown_kind_long_body : (Instr.unknownKind .station 0x50#8 (List.replicate 241 0#8)).wf = false := by
  decide +kernel
theorem test_wf_unknown_kind_assigned : (Instr.unknownKind .station 0x40#8 []).wf = false := by decide +kernel
theorem test_wf_unknown_kind_free : (Instr.unknownKind .station 0x50#8 []).wf = true := by decide +kernel
theorem test_wf_bay_command_wrong_action : (Instr.bayCommandOpen .station [0#8, 0#8, 1#8, 1#8]).wf = false := by decide +kernel
theorem test_wf_bay_command_own_action : (Instr.bayCommandClearFault .station [0#8, 0#8, 1#8, 7#8]).wf = true := by
  decide +kernel
theorem test_wf_bay_command_long_body : (Instr.bayCommandHold .station (List.replicate 241 3#8)).wf = false := by
  decide +kernel

/-! ### Small checks -/

/-- The CRC of spec/10 R170 over the nine digits is its well-known check value. -/
theorem test_crc_check_value :
    crc16 [0x31#8, 0x32#8, 0x33#8, 0x34#8, 0x35#8, 0x36#8, 0x37#8, 0x38#8, 0x39#8] = 0x29B1#16 := by decide +kernel

theorem test_kind_codes_are_read_back :
    (List.range 256).all (fun n =>
      match RequestKind.ofCode (BitVec.ofNat 8 n) with
      | some k => k.code == BitVec.ofNat 8 n && kindAssigned (BitVec.ofNat 8 n)
      | none => !kindAssigned (BitVec.ofNat 8 n)) = true := by decide +kernel

theorem test_no_word_spells_a_command : decodeTableWord 8 0 = none := rfl

theorem test_overlap_in_doubled_millimetres : overlap2 (-1600) 1600 (-200) 2400 = 1800 := by decide

theorem test_content_lengths :
    State.reset.summary.length = 11 ∧ (State.reset.bayEntry 0).length = 15 ∧ State.reset.mapReplyContent.length = 3
      ∧ (Platform.content Platform.defaults).length = 80 ∧ (BayRecord.content 0 BayRecord.defaults).length = 22 := by
  decide +kernel

/-! ### The states of the witnesses -/

theorem test_bay_index_1 : (⟨1, by decide +kernel⟩ : BayIx).val = 1 := rfl

/-- A line at a level, with nothing held. -/
def still (level : Bool) : Line := { raw := level, level := level, candidate := none }

/-- A line at a level that is about to leave it. -/
def leaving (level : Bool) : Line := { raw := !level, level := level, candidate := some ⟨4, 4⟩ }

/-- Leaves shut, bolt home. -/
def shut : BayLines := { BayLines.reset with closed := still true, locked := still true }

/-- A locked bay, not held. -/
def lockedBay : Bay := { Bay.reset with phase := .closedLocked, lines := shut, hold := false }

/-- A profile with two doorways. -/
def profile7 : Profile := { valid := true, consist := 7, unitLength := 20000, doorways := [⟨5000, 1300⟩, ⟨15000, 1300⟩] }

/-- The configuration of the witnesses: 24 SLIDING bays, bay 24 an ESCAPE bay, and one profile. -/
def records : Records :=
  { Records.defaults with
    bays := (Vector.replicate 24 { BayRecord.defaults with kind := .sliding }).set 23 { BayRecord.defaults with kind := .escape }
    profiles := (Vector.replicate 12 Profile.defaults).set 0 profile7 }

/-- A part in SERVICE with every bay locked and no train. -/
def face : State :=
  { State.reset with
    mode := { ModeControl.reset with mode := .service }
    bays := Vector.replicate 24 lockedBay
    store := { Store.reset with working := records } }

/-- The same part in another mode. -/
def inMode (m : Mode) (s : State) : State := { s with mode := { s.mode with mode := m } }

/-- Bay 1 is as given. -/
def bay1 (x : Bay) : State := face.setBay 0 x

/-- A bay in a phase with a movement and a timer. -/
def moving (q : Phase) (m : Movement) (l : BayLines) : Bay :=
  { lockedBay with phase := q, movement := m, lines := l, timer := some ⟨100, 100⟩, cap := some ⟨100, 100⟩ }

/-- Line 1 holds a function at a level that it is about to leave. -/
def withLine (f : LineFunction) (level : Bool) : State :=
  { face with
    lines := face.lines.set 0 { GeneralLine.reset with line := leaving level }
    store := { face.store with working := { records with
      lines := records.lines.set 0 { LineRecord.defaults with function := f, rising := true, falling := true } } } }

/-- A train in a state, with bays 1 and 2 aligned, and mapped where the state has a map. -/
def train (q : TrainState) : Train :=
  { Train.reset with
    state := q, units := [⟨7, .aEndToDatum⟩], target := some 0, measured := some 0, stopError := some 0
    alignment := .aligned, aligned := [⟨0, 1, 1, 1300⟩, ⟨1, 1, 2, 1300⟩], dwellLimit := 60
    map := if q == .enabled || q == .closing || q == .departing then [0, 1] else [] }

/-- The part with a train in a state. -/
def withTrain (q : TrainState) (s : State) : State :=
  { s with train := train q, gap := { s.gap with result := if q == .enabled then .pending else .none } }

/-- The fire latch is set. -/
def fire (s : State) : State := { s with release := { s.release with latch := some .station } }

/-- A reply is owed on a link. -/
def owing (l : Link) (s : State) : State :=
  s.setPort l { s.port l with reply := some { kind := 0#8, result := .done, block := [], content := [], showsOverrun := false } }

/-- Supervision in a state, with its timer. -/
def supervised (q : SupervisionState) (s : State) : State :=
  { s with supervision := { state := q, timer := if q == .armed then some ⟨1000, 1000⟩ else none
                            expiredAt := if q == .expired then some 0 else none } }

/-- The store in a state. -/
def stored (q : StoreState) (s : State) : State := { s with store := { s.store with state := q } }

/-- A release record of bay 1. -/
def record (k : ReleaseKind) : ReleaseRecord :=
  { number := 1, kind := k, bay := some 0, source := none, opened := 0, restored := none, acked := false }

/-- A log with one record. -/
def logged (r : ReleaseRecord) (s : State) : State := { s with release := { s.release with log := [r] } }

/-- No bay code hands a platform effect on in the default table. -/
theorem face_hands_nothing : BayCodesHandNothing face := by decide +kernel

/-! ### Witnesses: the queue, restarts and lines -/

theorem test_witness_IdleStepLetsTimePass :
    (∃ s : State, s.pending = [] ∧ s.runs = false)
    ∧ (∃ (s : State) (c : Instr), s.pending = [] ∧ s.runs = true ∧ s.expiries.head? = some c)
    ∧ ∃ s : State, s.pending = [] ∧ s.runs = true ∧ s.expiries = [] :=
  ⟨⟨{ face with stalled := true }, by decide +kernel⟩, ⟨supervised .armed face, .supervisionTimerExpires, by decide +kernel⟩,
    ⟨face, by decide +kernel⟩⟩

/-- Bay 1 opens with its open timer run out while supervision expires; the warning period is 0 and an obstruction stands. -/
def bothDue : State :=
  supervised .armed { (bay1 (moving .opening .opens { BayLines.reset with obstructed := still true })) with
    store := { face.store with working := { records with
      bays := records.bays.set 0 { BayRecord.defaults with kind := .sliding, linkLoss := .close }
      platform := { records.platform with warningPeriod := 0 } } } }

/-- Both timers have run out, but the expiry taken first starts the timer of bay 1 afresh: the other is dropped. -/
theorem test_a_dropped_timer_does_not_expire :
    bothDue.expiries = [.supervisionTimerExpires, .openLimitExpires 0]
    ∧ ∃ t, step bothDue = .next t ∧ (t.bay 0).phase = .reopening ∧ t.expiries = [] :=
  ⟨by decide +kernel, _, rfl, by decide +kernel⟩

theorem test_witness_SupplyAndResetStopAndRestart :
    (∃ s : State, s.power.supplyInRange = true) ∧ (∃ s : State, s.power.resetAsserted = false)
    ∧ (∃ s : State, s.power.supplyInRange = false ∧ s.power.resetAsserted = false)
    ∧ (∃ s : State, s.power.supplyInRange = false ∧ s.power.resetAsserted = true)
    ∧ (∃ s : State, s.power.resetAsserted = true ∧ s.power.supplyInRange = true ∧ s.power.resetSeen = true)
    ∧ ∃ s : State, s.power.resetAsserted = true ∧ s.power.supplyInRange = false :=
  ⟨⟨face, by decide +kernel⟩, ⟨face, by decide +kernel⟩, ⟨{ face with power := ⟨false, false, false, false⟩ }, by decide +kernel⟩,
    ⟨{ face with power := ⟨false, true, false, true⟩ }, by decide +kernel⟩,
    ⟨{ face with power := ⟨true, true, false, true⟩ }, by decide +kernel⟩,
    ⟨{ face with power := ⟨false, true, false, true⟩ }, by decide +kernel⟩⟩

/-- A part in STARTING whose line 1 holds FIRE_INPUT at a raw level. -/
def startingWith (high : Bool) : State :=
  inMode .starting { withLine .fireInput false with
    lines := face.lines.set 0 { GeneralLine.reset with line := { Line.reset with raw := high } } }

theorem test_witness_LoadingEndsStarting :
    (∃ s t : State, s.runs = true ∧ s.mode.mode = .starting ∧ exec .loadingEnds s = .next t
      ∧ t.functionLevel .fireInput = true ∧ s.release.latch = none)
    ∧ (∃ s t : State, s.runs = true ∧ s.mode.mode = .starting ∧ exec .loadingEnds s = .next t
      ∧ t.functionLevel .fireInput = false ∧ s.store.state ≠ .invalid
      ∧ (s.response .proofConflict).platformEffect ≠ .halt ∧ s.release.log = [])
    ∧ ∃ s t : State, s.runs = true ∧ s.mode.mode = .starting ∧ exec .loadingEnds s = .next t
      ∧ t.functionLevel .fireInput = false ∧ s.store.state = .invalid ∧ s.platformFrame.state ≠ .active :=
  ⟨⟨startingWith true, _, by decide +kernel, by decide +kernel, rfl, by decide +kernel, by decide +kernel⟩,
    ⟨startingWith false, _, by decide +kernel, by decide +kernel, rfl, by decide +kernel, by decide +kernel, by decide +kernel,
      by decide +kernel⟩,
    ⟨stored .invalid (startingWith false), _, by decide +kernel, by decide +kernel, rfl, by decide +kernel, by decide +kernel,
      by decide +kernel⟩⟩

/-- Loading ends with a fire, leaves apart, the curtain occupied and the drive faulted: bay 1 opens for the fire, is retried
and faulted, and its presence is formed from the phase that this leaves, so that no PRESENCE_CHANGED is posted for it. -/
theorem test_loading_forms_presence_after_the_fire_opening :
    ∃ t, exec .loadingEnds ((startingWith true).setBay 0 { Bay.reset with
        lines := { BayLines.reset with driveFault := still true, curtain := still true } }) = .next t
      ∧ (t.bay 0).phase = .faulted ∧ (t.bay 0).presence = .clear
      ∧ (t.events.queue.map (fun r => r.kind)).contains .faultRetry = true
      ∧ (t.events.queue.map (fun r => r.kind)).contains .presenceChanged = false := ⟨_, rfl, by decide +kernel⟩

theorem test_witness_FiltersTakeTheLevelsOfLines :
    (∃ (s : State) (l : InputLine), (s.inputLine l).raw = true)
    ∧ (∃ (s : State) (l : InputLine), (s.inputLine l).raw ≠ true ∧ s.active = false)
    ∧ (∃ (s : State) (l : InputLine), (s.inputLine l).raw ≠ true ∧ s.active = true ∧ s.isInput l = true
      ∧ (s.setInputLine l { s.inputLine l with raw := true }).logicalLevel l = (s.inputLine l).level)
    ∧ (∃ (s : State) (l : InputLine), (s.inputLine l).raw ≠ true ∧ s.active = true ∧ s.isInput l = true
      ∧ (s.setInputLine l { s.inputLine l with raw := true }).logicalLevel l ≠ (s.inputLine l).level
      ∧ (s.filterClass l).holdTime ≠ 0)
    ∧ (∃ (s : State) (l : InputLine), (s.inputLine l).raw ≠ true ∧ s.active = true ∧ s.isInput l = true
      ∧ (s.setInputLine l { s.inputLine l with raw := true }).logicalLevel l ≠ (s.inputLine l).level
      ∧ (s.filterClass l).holdTime = 0)
    ∧ (∃ (s : State) (l : InputLine), FilterRuns s l) ∧ ∃ (s : State) (l : InputLine), ¬FilterRuns s l :=
  ⟨⟨face, .bay 0 .closed, by decide +kernel⟩, ⟨State.reset, .bay 0 .gap, by decide +kernel⟩,
    ⟨bay1 { lockedBay with lines := { shut with gap := leaving true } }, .bay 0 .gap, by decide +kernel⟩,
    ⟨face, .bay 0 .gap, by decide +kernel⟩,
    ⟨{ face with store := { face.store with working := { records with
        bays := records.bays.set 0 { BayRecord.defaults with kind := .sliding, sensorFilter := .none } } } },
      .bay 0 .gap, by decide +kernel⟩,
    ⟨withLine .generalInput false, .general 0, by decide +kernel⟩, ⟨face, .general 0, by decide +kernel⟩⟩

theorem test_witness_ProofArrivalsMoveTheBay :
    (∃ (s : State) (b : BayIx), s.sliding b = true ∧ GapFresh s ∧ (s.bay b).lines.driveFault.level = false
      ∧ FilterRuns s (.bay b .locked) ∧ (s.bay b).phase = .unlocking ∧ (s.bay b).lines.locked.level = true
      ∧ (s.bay b).lines.fullyOpen.level = false)
    ∧ (∃ (s : State) (b : BayIx), s.sliding b = true ∧ GapFresh s ∧ (s.bay b).lines.driveFault.level = false
      ∧ FilterRuns s (.bay b .fullyOpen) ∧ (s.bay b).phase = .opening ∧ (s.bay b).lines.fullyOpen.level = false
      ∧ (s.bay b).lines.closed.level = false ∧ (s.bay b).lines.locked.level = false)
    ∧ (∃ (s : State) (b : BayIx), s.sliding b = true ∧ GapFresh s ∧ (s.bay b).lines.driveFault.level = false
      ∧ FilterRuns s (.bay b .fullyOpen) ∧ (s.bay b).phase = .reopening ∧ (s.bay b).pausing = false
      ∧ (s.bay b).lines.fullyOpen.level = false ∧ (s.bay b).lines.closed.level = false
      ∧ (s.bay b).lines.locked.level = false)
    ∧ (∃ (s : State) (b : BayIx), s.sliding b = true ∧ GapFresh s ∧ (s.bay b).lines.driveFault.level = false
      ∧ FilterRuns s (.bay b .closed) ∧ (s.bay b).phase = .closing ∧ (s.bay b).lines.closed.level = false
      ∧ (s.bay b).lines.fullyOpen.level = false ∧ (s.bay b).lines.locked.level = false)
    ∧ ∃ (s : State) (b : BayIx), s.sliding b = true ∧ GapFresh s ∧ (s.bay b).lines.driveFault.level = false
      ∧ FilterRuns s (.bay b .locked) ∧ (s.bay b).phase = .closedUnlocked ∧ (s.bay b).lines.locked.level = false
      ∧ (s.bay b).lines.closed.level = true ∧ (s.bay b).lines.fullyOpen.level = false :=
  ⟨⟨bay1 (moving .unlocking .opens { shut with locked := leaving true }), 0, by decide +kernel⟩,
    ⟨bay1 (moving .opening .opens { BayLines.reset with fullyOpen := leaving false }), 0, by decide +kernel⟩,
    ⟨bay1 (moving .reopening .closes { BayLines.reset with fullyOpen := leaving false }), 0, by decide +kernel⟩,
    ⟨bay1 (moving .closing .closes { BayLines.reset with closed := leaving false }), 0, by decide +kernel⟩,
    ⟨bay1 (moving .closedUnlocked .closes { shut with locked := leaving false }), 0, by decide +kernel⟩⟩

/-- The hypotheses that ObstructionReopensOrExhausts has in common for its clauses. -/
def obstructable (s : State) (b : BayIx) : Bool :=
  s.sliding b && decide (GapFresh s) && (s.bay b).phase == .closing && !(s.bay b).lines.closed.level
    && !(s.bay b).lines.locked.level && !(s.bay b).lines.fullyOpen.level && !(s.bay b).lines.driveFault.level

theorem test_witness_ObstructionReopensOrExhausts :
    (∃ (s : State) (b : BayIx), obstructable s b = true ∧ FilterRuns s (.bay b .obstructed)
      ∧ (s.bay b).lines.obstructed.level = false ∧ (s.bay b).reclose < s.platform.recloseAttempts)
    ∧ (∃ (s : State) (b : BayIx), obstructable s b = true ∧ FilterRuns s (.bay b .curtain)
      ∧ (s.bay b).lines.curtain.level = false ∧ (s.bay b).lines.gap.level = false ∧ (s.bay b).gapStuck = false
      ∧ (s.bay b).curtainStuck = false ∧ (s.bay b).presence ≠ .blocking ∧ (s.bay b).forced = false
      ∧ (s.bay b).reclose < s.platform.recloseAttempts)
    ∧ ∃ (s : State) (b : BayIx), obstructable s b = true ∧ FilterRuns s (.bay b .obstructed)
      ∧ (s.bay b).lines.obstructed.level = false ∧ s.platform.recloseAttempts ≤ (s.bay b).reclose
      ∧ Faults s b .recloseExhausted :=
  ⟨⟨bay1 { moving .closing .closes { BayLines.reset with obstructed := leaving false } with reclose := 2 }, 0,
      by decide +kernel⟩,
    ⟨bay1 (moving .closing .closes { BayLines.reset with curtain := leaving false }), 0, by decide +kernel⟩,
    ⟨bay1 { moving .closing .closes { BayLines.reset with obstructed := leaving false } with reclose := 3 }, 0,
      by decide +kernel⟩⟩

theorem test_witness_LostProofsFaultALockedBay :
    (∃ (s : State) (b : BayIx), s.sliding b = true ∧ GapFresh s ∧ (s.bay b).phase = .closedLocked
      ∧ (s.bay b).lines.closed.level = true ∧ FilterRuns s (.bay b .locked)
      ∧ (s.bay b).lines.locked.level = true ∧ Faults s b .lockLost)
    ∧ (∃ (s : State) (b : BayIx), s.sliding b = true ∧ GapFresh s ∧ (s.bay b).phase = .closedLocked
      ∧ (s.bay b).lines.closed.level = true ∧ FilterRuns s (.bay b .closed) ∧ Faults s b .leafForced ∧ BayCodesHandNothing s
      ∧ (s.bay b).lines.locked.level = true ∧ (s.bay b).lines.fullyOpen.level = true)
    ∧ ∃ (s : State) (b : BayIx), s.sliding b = true ∧ GapFresh s ∧ (s.bay b).phase = .closedLocked
      ∧ (s.bay b).lines.closed.level = true ∧ FilterRuns s (.bay b .closed) ∧ Faults s b .leafForced ∧ BayCodesHandNothing s
      ∧ (s.bay b).lines.locked.level = false :=
  ⟨⟨bay1 { lockedBay with lines := { shut with locked := leaving true } }, 0, by decide +kernel⟩,
    ⟨bay1 { lockedBay with lines := { shut with closed := leaving true, fullyOpen := still true } }, 0, by decide +kernel⟩,
    ⟨bay1 { lockedBay with lines := { shut with closed := leaving true, locked := still false } }, 0, by decide +kernel⟩⟩

/-- A conflict of the second sort begins where one of the first stood: PROOF_CONFLICT is counted after LEAF_FORCED. -/
theorem test_the_other_sort_of_conflict_begins :
    ∃ t, exec (.filterHoldExpires (.bay 0 .closed))
        (bay1 { lockedBay with lines := { shut with closed := leaving true, fullyOpen := still true } }) = .next t
      ∧ ((t.bay 0).frame.info.map FrameInfo.code) = some .leafForced ∧ ((t.bay 0).frame.info.map FrameInfo.count) = some 2 :=
  ⟨_, rfl, by decide +kernel⟩

/-- DRIVE_FAULT at entry, answered with FAULT_BAY after its retry, is followed by the conflict that stands. -/
theorem test_drive_fault_at_entry_leaves_the_conflict :
    ∃ t, exec (.warningPeriodExpires 0) (bay1 (moving .warning .closes
        { BayLines.reset with locked := still true, driveFault := still true })) = .next t
      ∧ (t.bay 0).phase = .faulted ∧ ((t.bay 0).frame.info.map FrameInfo.code) = some .driveFault
      ∧ ((t.bay 0).frame.info.map FrameInfo.count) = some 2 := ⟨_, rfl, by decide +kernel⟩

theorem test_witness_ReleaseKeyReleasesAndRestores :
    (∃ (s : State) (b : BayIx), s.sliding b = true ∧ GapFresh s ∧ FilterRuns s (.bay b .releaseKey)
      ∧ (s.bay b).lines.releaseKey.level = false ∧ (s.bay b).phase ≠ .isolated ∧ (s.bay b).phase ≠ .released
      ∧ (s.bay b).phase ≠ .notFitted)
    ∧ ∃ (s : State) (b : BayIx), s.sliding b = true ∧ GapFresh s ∧ FilterRuns s (.bay b .releaseKey)
      ∧ (s.bay b).lines.releaseKey.level = true ∧ (s.bay b).phase = .released ∧ s.hasOpenKind b .key = true ∧ s.fire = false ∧ BayCodesHandNothing s :=
  ⟨⟨bay1 { lockedBay with lines := { shut with releaseKey := leaving false } }, 0, by decide +kernel⟩,
    ⟨logged (record .key) (bay1 { lockedBay with phase := .released, lines := { shut with releaseKey := leaving true } }), 0,
      by decide +kernel⟩⟩

/-- Bay 24, an ESCAPE bay, is as given. -/
def door (x : Bay) : State := face.setBay 23 x

theorem test_witness_DoorsFollowTheirInputs :
    (∃ (s : State) (b : BayIx), s.kind b = .escape ∧ GapFresh s ∧ FilterRuns s (.bay b .releaseKey)
      ∧ (s.bay b).phase = .closedLocked ∧ ((s.bay b).lines.changed .releaseKey).doorShut = false
      ∧ ((s.bay b).lines.changed .releaseKey).doorConflict = false)
    ∧ (∃ (s : State) (b : BayIx), s.kind b = .escape ∧ GapFresh s ∧ FilterRuns s (.bay b .closed)
      ∧ (s.bay b).phase = .closedLocked ∧ ((s.bay b).lines.changed .closed).doorConflict = true ∧ Faults s b .proofConflict)
    ∧ ∃ (s : State) (b : BayIx), s.kind b = .escape ∧ GapFresh s ∧ FilterRuns s (.bay b .locked)
      ∧ (s.bay b).phase = .released ∧ ((s.bay b).lines.changed .locked).doorShut = true :=
  ⟨⟨door { lockedBay with lines := { shut with releaseKey := leaving false } }, 23, by decide +kernel⟩,
    ⟨door { lockedBay with lines := { shut with closed := leaving true } }, 23, by decide +kernel⟩,
    ⟨door { lockedBay with phase := .released, lines := { shut with locked := leaving false } }, 23, by decide +kernel⟩⟩

/-- The line that holds KEY_RESET with the line after it holding FIRE_INPUT at a level, and the latch set. -/
def resetWith (input : Bool) : State :=
  fire { withLine .keyReset false with
    lines := (withLine .keyReset false).lines.set 1 { GeneralLine.reset with line := still input }
    store := { face.store with working := { records with
      lines := (records.lines.set 0 { LineRecord.defaults with function := .keyReset }).set 1
        { LineRecord.defaults with function := .fireInput } } } }

theorem test_witness_GeneralLinesReachTheirOwners :
    (∃ (s : State) (n : LineIx), FilterRuns s (.general n) ∧ (s.lineRecord n).function = .fireInput
      ∧ (s.line n).line.level = false ∧ s.release.latch = none)
    ∧ (∃ (s : State) (n : LineIx), FilterRuns s (.general n) ∧ (s.lineRecord n).function = .panelOpen
      ∧ (s.line n).line.level = false ∧ s.release.latch = none)
    ∧ (∃ (s : State) (n : LineIx), FilterRuns s (.general n) ∧ (s.lineRecord n).function = .keyReset
      ∧ (s.line n).line.level = false ∧ s.fire = true ∧ s.functionLevel .fireInput = true)
    ∧ (∃ (s : State) (n : LineIx), FilterRuns s (.general n) ∧ (s.lineRecord n).function = .keyReset
      ∧ (s.line n).line.level = false ∧ s.fire = true ∧ s.functionLevel .fireInput = false
      ∧ s.functionLevel .panelOpen = false)
    ∧ (∃ (s : State) (n : LineIx), FilterRuns s (.general n) ∧ (s.lineRecord n).function = .bypassKey)
    ∧ (∃ (s : State) (n : LineIx), FilterRuns s (.general n) ∧ (s.lineRecord n).function = .fieldSupplyOk
      ∧ (s.line n).line.level = true ∧ s.platformFrame.state ≠ .active)
    ∧ (∃ (s : State) (n : LineIx), FilterRuns s (.general n) ∧ (s.lineRecord n).function = .generalInput
      ∧ (if (s.line n).line.level then (s.lineRecord n).falling else (s.lineRecord n).rising) = true)
    ∧ ∃ (s : State) (n : LineIx), FilterRuns s (.general n) ∧ (s.lineRecord n).function = .maintenanceKey
      ∧ (s.line n).line.level = true ∧ s.mode.mode = .maintenance ∧ BayCodesHandNothing s :=
  ⟨⟨withLine .fireInput false, 0, by decide +kernel⟩, ⟨withLine .panelOpen false, 0, by decide +kernel⟩,
    ⟨resetWith true, 0, by decide +kernel⟩, ⟨resetWith false, 0, by decide +kernel⟩,
    ⟨withLine .bypassKey false, 0, by decide +kernel⟩, ⟨withLine .fieldSupplyOk true, 0, by decide +kernel⟩,
    ⟨withLine .generalInput false, 0, by decide +kernel⟩,
    ⟨inMode .maintenance (withLine .maintenanceKey true), 0, by decide +kernel⟩⟩

/-- Line 1 is a placed berthing sensor. -/
def sensed (q : TrainState) : State :=
  withTrain q { withLine .berthSensor true with
    store := { (withLine .berthSensor true).store with working := { (withLine .berthSensor true).store.working with
      platform := { Platform.defaults with positions := (Vector.replicate 12 none).set 0 (some 1000) } } } }

theorem test_witness_BerthSensorsWatchTheTrain :
    (∃ (s : State) (n : LineIx) (p : Mm), FilterRuns s (.general n) ∧ (s.lineRecord n).function = .berthSensor
      ∧ s.platform.position (s.lineRecord n).index = some p ∧ s.train.state = .berthed)
    ∧ (∃ (s : State) (n : LineIx) (p : Mm), FilterRuns s (.general n) ∧ (s.lineRecord n).function = .berthSensor
      ∧ s.platform.position (s.lineRecord n).index = some p ∧ s.train.state = .enabled ∧ s.platformFrame.state ≠ .active)
    ∧ ∃ (s : State) (n : LineIx) (p : Mm), FilterRuns s (.general n) ∧ (s.lineRecord n).function = .berthSensor
      ∧ s.platform.position (s.lineRecord n).index = some p ∧ s.train.state = .departing ∧ (s.line n).line.level = true
      ∧ ∀ q ∈ s.placed, q.line ≠ n → (s.line q.line).line.level = false :=
  ⟨⟨sensed .berthed, 0, 1000, by decide +kernel⟩, ⟨sensed .enabled, 0, 1000, by decide +kernel⟩,
    ⟨sensed .departing, 0, 1000, by decide +kernel⟩⟩

/-! ### Witnesses: timers -/

theorem test_bay_index_2 : (⟨2, by decide +kernel⟩ : BayIx).val = 2 := rfl

/-- The hypotheses that the phase limits have in common. -/
abbrev limited (s : State) (b : BayIx) (x : Timer) (q : Phase) (c : FaultCode) : Prop :=
  s.active = true ∧ GapFresh s ∧ (s.bay b).timer = some x ∧ (s.bay b).phase = q ∧ Faults s b c

theorem test_witness_PhaseLimitFaultsTheBay :
    (∃ s b x, limited s b x .unlocking .unlockTimeout) ∧ (∃ s b x, limited s b x .opening .openTimeout)
    ∧ (∃ s b x, limited s b x .reopening .openTimeout ∧ (s.bay b).pausing = false)
    ∧ (∃ s b x, limited s b x .closing .closeTimeout) ∧ ∃ s b x, limited s b x .closedUnlocked .lockTimeout :=
  ⟨⟨bay1 { moving .unlocking .opens shut with retry := 1 }, 0, ⟨100, 100⟩, by decide +kernel⟩,
    ⟨bay1 { moving .opening .opens .reset with retry := 1 }, 0, ⟨100, 100⟩, by decide +kernel⟩,
    ⟨bay1 { moving .reopening .closes .reset with retry := 1 }, 0, ⟨100, 100⟩, by decide +kernel⟩,
    ⟨bay1 { moving .closing .closes .reset with retry := 1 }, 0, ⟨100, 100⟩, by decide +kernel⟩,
    ⟨bay1 { moving .closedUnlocked .closes { shut with locked := still false } with retry := 1 }, 0, ⟨100, 100⟩,
      by decide +kernel⟩⟩

/-- The hypotheses that the retried limits have in common. -/
abbrev retriable (s : State) (b : BayIx) (x : Timer) (q : Phase) (m : Movement) (c : FaultCode) : Prop :=
  s.active = true ∧ GapFresh s ∧ (s.bay b).timer = some x ∧ EntersFree s b ∧ (s.bay b).lines.fullyOpen.level = false
    ∧ (s.bay b).phase = q ∧ (s.bay b).movement = m ∧ s.retryGranted b c = true
    ∧ (s.response c).platformEffect = .none

theorem test_witness_PhaseLimitRetriesTheMovement :
    (∃ s b x, retriable s b x .unlocking .opens .unlockTimeout ∧ (s.bay b).lines.closed.level = true
      ∧ (s.bay b).lines.locked.level = true)
    ∧ (∃ s b x, retriable s b x .opening .opens .openTimeout ∧ (s.bay b).lines.closed.level = false)
    ∧ (∃ s b x, retriable s b x .closing .closes .closeTimeout ∧ (s.bay b).lines.closed.level = false
      ∧ (s.bay b).lines.obstructed.level = false ∧ (s.bay b).lines.curtain.level = false)
    ∧ ∃ s b x, retriable s b x .closedUnlocked .closes .lockTimeout ∧ (s.bay b).lines.closed.level = true
      ∧ (s.bay b).lines.locked.level = false :=
  ⟨⟨bay1 (moving .unlocking .opens shut), 0, ⟨100, 100⟩, by decide +kernel⟩,
    ⟨bay1 (moving .opening .opens .reset), 0, ⟨100, 100⟩, by decide +kernel⟩,
    ⟨bay1 (moving .closing .closes .reset), 0, ⟨100, 100⟩, by decide +kernel⟩,
    ⟨bay1 (moving .closedUnlocked .closes { shut with locked := still false }), 0, ⟨100, 100⟩, by decide +kernel⟩⟩

/-- The hypotheses that the ends of the warning and of the pause have in common. -/
abbrev closable (s : State) (b : BayIx) (q : Phase) : Prop :=
  s.active = true ∧ GapFresh s ∧ EntersFree s b ∧ (s.bay b).lines.closed.level = false
    ∧ (s.bay b).lines.obstructed.level = false ∧ (s.bay b).phase = q

theorem test_witness_WarningAndPauseLeadToClosing :
    (∃ (s : State) (b : BayIx) (x : Timer), closable s b .warning ∧ (s.bay b).timer = some x
      ∧ (s.bay b).presence ≠ .blocking ∧ (s.bay b).lines.curtain.level = false)
    ∧ (∃ (s : State) (b : BayIx), closable s b .warning ∧ (s.bay b).presence = .blocking)
    ∧ (∃ (s : State) (b : BayIx) (x : Timer), closable s b .reopening ∧ (s.bay b).pausing = true
      ∧ (s.bay b).timer = some x ∧ (s.bay b).lines.curtain.level = false)
    ∧ ∃ (s : State) (b : BayIx) (x : Timer), closable s b .warning ∧ (s.bay b).cap = some x
      ∧ s.events.queue.length + 5 ≤ 64 :=
  ⟨⟨bay1 (moving .warning .closes .reset), 0, ⟨100, 100⟩, by decide +kernel⟩,
    ⟨bay1 { moving .warning .closes .reset with presence := .blocking }, 0, by decide +kernel⟩,
    ⟨bay1 { moving .reopening .closes .reset with pausing := true }, 0, ⟨100, 100⟩, by decide +kernel⟩,
    ⟨bay1 (moving .warning .closes .reset), 0, ⟨100, 100⟩, by decide +kernel⟩⟩

theorem test_witness_DroppedTimersHaveNoEffect :
    ∃ (s : State) (b : BayIx) (k : Sensor), (s.bay b).timer = none ∧ (s.bay b).cap = none ∧ (s.bay b).stuckTimerOf k = none
      ∧ s.gap.timer = none ∧ s.supervision.timer = none :=
  ⟨face, 0, .gap, by decide +kernel⟩

theorem test_witness_StuckAndScanTimersExpire :
    (∃ (s : State) (b : BayIx), s.active = true ∧ s.sliding b = true ∧ (s.bay b).phase = .closedLocked
      ∧ ((s.bay b).stuckTimerOf .gap).isSome = true ∧ ((s.bay b).stuckTimerOf .curtain).isSome = true
      ∧ (s.response .sensorStuck).action = .advise ∧ (s.response .sensorStuck).platformEffect = .none
      ∧ s.retryGranted b .sensorStuck = false)
    ∧ ∃ s : State, s.active = true ∧ s.gap.result = .scanning ∧ s.gap.timer.isSome = true ∧ GapFresh s :=
  ⟨⟨bay1 { lockedBay with
        gapStuckTimer := some ⟨30000, 30000⟩, curtainStuckTimer := some ⟨30000, 30000⟩
        lines := { shut with gap := still true, curtain := still true } }, 0, by decide +kernel⟩,
    ⟨{ withTrain .closing face with gap := { result := .scanning, timer := some ⟨1500, 1500⟩ } }, by decide +kernel⟩⟩

theorem test_witness_SupervisionExpires :
    (∃ (s : State) (x : Timer), s.active = true ∧ s.supervision.state = .armed ∧ s.supervision.timer = some x
      ∧ s.platformFrame.state ≠ .active ∧ BayCodesHandNothing s ∧ (s.response .linkExpired).platformEffect = .none
      ∧ GapFresh s ∧ EntersFree s 0 ∧ (s.bayRecord 0).linkLoss = .close ∧ s.fire = false ∧ s.mode.mode ≠ .halted
      ∧ s.platform.warningPeriod ≠ 0 ∧ (s.bay 0).phase = .opened)
    ∧ ∃ (s : State) (x : Timer), s.active = true ∧ s.supervision.state = .armed ∧ s.supervision.timer = some x
      ∧ (s.lineRecord 0).function = .generalOutput :=
  ⟨⟨supervised .armed (bay1 { lockedBay with phase := .opened, lines := { BayLines.reset with fullyOpen := still true } }),
      ⟨1000, 1000⟩, by decide +kernel⟩,
    ⟨supervised .armed (withLine .generalOutput false), ⟨1000, 1000⟩, by decide +kernel⟩⟩

theorem test_witness_DwellFlagsAreSet :
    ∃ s : State, s.active = true ∧ s.train.state = .enabled ∧ s.train.dwellLimit ≠ 0 ∧ s.train.due = false
      ∧ s.train.overstay = false :=
  ⟨withTrain .enabled face, by decide +kernel⟩

/-- A commit under way, with a number of records written. -/
def committing (written : Nat) : State :=
  { face with store := { face.store with
      state := .committing, written := written, stored := { face.store.stored with completion := false } } }

theorem test_witness_RecordWritesCarryTheCommit :
    (∃ s : State, s.active = true ∧ s.store.state = .committing ∧ s.store.written + 1 = s.store.total)
    ∧ (∃ s : State, s.active = true ∧ s.store.state = .committing ∧ s.store.written + 1 ≠ s.store.total
      ∧ s.train.state ≠ .empty)
    ∧ ∃ s : State, s.active = true ∧ s.store.state = .committing ∧ s.store.written + 1 ≠ s.store.total
      ∧ s.train.state = .empty ∧ s.fire = false ∧ s.platformFrame.state ≠ .active :=
  ⟨⟨committing 92, by decide +kernel⟩, ⟨withTrain .berthed (committing 0), by decide +kernel⟩,
    ⟨committing 0, by decide +kernel⟩⟩

/-! ### Witnesses: links -/

theorem test_bay_index_3 : (⟨3, by decide +kernel⟩ : BayIx).val = 3 := rfl

/-- A receive buffer of the signalling link. -/
def buffered (b : Buffer) : State := { face with signalling := { face.signalling with buffer := b } }

theorem test_witness_BytesMoveTheBuffer :
    (∃ (s : State) (l : Link), s.runs = true ∧ (s.port l).reply = none ∧ (s.port l).buffer = .hunting)
    ∧ (∃ (s : State) (l : Link), s.runs = true ∧ (s.port l).reply = none ∧ (s.port l).buffer = .synced)
    ∧ (∃ (s : State) (l : Link) (n : Byte) (bytes : List Byte), s.runs = true ∧ (s.port l).reply = none
      ∧ (s.port l).buffer = .awaiting n bytes ∧ bytes.length + 1 ≠ n.toNat + 2)
    ∧ ∃ (s : State) (l : Link) (n : Byte) (bytes : List Byte), s.runs = true ∧ (s.port l).reply = none
      ∧ (s.port l).buffer = .awaiting n bytes ∧ bytes.length + 1 = n.toNat + 2
      ∧ (bytes ++ [0#8]).drop n.toNat ≠ be16 (crc16 (n :: bytes.take n.toNat)).toNat :=
  ⟨⟨face, .signalling, by decide +kernel⟩, ⟨buffered .synced, .signalling, by decide +kernel⟩,
    ⟨buffered (.awaiting 1#8 []), .signalling, 1#8, [], by decide +kernel⟩,
    ⟨buffered (.awaiting 1#8 [0x40#8, 0#8]), .signalling, 1#8, [0x40#8, 0#8], by decide +kernel⟩⟩

theorem test_witness_OwedRepliesHoldTheLink :
    (∃ (l : Link) (s : State), s.runs = true ∧ (s.port l).reply.isSome = true ∧ l = .signalling)
    ∧ (∃ (l : Link) (s : State), s.runs = true ∧ (s.port l).reply.isSome = true ∧ l = .station
      ∧ s.mode.restartAccepted = true)
    ∧ (∃ (c : Instr) (s : State), (requestOf c).isSome = true ∧ s.runs = false)
    ∧ (∃ (c : Instr) (s : State), requestOf c = some (.station, .halt, []) ∧ s.runs = true
      ∧ (s.port .station).reply ≠ none)
    ∧ ∃ (c : Instr) (s : State), requestOf c = some (.signalling, .poll, []) ∧ s.runs = true
      ∧ (s.port .signalling).reply = none ∧ s.mode.restartAccepted = true :=
  ⟨⟨.signalling, owing .signalling face, by decide +kernel⟩,
    ⟨.station, owing .station { face with mode := { face.mode with restartAccepted := true } }, by decide +kernel⟩,
    ⟨.halt .station [], { face with stalled := true }, by decide +kernel⟩,
    ⟨.halt .station [], owing .station face, by decide +kernel⟩,
    ⟨.poll .signalling [], { face with mode := { face.mode with restartAccepted := true } }, by decide +kernel⟩⟩

theorem test_witness_FrameBytesBringTheirFrame :
    ∃ (l : Link) (body : List Byte) (s : State), body.length ≤ 240 ∧ s.runs = true ∧ (s.port l).reply = none
      ∧ (s.port l).buffer = .hunting :=
  ⟨.signalling, [], face, by decide +kernel⟩

/-- The five bytes of a POLL frame, one step each, come to the POLL itself. -/
theorem test_poll_frame_bytes :
    (match Host.Core.run Sys2Proof.core 5
        { face with pending := (frameBytes 0x40#8 []).map (fun x => .byteReceived .signalling x) } with
      | .next (t : State) => decide (t = ({ face with pending := [] } : State).receiveFrame .signalling 0x40#8 [])
      | _ => false) = true := by decide +kernel

theorem test_witness_LinkRefusalsChangeNothing :
    (∃ (kind : Byte) (l : Link) (s : State), kindAssigned kind = false ∧ Ready l s)
    ∧ (∃ s : State, requestOf (.halt .station []) = some (.station, .halt, []) ∧ Ready .station s
      ∧ LinkRefuses .station .halt [] s .busy)
    ∧ (∃ s : State, requestOf (.halt .signalling []) = some (.signalling, .halt, []) ∧ Ready .signalling s
      ∧ LinkRefuses .signalling .halt [] s .wrongLink)
    ∧ (∃ s : State, requestOf (.halt .station [0#8]) = some (.station, .halt, [0#8]) ∧ Ready .station s
      ∧ LinkRefuses .station .halt [0#8] s .malformed)
    ∧ (∃ s : State, requestOf (.cancel .signalling []) = some (.signalling, .cancel, []) ∧ Ready .signalling s
      ∧ LinkRefuses .signalling .cancel [] s .mode)
    ∧ ∃ s : State, requestOf (.cancel .signalling []) = some (.signalling, .cancel, []) ∧ Ready .signalling s
      ∧ LinkRefuses .signalling .cancel [] s .expired :=
  ⟨⟨0x50#8, .signalling, face, by decide +kernel⟩,
    ⟨inMode .starting face, rfl, by decide +kernel, .busy (by decide +kernel)⟩,
    ⟨face, rfl, by decide +kernel, .wrongLink (by decide +kernel) (by decide +kernel)⟩,
    ⟨face, rfl, by decide +kernel, .malformed (by decide +kernel) (by decide +kernel) (by decide +kernel)⟩,
    ⟨inMode .halted face, rfl, by decide +kernel,
      .mode (by decide +kernel) (by decide +kernel) (by decide +kernel) (by decide +kernel)⟩,
    ⟨supervised .expired face, rfl, by decide +kernel,
      .expired (by decide +kernel) (by decide +kernel) (by decide +kernel) (by decide +kernel) rfl (by decide +kernel)
        (by decide +kernel)⟩⟩

theorem test_witness_RequestRowsAreTheirFrames :
    requestOf (.bayCommandStop .station [0#8, 0#8, 1#8, 0#8]) = some (.station, .bayCommand, [0#8, 0#8, 1#8, 2#8]) := rfl

/-! ### Witnesses: signalling requests -/

theorem test_bay_index_4 : (⟨4, by decide +kernel⟩ : BayIx).val = 4 := rfl

theorem test_witness_PollAnswersAndArms :
    (∃ s : State, Admits .signalling .poll [] s)
    ∧ (∃ s : State, s.supervision.state = .disarmed ∧ s.mode.mode = .service ∧ s.platform.supervisionPeriod ≠ 0)
    ∧ (∃ s : State, s.supervision.state = .disarmed ∧ s.mode.mode ≠ .service)
    ∧ (∃ s : State, s.supervision.state = .armed ∧ s.platform.supervisionPeriod ≠ 0)
    ∧ (∃ s : State, s.supervision.state = .armed ∧ s.platform.supervisionPeriod = 0)
    ∧ ∃ s : State, s.supervision.state = .expired :=
  ⟨⟨face, by decide +kernel⟩, ⟨face, by decide +kernel⟩, ⟨inMode .halted face, by decide +kernel⟩,
    ⟨supervised .armed face, by decide +kernel⟩,
    ⟨supervised .armed { face with store := { face.store with working := { records with
        platform := { Platform.defaults with supervisionPeriod := 0 } } } }, by decide +kernel⟩,
    ⟨supervised .expired face, by decide +kernel⟩⟩

/-- An ANNOUNCE of one unit of a consist, target 0. -/
def announcing (consist : Byte) : List Byte := [1#8, consist, 0#8, 0#8, 0#8, 0#8, 0#8, 0#8, 0#8]

theorem test_witness_AnnounceAndCancelTheTrain :
    (∃ s : State, Admits .signalling .announce (announcing 0#8) s ∧ announceOperand (announcing 0#8) = none)
    ∧ (∃ (s : State) (us : List TrainUnit) (g : Mm), Admits .signalling .announce (announcing 7#8) s
      ∧ announceOperand (announcing 7#8) = some (us, g) ∧ s.train.state ≠ .empty)
    ∧ (∃ (s : State) (us : List TrainUnit) (g : Mm), Admits .signalling .announce (announcing 8#8) s
      ∧ announceOperand (announcing 8#8) = some (us, g) ∧ s.train.state = .empty ∧ ∃ u ∈ us, s.profile u.consist = none)
    ∧ (∃ (s : State) (us : List TrainUnit) (g : Mm), Admits .signalling .announce (announcing 7#8) s
      ∧ announceOperand (announcing 7#8) = some (us, g) ∧ s.train.state = .empty
      ∧ ∀ u ∈ us, (s.profile u.consist).isSome = true)
    ∧ (∃ s : State, Admits .signalling .cancel [] s ∧ s.train.state = .berthed ∧ s.train.map = [])
    ∧ ∃ s : State, Admits .signalling .cancel [] s ∧ s.train.state ≠ .announced ∧ s.train.state ≠ .berthed :=
  ⟨⟨face, by decide +kernel⟩,
    ⟨withTrain .berthed face, [⟨7, .aEndToDatum⟩], 0, by decide +kernel⟩,
    ⟨face, [⟨8, .aEndToDatum⟩], 0, by decide +kernel⟩,
    ⟨face, [⟨7, .aEndToDatum⟩], 0, by decide +kernel⟩,
    ⟨withTrain .berthed face, by decide +kernel⟩, ⟨face, by decide +kernel⟩⟩

theorem test_witness_BerthJudgesThePosition :
    (∃ s : State, Admits .signalling .berth [0#8, 0#8, 0#8, 0#8] s ∧ berthOperand [0#8, 0#8, 0#8, 0#8] = some 0
      ∧ s.train.state ≠ .announced ∧ s.train.state ≠ .berthed)
    ∧ (∃ s : State, Admits .signalling .berth [0#8, 0#8, 0#8, 0#8] s ∧ berthOperand [0#8, 0#8, 0#8, 0#8] = some 0
      ∧ s.train.state = .announced ∧ s.placeTrain 1 0 s.train.units = none)
    ∧ ∃ (s : State) (ds : List PlacedDoorway), Admits .signalling .berth [0#8, 0#8, 0#8, 0#8] s
      ∧ berthOperand [0#8, 0#8, 0#8, 0#8] = some 0 ∧ s.train.state = .announced
      ∧ s.placeTrain 1 0 s.train.units = some ds ∧ s.train.target = some 0 ∧ s.placed = [] :=
  ⟨⟨face, by decide +kernel⟩,
    ⟨{ withTrain .announced face with store := State.reset.store }, by decide +kernel⟩,
    ⟨withTrain .announced face, [⟨1, 1, 8700, 11300⟩, ⟨1, 2, 28700, 31300⟩], by decide +kernel⟩⟩

theorem test_witness_MapIsSelectedFromTheAlignedSet :
    ∃ s : State, s.train.alignedBays.Pairwise (· < ·) ∧ s.train.alignedBays ≠ [] :=
  ⟨withTrain .berthed face, by decide +kernel⟩

/-- The phases of a train's part fit the kinds of its bays. -/
theorem phaseLaw_withTrain_berthed : PhaseLaw (withTrain .berthed face) :=
  { mapLaw := { early := by decide +kernel, aligned := by decide +kernel, members := by decide +kernel
                distinct := by decide +kernel }
    absent := by decide +kernel, sliding := by decide +kernel, door := by decide +kernel, stuck := by decide +kernel }

theorem test_witness_OpenMapFormsTheMap :
    (∃ (s : State) (x : Selection), Admits .signalling .openMap [0#8, 1#8, 0#8, 0#8, 60#8] s
      ∧ openMapOperand [0#8, 1#8, 0#8, 0#8, 60#8] = some x ∧ s.train.state = .departing)
    ∧ (∃ (s : State) (x : Selection), Admits .signalling .openMap [0#8, 1#8, 0#8, 0#8, 60#8] s
      ∧ openMapOperand [0#8, 1#8, 0#8, 0#8, 60#8] = some x ∧ s.train.state = .berthed ∧ s.fire = true)
    ∧ (∃ (s : State) (x : Selection), Admits .signalling .openMap [0#8, 1#8, 0#8, 0#8, 60#8] s
      ∧ openMapOperand [0#8, 1#8, 0#8, 0#8, 60#8] = some x ∧ s.train.state = .berthed ∧ s.fire = false
      ∧ ¬(s.train.alignment = .aligned ∨ s.train.alignment = .offset ∧ x.acceptOffset = true))
    ∧ (∃ (s : State) (x : Selection), Admits .signalling .openMap [0#8, 1#8, 1#8, 0#8, 60#8] s
      ∧ openMapOperand [0#8, 1#8, 1#8, 0#8, 60#8] = some x ∧ s.train.state = .berthed ∧ s.fire = false
      ∧ s.train.alignment = .aligned ∧ s.mapOf x = [])
    ∧ ∃ (s : State) (x : Selection), (Admits .signalling .openMap [0#8, 1#8, 0#8, 0#8, 60#8] s
      ∧ openMapOperand [0#8, 1#8, 0#8, 0#8, 60#8] = some x ∧ s.train.state = .berthed ∧ s.fire = false
      ∧ s.train.alignment = .aligned ∧ s.mapOf x ≠ [] ∧ BayCodesHandNothing s ∧ 0 ∈ s.mapOf x ∧ EntersFree s 0
      ∧ (s.bay 0).phase = .closedLocked ∧ (s.bay 0).lines.locked.level = true) ∧ PhaseLaw s :=
  ⟨⟨withTrain .departing face, ⟨.all, 1, false, false, 60⟩, by decide +kernel⟩,
    ⟨fire (withTrain .berthed face), ⟨.all, 1, false, false, 60⟩, by decide +kernel⟩,
    ⟨{ withTrain .berthed face with train := { train .berthed with alignment := .stale } }, ⟨.all, 1, false, false, 60⟩,
      by decide +kernel⟩,
    ⟨withTrain .berthed face, ⟨.all, 1, true, false, 60⟩, by decide +kernel⟩,
    ⟨withTrain .berthed face, ⟨.all, 1, false, false, 60⟩, by decide +kernel, phaseLaw_withTrain_berthed⟩⟩

/-- An enabled train whose member bay 1 is in a phase with FULLY_OPEN at a level. -/
def enabledWith (q : Phase) (fullyOpen : Bool) : State :=
  withTrain .enabled (bay1 (moving q .closes { BayLines.reset with fullyOpen := still fullyOpen }))

theorem phaseLaw_enabledWith_warning : PhaseLaw (enabledWith .warning false) :=
  { mapLaw := { early := by decide +kernel, aligned := by decide +kernel, members := by decide +kernel
                distinct := by decide +kernel }
    absent := by decide +kernel, sliding := by decide +kernel, door := by decide +kernel, stuck := by decide +kernel }

theorem phaseLaw_enabledWith_opened : PhaseLaw (enabledWith .opened true) :=
  { mapLaw := { early := by decide +kernel, aligned := by decide +kernel, members := by decide +kernel
                distinct := by decide +kernel }
    absent := by decide +kernel, sliding := by decide +kernel, door := by decide +kernel, stuck := by decide +kernel }

theorem test_witness_OpenMapReopensTheMap :
    (∃ (s : State) (x : Selection), Admits .signalling .openMap [0#8, 1#8, 0#8, 0#8, 60#8] s
      ∧ openMapOperand [0#8, 1#8, 0#8, 0#8, 60#8] = some x ∧ s.train.state = .enabled ∧ s.fire = true)
    ∧ ∃ (s : State) (x : Selection), (Admits .signalling .openMap [0#8, 1#8, 0#8, 0#8, 60#8] s
      ∧ openMapOperand [0#8, 1#8, 0#8, 0#8, 60#8] = some x ∧ s.train.state = .enabled ∧ s.fire = false
      ∧ BayCodesHandNothing s ∧ 0 ∈ s.train.map ∧ EntersFree s 0 ∧ (s.bay 0).phase = .warning
      ∧ (s.bay 0).lines.fullyOpen.level = false) ∧ PhaseLaw s :=
  ⟨⟨fire (withTrain .enabled face), ⟨.all, 1, false, false, 60⟩, by decide +kernel⟩,
    ⟨enabledWith .warning false, ⟨.all, 1, false, false, 60⟩, by decide +kernel, phaseLaw_enabledWith_warning⟩⟩

/-- An enabled train whose member bay 1 closes with its drive faulted, a fault that closes the map, and whose member bay 2
is RELEASED. -/
def reopening : State :=
  let s := (withTrain .enabled (bay1 (moving .closing .closes { BayLines.reset with driveFault := still true }))).setBay 1
    { lockedBay with phase := .released }
  s.setResponse ⟨8, by decide +kernel⟩ { s.response .driveFault with platformEffect := .closeMap }

/-- A re-open whose first claim brings a CLOSE_MAP effect reports the RELEASED member with its phase (spec/02 R45, spec/05
R102), not with the reason of a claim that is not handed. -/
theorem test_reopen_reports_a_released_member_after_a_close_map_effect :
    ∃ t, exec (.openMap .signalling [0#8, 1#8, 0#8, 0#8, 60#8]) reopening = .next t ∧ t.train.state = .closing
      ∧ t.signalling.reply.map Reply.content = some (mapContent [0, 1] [(1, .released)]) := ⟨_, rfl, by decide +kernel⟩

theorem test_witness_CloseMapClosesTheTrain :
    (∃ s : State, Admits .signalling .closeMap [] s ∧ s.train.state ≠ .enabled ∧ s.train.state ≠ .closing)
    ∧ (∃ s : State, Admits .signalling .closeMap [] s ∧ s.train.state = .enabled ∧ s.fire = true)
    ∧ ∃ s : State, (Admits .signalling .closeMap [] s ∧ s.train.state = .enabled ∧ s.fire = false ∧ GapFresh s
      ∧ BayCodesHandNothing s ∧ 0 ∈ s.train.map ∧ EntersFree s 0 ∧ (s.bay 0).phase = .opened
      ∧ s.platform.warningPeriod ≠ 0) ∧ PhaseLaw s :=
  ⟨⟨face, by decide +kernel⟩, ⟨fire (withTrain .enabled face), by decide +kernel⟩,
    ⟨enabledWith .opened true, by decide +kernel, phaseLaw_enabledWith_opened⟩⟩

/-- The same part with another secure value. -/
def proven (v : SecureValue) (s : State) : State := { s with proof := { s.proof with value := v } }

theorem test_witness_DepartEndsTheTrain :
    (∃ s : State, Admits .signalling .depart [] s ∧ s.train.state ≠ .berthed ∧ s.train.state ≠ .closing)
    ∧ (∃ s : State, Admits .signalling .depart [] s ∧ s.train.state = .berthed ∧ s.fire = true)
    ∧ (∃ s : State, Admits .signalling .depart [] s ∧ s.train.state = .berthed ∧ s.fire = false
      ∧ s.proof.value = .notSecure)
    ∧ (∃ s : State, Admits .signalling .depart [] s ∧ s.train.state = .berthed ∧ s.fire = false
      ∧ s.proof.value ≠ .notSecure ∧ s.sensorsClear = true)
    ∧ ∃ s : State, Admits .signalling .depart [] s ∧ s.train.state = .closing ∧ s.fire = false
      ∧ s.proof.value ≠ .notSecure ∧ s.sensorsClear = false :=
  ⟨⟨face, by decide +kernel⟩, ⟨fire (withTrain .berthed face), by decide +kernel⟩,
    ⟨withTrain .berthed face, by decide +kernel⟩, ⟨proven .secure (withTrain .berthed face), by decide +kernel⟩,
    ⟨proven .bypassed (sensed .closing), by decide +kernel⟩⟩

theorem test_witness_ResumeRearmsSupervision :
    (∃ s : State, Admits .signalling .resume [] s ∧ s.supervision.state = .expired)
    ∧ ∃ s : State, Admits .signalling .resume [] s ∧ s.supervision.state ≠ .expired :=
  ⟨⟨supervised .expired face, by decide +kernel⟩, ⟨face, by decide +kernel⟩⟩

/-! ### Witnesses: station requests -/

theorem test_bay_index_5 : (⟨5, by decide +kernel⟩ : BayIx).val = 5 := rfl

theorem test_witness_ReadsAnswerWithWhatStood :
    (∃ s : State, Admits .station .readBays [0#8, 1#8] s ∧ readBaysOperand [0#8, 1#8] = none)
    ∧ (∃ (s : State) (b : BayIx) (n : Nat), Admits .station .readBays [24#8, 12#8] s
      ∧ readBaysOperand [24#8, 12#8] = some (b, n))
    ∧ (∃ s : State, Admits .station .readTrain [] s) ∧ (∃ s : State, Admits .station .readMap [] s)
    ∧ (∃ s : State, Admits .station .readReleases [33#8] s ∧ readReleasesOperand [33#8] = none)
    ∧ (∃ s : State, Admits .station .readReleases [32#8] s ∧ readReleasesOperand [32#8] = some 32)
    ∧ (∃ s : State, Admits .station .readConfig [4#8, 1#8] s ∧ readConfigOperand [4#8, 1#8] = none)
    ∧ (∃ s : State, Admits .station .readConfig [4#8, 0#8] s ∧ readConfigOperand [4#8, 0#8] = some .platform)
    ∧ (∃ s : State, Admits .station .readStatus [] s)
    ∧ (∃ s : State, Admits .station .readLines [0#8] s ∧ readLinesOperand [0#8] = some none)
    ∧ (∃ (s : State) (b : BayIx), Admits .station .readFault [1#8, 1#8] s
      ∧ readFaultOperand [1#8, 1#8] = some (some b, true) ∧ (s.bay b).frame.state = .advised)
    ∧ (∃ s : State, Admits .station .readFault [0#8, 1#8] s ∧ readFaultOperand [0#8, 1#8] = some (none, true)
      ∧ s.platformFrame.state = .active)
    ∧ (∃ (s : State) (b : BayIx), Admits .station .readFault [1#8, 1#8] s
      ∧ readFaultOperand [1#8, 1#8] = some (some b, true) ∧ (s.bay b).frame.state ≠ .advised)
    ∧ ∃ s : State, Admits .station .readFault [0#8, 0#8] s ∧ readFaultOperand [0#8, 0#8] = some (none, false) :=
  ⟨⟨face, by decide +kernel⟩, ⟨face, 23, 12, by decide +kernel⟩, ⟨face, by decide +kernel⟩, ⟨face, by decide +kernel⟩,
    ⟨face, by decide +kernel⟩, ⟨face, by decide +kernel⟩, ⟨face, by decide +kernel⟩, ⟨face, by decide +kernel⟩,
    ⟨face, by decide +kernel⟩, ⟨face, by decide +kernel⟩,
    ⟨bay1 { lockedBay with frame := { state := .advised, info := none } }, 0, by decide +kernel⟩,
    ⟨{ face with platformFrame := { state := .active, info := none } }, by decide +kernel⟩,
    ⟨face, 0, by decide +kernel⟩, ⟨face, by decide +kernel⟩⟩

theorem test_witness_EventRequestsActOnTheQueue :
    (∃ s : State, Admits .station .takeEvents [12#8] s ∧ takeEventsOperand [12#8] = some 12)
    ∧ (∃ s : State, Admits .station .setAttention [0#8] s)
    ∧ ∃ s : State, Admits .station .setTrace [0#8, 0#8, 1#8, 1#8] s
      ∧ setTraceOperand [0#8, 0#8, 1#8, 1#8] = some (1, true) :=
  ⟨⟨face, by decide +kernel⟩, ⟨face, by decide +kernel⟩, ⟨face, by decide +kernel⟩⟩

/-- A record of a kind. -/
def event (k : EventKind) : EventRecord := { time := 0, kind := k, bay := none, value := 0 }

/-- A queue. -/
def queued (q : List EventRecord) : EventUnit := { EventUnit.reset with queue := q }

theorem test_witness_QueueMakesRoomByClass :
    (∃ u : EventUnit, u.queue.length < 64)
    ∧ (∃ (u : EventUnit) (before : List EventRecord) (x : EventRecord) (after : List EventRecord), 64 ≤ u.queue.length
      ∧ u.queue = before ++ x :: after ∧ (∀ y ∈ before, y.kind.cls = .safety ∨ y.kind.cls = .fault)
      ∧ x.kind.cls ≠ .safety ∧ x.kind.cls ≠ .fault)
    ∧ (∃ (u : EventUnit) (before : List EventRecord) (x : EventRecord) (after : List EventRecord), 64 ≤ u.queue.length
      ∧ u.queue = before ++ x :: after ∧ (∀ y ∈ before, y.kind.cls = .safety)
      ∧ (∀ y ∈ after, y.kind.cls = .safety ∨ y.kind.cls = .fault) ∧ x.kind.cls = .fault)
    ∧ (∃ u : EventUnit, 64 ≤ u.queue.length ∧ ∀ y ∈ u.queue, y.kind.cls = .safety)
    ∧ ∃ u : EventUnit, u.queue.length ≤ 64 ∧ ∃ y ∈ u.queue, y.kind.cls ≠ .safety :=
  ⟨⟨queued [], by decide +kernel⟩,
    ⟨queued ([event .gapOccupied, event .faultTaken] ++ event .phaseChanged :: List.replicate 61 (event .announced)),
      [event .gapOccupied, event .faultTaken], event .phaseChanged, List.replicate 61 (event .announced), by decide +kernel⟩,
    ⟨queued ([event .gapOccupied] ++ event .faultTaken :: List.replicate 62 (event .faultRetry)), [event .gapOccupied],
      event .faultTaken, List.replicate 62 (event .faultRetry), by decide +kernel⟩,
    ⟨queued (List.replicate 64 (event .gapOccupied)), by decide +kernel⟩,
    ⟨queued (List.replicate 64 (event .announced)), by decide +kernel⟩⟩

/-- What the clauses of a BAY_COMMAND statement have in common: the request is admitted, it names bay 1 with its action, and the
bay is accepted. -/
abbrev commands (a : BayAction) (s : State) : Prop :=
  Admits .station .bayCommand (withAction a [0#8, 0#8, 1#8, 0#8]) s
    ∧ bayCommandOperand (withAction a [0#8, 0#8, 1#8, 0#8]) = some (1, a) ∧ s.commandAccepts a 1 0 = true
    ∧ BayCodesHandNothing s ∧ GapFresh s

/-- Leaves at the open stop. -/
def openLines : BayLines := { BayLines.reset with fullyOpen := still true }

/-- The same part with a warning period of 0. -/
def unwarned (s : State) : State := s.setPlatform { s.platform with warningPeriod := 0 }

/-- The answer to CLOSE for a bay in OPENING with its leaves shut and a warning period of 0 is CLOSED_LOCKED. -/
theorem test_close_without_warning_passes_through :
    ∃ t, exec (.bayCommandClose .station [0#8, 0#8, 1#8, 1#8]) (unwarned (bay1 (moving .opening .opens shut))) = .next t
      ∧ (t.bay 0).phase = .closedLocked ∧ (t.bay 0).movement = .none := ⟨_, rfl, by decide +kernel⟩

/-- With the leaves apart it is CLOSING, with the close timer. -/
theorem test_close_without_warning_closes :
    ∃ t, exec (.bayCommandClose .station [0#8, 0#8, 1#8, 1#8])
        (unwarned (bay1 { lockedBay with phase := .opened, lines := openLines })) = .next t
      ∧ (t.bay 0).phase = .closing ∧ (t.bay 0).movement = .closes ∧ (t.bay 0).cap = none
      ∧ (t.bay 0).timer = some ⟨4500, 0⟩ := ⟨_, rfl, by decide +kernel⟩

theorem test_witness_MovementCommandsMoveTheBays :
    (∃ s : State, commands .opens s ∧ s.mode.mode = .maintenance ∧ EntersFree s 0 ∧ (s.bay 0).phase = .closedLocked
      ∧ (s.bay 0).lines.locked.level = true)
    ∧ (∃ s : State, commands .opens s ∧ s.mode.mode = .maintenance ∧ EntersFree s 0 ∧ (s.bay 0).phase ≠ .closedLocked
      ∧ (s.bay 0).lines.fullyOpen.level = false)
    ∧ (∃ s : State, commands .closes s ∧ s.mode.mode = .service ∧ EntersFree s 0 ∧ (s.bay 0).phase = .opened
      ∧ s.platform.warningPeriod ≠ 0)
    ∧ (∃ s : State, commands .closes s ∧ s.mode.mode = .service ∧ EntersFree s 0 ∧ (s.bay 0).phase = .stopped
      ∧ (s.bay 0).lines.closed.level = false ∧ s.platform.warningPeriod ≠ 0)
    ∧ (∃ s : State, commands .closes s ∧ s.mode.mode = .service ∧ EntersFree s 0 ∧ (s.bay 0).phase = .opened
      ∧ s.platform.warningPeriod = 0 ∧ (s.bay 0).lines.closed.level = false
      ∧ (s.bay 0).lines.obstructed.level = false ∧ (s.bay 0).lines.curtain.level = false)
    ∧ (∃ s : State, commands .closes s ∧ s.mode.mode = .service ∧ EntersFree s 0 ∧ (s.bay 0).phase = .unlocking
      ∧ ShutsByClose s 0 ∧ (s.bay 0).lines.locked.level = false)
    ∧ (∃ s : State, commands .closes s ∧ s.mode.mode = .service ∧ EntersFree s 0 ∧ (s.bay 0).phase = .stopped
      ∧ ShutsByClose s 0 ∧ (s.bay 0).lines.locked.level = false)
    ∧ (∃ s : State, commands .closes s ∧ s.mode.mode = .service ∧ EntersFree s 0 ∧ (s.bay 0).phase = .opening
      ∧ ShutsByClose s 0 ∧ (s.bay 0).lines.locked.level = true)
    ∧ (∃ s : State, commands .closes s ∧ s.mode.mode = .service ∧ EntersFree s 0 ∧ (s.bay 0).phase = .unlocking
      ∧ ShutsByClose s 0 ∧ (s.bay 0).lines.locked.level = true)
    ∧ ∃ s : State, commands .stop s ∧ s.mode.mode = .service ∧ EntersFree s 0 :=
  ⟨⟨inMode .maintenance face, by decide +kernel⟩,
    ⟨inMode .maintenance (bay1 (moving .closing .closes .reset)), by decide +kernel⟩,
    ⟨bay1 { lockedBay with phase := .opened, lines := openLines }, by decide +kernel⟩,
    ⟨bay1 { lockedBay with phase := .stopped, lines := openLines }, by decide +kernel⟩,
    ⟨unwarned (bay1 { lockedBay with phase := .opened, lines := openLines }), by decide +kernel⟩,
    ⟨bay1 (moving .unlocking .opens { shut with locked := still false }), by decide +kernel⟩,
    ⟨bay1 { lockedBay with phase := .stopped, lines := { shut with locked := still false } }, by decide +kernel⟩,
    ⟨unwarned (bay1 (moving .opening .opens shut)), by decide +kernel⟩,
    ⟨bay1 (moving .unlocking .opens shut), by decide +kernel⟩,
    ⟨bay1 (moving .closing .closes .reset), by decide +kernel⟩⟩

theorem test_witness_HoldAndFreeSetTheHold : (∃ s : State, commands .hold s) ∧ ∃ s : State, commands .free s :=
  ⟨⟨face, by decide +kernel⟩, ⟨face, by decide +kernel⟩⟩

theorem test_witness_IsolateRestoreAndClearFault :
    (∃ s : State, commands .isolate s ∧ (s.bay 0).lines.conflict = false ∧ (s.bay 0).phase = .closedLocked)
    ∧ (∃ s : State, commands .isolate s ∧ (s.bay 0).lines.conflict = false ∧ (s.bay 0).phase = .faulted)
    ∧ (∃ s : State, commands .restore s ∧ s.fire = false ∧ (s.bay 0).lines.conflict = false)
    ∧ ∃ s : State, commands .clearFault s ∧ s.fire = false :=
  ⟨⟨face, by decide +kernel⟩, ⟨bay1 { lockedBay with phase := .faulted }, by decide +kernel⟩,
    ⟨bay1 { lockedBay with phase := .isolated }, by decide +kernel⟩,
    ⟨bay1 { lockedBay with phase := .faulted }, by decide +kernel⟩⟩

theorem test_witness_AckReleaseUpdatesTheLog :
    (∃ s : State, Admits .station .ackRelease [0#8, 0#8] s ∧ ackOperand [0#8, 0#8] = none)
    ∧ (∃ s : State, Admits .station .ackRelease [0#8, 9#8] s ∧ ackOperand [0#8, 9#8] = some (some 9)
      ∧ ∀ r ∈ s.release.log, r.number ≠ 9)
    ∧ (∃ s : State, Admits .station .ackRelease [0#8, 1#8] s ∧ ackOperand [0#8, 1#8] = some (some 1)
      ∧ ∃ r ∈ s.release.log, r.number = 1)
    ∧ ∃ s : State, Admits .station .ackRelease [1#8, 0#8] s ∧ ackOperand [1#8, 0#8] = some none :=
  ⟨⟨face, by decide +kernel⟩, ⟨logged (record .key) face, by decide +kernel⟩, ⟨logged (record .key) face, by decide +kernel⟩,
    ⟨face, by decide +kernel⟩⟩

theorem test_witness_EmergencyOpenSetsTheLatch :
    (∃ s : State, Admits .station .emergencyOpen [] s ∧ s.release.latch = none ∧ BayCodesHandNothing s ∧ GapFresh s
      ∧ s.mode.mode ≠ .halted ∧ EntersFree s 0 ∧ (s.bay 0).phase = .warning ∧ (s.bay 0).lines.fullyOpen.level = false
      ∧ EntersFree s 1 ∧ (s.bay 1).phase = .closedLocked ∧ (s.bay 1).lines.locked.level = true)
    ∧ ∃ s : State, Admits .station .emergencyOpen [] s ∧ s.fire = true :=
  ⟨⟨bay1 (moving .warning .closes .reset), by decide +kernel⟩, ⟨fire face, by decide +kernel⟩⟩

theorem test_witness_ExtendDwellRaisesTheLimit :
    (∃ s : State, Admits .station .extendDwell [120#8] s ∧ extendOperand [120#8] = some 120 ∧ s.train.state ≠ .enabled
      ∧ s.train.state ≠ .closing)
    ∧ ∃ s : State, Admits .station .extendDwell [1#8] s ∧ extendOperand [1#8] = some 1 ∧ s.train.state = .enabled :=
  ⟨⟨face, by decide +kernel⟩, ⟨withTrain .enabled face, by decide +kernel⟩⟩

theorem test_witness_SetOutputWritesTheLatches :
    (∃ s : State, Admits .station .setOutput [0#8, 0#8, 2#8, 0#8, 0#8, 0#8] s
      ∧ setOutputOperand [0#8, 0#8, 2#8, 0#8, 0#8, 0#8] = some (2, 0) ∧ inSet 2 1 = true
      ∧ (s.lineRecord 1).function ≠ .generalOutput)
    ∧ ∃ s : State, Admits .station .setOutput [0#8, 0#8, 1#8, 0#8, 0#8, 1#8] s
      ∧ setOutputOperand [0#8, 0#8, 1#8, 0#8, 0#8, 1#8] = some (1, 1) ∧ inSet 1 0 = true
      ∧ s.supervision.state ≠ .expired ∧ ∀ n, inSet 1 n = true → (s.lineRecord n).function = .generalOutput :=
  ⟨⟨face, by decide +kernel⟩, ⟨withLine .generalOutput false, by decide +kernel⟩⟩

/-- A part whose maintenance key is turned. -/
def keyed : State :=
  { withLine .maintenanceKey false with lines := face.lines.set 0 { GeneralLine.reset with line := still true } }

theorem test_witness_MaintenanceIsEnteredAndLeft :
    (∃ s : State, Admits .station .enterMaintenance [] s ∧ s.mode.mode = .maintenance)
    ∧ (∃ s : State, Admits .station .enterMaintenance [] s ∧ s.mode.mode = .service
      ∧ s.functionLevel .maintenanceKey = false)
    ∧ (∃ s : State, Admits .station .enterMaintenance [] s ∧ s.mode.mode = .service
      ∧ s.functionLevel .maintenanceKey = true ∧ s.train.state ≠ .empty)
    ∧ (∃ s : State, Admits .station .enterMaintenance [] s ∧ s.mode.mode = .service
      ∧ s.functionLevel .maintenanceKey = true ∧ s.train.state = .empty)
    ∧ (∃ s : State, Admits .station .leaveMaintenance [] s ∧ s.mode.mode = .service)
    ∧ ∃ s : State, Admits .station .leaveMaintenance [] s ∧ s.mode.mode = .maintenance ∧ s.train.map = []
      ∧ BayCodesHandNothing s ∧ EntersFree s 0 ∧ s.fire = false ∧ (s.bay 0).phase = .opened
      ∧ s.platform.warningPeriod ≠ 0 ∧ s.sliding 23 = false :=
  ⟨⟨inMode .maintenance face, by decide +kernel⟩, ⟨face, by decide +kernel⟩, ⟨withTrain .announced keyed, by decide +kernel⟩,
    ⟨keyed, by decide +kernel⟩, ⟨face, by decide +kernel⟩,
    ⟨inMode .maintenance (bay1 { lockedBay with phase := .opened, lines := openLines }), by decide +kernel⟩⟩

theorem test_witness_HaltAndRestartByRequest :
    (∃ s : State, Admits .station .halt [] s ∧ s.mode.mode ≠ .halted)
    ∧ (∃ s : State, Admits .station .halt [] s ∧ s.mode.mode = .halted)
    ∧ (∃ s : State, Admits .station .prepareRestart [] s)
    ∧ (∃ s : State, Admits .station .restart [] s ∧ s.mode.preparation = true)
    ∧ ∃ s : State, Admits .station .restart [] s ∧ s.mode.preparation = false :=
  ⟨⟨face, by decide +kernel⟩, ⟨inMode .halted face, by decide +kernel⟩, ⟨face, by decide +kernel⟩,
    ⟨{ face with mode := { face.mode with preparation := true } }, by decide +kernel⟩, ⟨face, by decide +kernel⟩⟩

/-! ### Witnesses: the store -/

theorem test_bay_index_6 : (⟨6, by decide +kernel⟩ : BayIx).val = 6 := rfl

/-- A bay record as WRITE_BAY carries it, for bay 3 at a centre, of kind SLIDING. -/
def bayBody (centre : Byte) : List Byte :=
  [3#8, 1#8, 0#8, 0#8, centre, 0#8, 6#8, 64#8, 2#8, 188#8, 3#8, 32#8, 15#8, 160#8, 17#8, 148#8, 3#8, 32#8, 1#8, 1#8, 2#8, 3#8]

/-- A part in MAINTENANCE on a new module, whose positions are all ABSENT. -/
def blank : State :=
  inMode .maintenance { face with
    bays := Vector.replicate 24 Bay.reset, store := { face.store with working := Records.defaults } }

/-- A profile of consist 7 with one doorway, as WRITE_PROFILE carries it for a slot. -/
def profileBody (slot : Byte) : List Byte := [slot, 1#8, 7#8, 0#8, 39#8, 16#8, 1#8, 0#8, 0#8, 0#8, 2#8, 88#8]

/-- The default platform settings, as WRITE_PLATFORM carries them. -/
def platformBody : List Byte := Platform.defaults.content

theorem test_witness_OwnerRefusalsComeInOrder :
    (∃ s : State, Admits .station .writeBay (bayBody 9#8) s ∧ s.store.area.mark = true)
    ∧ (∃ s : State, Admits .station .commit [] s ∧ s.mode.mode = .service)
    ∧ (∃ s : State, Admits .station .commit [] s ∧ s.mode.mode ≠ .service ∧ s.store.frozen = true)
    ∧ (∃ s : State, Admits .station .commit [] s ∧ s.mode.mode ≠ .service ∧ s.store.frozen = false
      ∧ s.store.state = .committing)
    ∧ (∃ s : State, Admits .station .eraseProfile [13#8] s ∧ s.mode.mode ≠ .service ∧ s.store.frozen = false
      ∧ s.store.state ≠ .committing ∧ s.store.state ≠ .suspended ∧ RangeFails .eraseProfile [13#8])
    ∧ (∃ (s : State) (i : Fin 12) (p : Profile), Admits .station .writeProfile (profileBody 2#8) s ∧ s.mode.mode ≠ .service
      ∧ s.store.frozen = false ∧ s.store.state ≠ .committing ∧ s.store.state ≠ .suspended
      ∧ profileOperand (profileBody 2#8) = some (i, p) ∧ s.consistTaken i p.consist = true)
    ∧ (∃ (s : State) (i : Fin 32) (r : Response), Admits .station .writeResponse [19#8, 0#8, 0#8, 1#8, 0#8] s
      ∧ s.mode.mode ≠ .service ∧ s.store.frozen = false ∧ s.store.state ≠ .committing ∧ s.store.state ≠ .suspended
      ∧ responseOperand [19#8, 0#8, 0#8, 1#8, 0#8] = some (i, r) ∧ i.val = 19)
    ∧ (∃ (s : State) (n : LineIx) (r : LineRecord), Admits .station .writeLine [2#8, 1#8, 1#8, 0#8, 0#8, 0#8] s
      ∧ s.mode.mode ≠ .service ∧ s.store.frozen = false ∧ s.store.state ≠ .committing ∧ s.store.state ≠ .suspended
      ∧ lineOperand [2#8, 1#8, 1#8, 0#8, 0#8, 0#8] = some (n, r) ∧ s.lineTaken n r = true)
    ∧ (∃ s : State, Admits .station .extendDwell [121#8] s ∧ RangeFails .extendDwell [121#8])
    ∧ ∃ s : State, Admits .station .bayCommand [0#8, 0#8, 1#8, 0#8] s
      ∧ bayCommandOperand [0#8, 0#8, 1#8, 0#8] = some (1, .opens) ∧ BayAction.opens.admitted s.mode.mode = false :=
  ⟨⟨{ face with store := { face.store with area := { face.store.area with mark := true } } }, by decide +kernel⟩,
    ⟨face, by decide +kernel⟩,
    ⟨inMode .halted { face with store := { face.store with frozen := true } }, by decide +kernel⟩,
    ⟨inMode .halted (stored .committing face), by decide +kernel⟩, ⟨inMode .halted face, by decide +kernel⟩,
    ⟨inMode .halted face, 1, { valid := true, consist := 7, unitLength := 10000, doorways := [⟨0, 600⟩] }, by decide +kernel⟩,
    ⟨inMode .halted face, 19, ⟨.faultBay, 0, 1, .none⟩, by decide +kernel⟩,
    ⟨inMode .halted (withLine .fireInput false), 1, ⟨.fireInput, 1, .activeHigh, .none, false, false, false⟩, by decide +kernel⟩,
    ⟨face, by decide +kernel⟩, ⟨face, by decide +kernel⟩⟩

theorem test_witness_ConfigurationWritesReplaceTheRecord :
    (∃ (s : State) (i : Fin 12) (p : Profile), s.storeRefusal = none ∧ Admits .station .writeProfile (profileBody 1#8) s
      ∧ profileOperand (profileBody 1#8) = some (i, p) ∧ s.consistTaken i p.consist = false)
    ∧ (∃ (s : State) (i : Fin 12), s.storeRefusal = none ∧ Admits .station .eraseProfile [12#8] s
      ∧ eraseOperand [12#8] = some i)
    ∧ (∃ (s : State) (i : Fin 32) (r : Response), s.storeRefusal = none
      ∧ Admits .station .writeResponse [31#8, 1#8, 3#8, 3#8, 2#8] s
      ∧ responseOperand [31#8, 1#8, 3#8, 3#8, 2#8] = some (i, r) ∧ i.val ≠ 19)
    ∧ (∃ (s : State) (p : Platform), s.storeRefusal = none ∧ Admits .station .writePlatform platformBody s
      ∧ platformOperand platformBody = some p ∧ s.train.state ≠ .departing)
    ∧ ∃ (s : State) (n : LineIx) (r : LineRecord), s.storeRefusal = none
      ∧ Admits .station .writeLine [1#8, 7#8, 12#8, 1#8, 3#8, 7#8] s
      ∧ lineOperand [1#8, 7#8, 12#8, 1#8, 3#8, 7#8] = some (n, r) ∧ s.lineTaken n r = false ∧ s.endsSession n r = false
      ∧ (s.lineRecord n).function ≠ r.function :=
  ⟨⟨inMode .halted face, 0, { valid := true, consist := 7, unitLength := 10000, doorways := [⟨0, 600⟩] }, by decide +kernel⟩,
    ⟨inMode .halted face, 11, by decide +kernel⟩, ⟨inMode .halted face, 31, ⟨.advise, 3, 3, .halt⟩, by decide +kernel⟩,
    ⟨inMode .halted face, Platform.defaults, by decide +kernel⟩,
    ⟨inMode .halted face, 0, ⟨.generalInput, 12, .activeLow, .long, true, true, true⟩, by decide +kernel⟩⟩

/-- Line 1 holds a function at a level that stands, and the first berthing sensor has a position. -/
def standing (f : LineFunction) (level : Bool) : State :=
  let s := withLine f level
  { s with
    lines := s.lines.set 0 { GeneralLine.reset with line := still level }
    store := { s.store with working := { s.store.working with
      platform := { records.platform with positions := records.platform.positions.set 0 (some 100) } } } }

/-- A write of the polarity alone gives the proof unit the standing level of the bypass key, with no BYPASS_CHANGED. -/
theorem test_polarity_alone_brings_a_standing_key :
    let t := (inMode .maintenance (standing .bypassKey false)).event (fun e => e.writeLine 0
      { LineRecord.defaults with function := .bypassKey, polarity := .activeLow })
    t.proof.keyLevel = true ∧ t.functionLevel .bypassKey = true
      ∧ (t.events.queue.map (fun r => r.kind)).contains .bypassChanged = false := by decide +kernel

/-- The owner of a function that a write gives comes before the departure watch that the same write has examined. -/
theorem test_owners_come_before_the_departure_watch :
    let s := inMode .halted (withTrain .departing (standing .berthSensor true))
    let t := s.event (fun e => e.writeLine 0 { LineRecord.defaults with function := .fireInput })
    t.train.state = .empty ∧ (t.events.queue.map (fun r => r.kind)).filter (fun k => k == .fireLatched || k == .trainCleared)
      = [.fireLatched, .trainCleared] := by decide +kernel

theorem test_witness_WriteBayReplacesTheRecord :
    (∃ (s : State) (b : BayIx) (r : BayRecord), Admits .station .writeBay (bayBody 9#8) s ∧ s.store.area.mark = false
      ∧ s.storeRefusal = none ∧ bayOperand (bayBody 9#8) = some (b, r) ∧ s.bayConflict b r = true)
    ∧ (∃ (s : State) (b : BayIx) (r : BayRecord), Admits .station .writeBay (bayBody 9#8) s ∧ s.store.area.mark = false
      ∧ s.storeRefusal = none ∧ bayOperand (bayBody 9#8) = some (b, r) ∧ s.bayConflict b r = false ∧ s.fire = false
      ∧ BayCodesHandNothing s ∧ GapFresh s ∧ r.kind ≠ s.kind b)
    ∧ ∃ (s : State) (b : BayIx) (r : BayRecord), Admits .station .writeBay (bayBody 9#8) s ∧ s.store.area.mark = false
      ∧ s.storeRefusal = none ∧ bayOperand (bayBody 9#8) = some (b, r) ∧ s.bayConflict b r = false ∧ s.fire = false
      ∧ BayCodesHandNothing s ∧ GapFresh s ∧ r.kind = s.kind b :=
  ⟨⟨inMode .maintenance face, 2, { BayRecord.defaults with kind := .sliding, centre := 2304 }, by decide +kernel⟩,
    ⟨blank, 2, { BayRecord.defaults with kind := .sliding, centre := 2304 }, by decide +kernel⟩,
    ⟨{ blank with store := { blank.store with working := { Records.defaults with
        bays := Records.defaults.bays.set 2 { BayRecord.defaults with kind := .sliding } } } }, 2,
      { BayRecord.defaults with kind := .sliding, centre := 2304 }, by decide +kernel⟩⟩

theorem test_witness_CommitFreezeAndFixGeometry :
    (∃ s : State, Admits .station .commit [] s ∧ s.storeRefusal = none)
    ∧ (∃ s : State, Admits .station .freezeConfig [] s)
    ∧ (∃ s : State, Admits .station .fixGeometry [] s ∧ s.store.frozen = true)
    ∧ (∃ s : State, Admits .station .fixGeometry [] s ∧ s.store.area.mark = false ∧ s.store.frozen = false
      ∧ s.store.state = .committing)
    ∧ ∃ s : State, (Admits .station .fixGeometry [] s ∧ s.store.area.mark = false ∧ s.store.frozen = false
      ∧ s.store.state ≠ .committing ∧ s.store.state ≠ .suspended)
      ∧ (Config.areaVerifies s.freeCount = true ∨ Config.areaVerifies s.freeCount = false) :=
  ⟨⟨inMode .halted face, by decide +kernel⟩, ⟨face, by decide +kernel⟩,
    ⟨inMode .maintenance { face with store := { face.store with frozen := true } }, by decide +kernel⟩,
    ⟨inMode .maintenance (stored .committing face), by decide +kernel⟩,
    ⟨inMode .maintenance face, by decide +kernel, by cases Config.areaVerifies (inMode .maintenance face).freeCount <;> simp⟩⟩

/-! ### Witnesses: laws -/

theorem test_bay_index_7 : (⟨7, by decide +kernel⟩ : BayIx).val = 7 := rfl

/-- Bay 1 is FAULTED, with its frame. -/
def faultedFace : State :=
  bay1 { lockedBay with phase := .faulted, frame := face.newFrame .active .lockLost 0 .closedLocked .none 0 }

/-- The part is HALTED with its pins formed, and a POLL waits. -/
def haltedFace : State := ({ inMode .halted face with pending := [.poll .signalling []] }).formPins

/-- The part with its proof and pins formed. -/
def formed : State := face.formProof.formPins

theorem test_witness_SecureValueByItsTable :
    (∃ s : State, ProofFollows s ∧ s.mode.mode ≠ .starting ∧ s.proof.value = .secure)
    ∧ ∃ s : State, ProofFollows s ∧ s.mode.mode ≠ .starting ∧ PinsFollow s ∧ s.runs = true
      ∧ (s.lineRecord 0).function = .secureOut :=
  ⟨⟨formed, by decide +kernel⟩, ⟨(withLine .secureOut false).formProof.formPins, by decide +kernel⟩⟩

theorem test_witness_PinsAndProofFollowEveryStep :
    (PinsFollow formed ∧ ProofFollows formed)
    ∧ (∃ (s t : State) (b : BayIx), PinsFollow s ∧ step s = .next t ∧ (t.bay b).phase = .faulted)
    ∧ ∃ s t : State, PinsFollow s ∧ step s = .next t ∧ HaltedLaw t ∧ t.stalled = false ∧ t.mode.mode = .halted :=
  ⟨by decide +kernel,
    ⟨({ faultedFace with pending := [.poll .signalling []] }).formPins, _, 0, by decide +kernel, rfl, by decide +kernel⟩,
    ⟨haltedFace, _, by decide +kernel, rfl, by decide +kernel⟩⟩

theorem test_witness_BoundsAndStandingLawsKept :
    (Bounded formed ∧ MaintenanceLaw formed ∧ CommitMarkLaw formed ∧ SupplyLaw formed)
    ∧ (∃ s t : State, step s = .next t ∧ s.store.busy = true ∧ t.store.busy = true)
    ∧ (∃ s t : State, step s = .next t ∧ t.store.state = .committing ∧ s.store.state ≠ .committing)
    ∧ ∃ s t : State, step s = .next t ∧ t.store.state = .committing ∧ t.store.written ≠ s.store.written :=
  ⟨by decide +kernel, ⟨{ stored .committing face with pending := [.recordWriteCompletes true] }, _, rfl, by decide +kernel⟩,
    ⟨{ stored .suspended face with pending := [.halt .station []] }, _, rfl, by decide +kernel⟩,
    ⟨{ stored .committing face with pending := [.recordWriteCompletes true] }, _, rfl, by decide +kernel⟩⟩

theorem test_witness_PhaseAndMapLawsKept :
    PhaseLaw (withTrain .berthed face)
    ∧ FrameLaw faultedFace :=
  ⟨phaseLaw_withTrain_berthed,
    { faulted := by decide +kernel, counted := by decide +kernel, platform := by decide +kernel, starting := by decide +kernel }⟩

theorem test_witness_FireLawKept : ∃ s : State, FireLaw s ∧ s.stalled = false ∧ s.fire = true :=
  ⟨fire face, by decide +kernel⟩

theorem test_witness_HaltedLawKept :
    ∃ s t : State, HaltedLaw s ∧ PinsFollow s ∧ step s = .next t ∧ t.stalled = false ∧ t.mode.mode = .halted :=
  ⟨haltedFace, _, by decide +kernel, by decide +kernel, rfl, by decide +kernel⟩

theorem test_witness_GapLawKept : GapLaw (withTrain .berthed face) :=
  { mapLaw := phaseLaw_withTrain_berthed.mapLaw, early := by decide +kernel, starting := by decide +kernel
    fresh := by decide +kernel }

end Sys2Proof.Tests
end

section
/-! Every step keeps the pins and the proof those of the state (spec/01 R5, spec/04 R86). What they are formed from is named
once for each; a row then either forms them again, restarts the part, or leaves alone all that they are formed from. -/

namespace Sys2Proof.Machine

/-! ### What the proof and the pins are formed from -/

/-- All that an evaluation of the proof reads stands (spec/04 R82 to R84), and so does the proof. -/
structure ProofInputsStand (s t : State) : Prop where
  proof : t.proof = s.proof
  mode : t.mode.mode = s.mode.mode
  fire : t.fire = s.fire
  expired : t.supervision.state = .expired ↔ s.supervision.state = .expired
  gap : t.gap.result = s.gap.result
  kind : ∀ b, t.kind b = s.kind b
  phase : ∀ b, (t.bay b).phase = (s.bay b).phase
  proofs : ∀ b, (t.bay b).bothProofs = (s.bay b).bothProofs

/-- All that the pins are formed from stands (spec/01 R5, spec/03 R66, spec/10 R180), and so do the pins. -/
structure PinInputsStand (s t : State) : Prop where
  pins : t.pins = s.pins
  power : t.power = s.power
  mode : t.mode.mode = s.mode.mode
  proof : t.proof = s.proof
  release : t.release = s.release
  supervision : t.supervision.state = s.supervision.state
  working : t.store.working = s.store.working
  events : t.events = s.events
  phase : ∀ b, (t.bay b).phase = (s.bay b).phase
  pausing : ∀ b, (t.bay b).pausing = (s.bay b).pausing
  closed : ∀ b, (t.bay b).lines.closed.level = (s.bay b).lines.closed.level
  latch : ∀ n, (t.line n).outputLatch = (s.line n).outputLatch

theorem ProofInputsStand.refl (s : State) : ProofInputsStand s s :=
  ⟨rfl, rfl, rfl, Iff.rfl, rfl, fun _ => rfl, fun _ => rfl, fun _ => rfl⟩

theorem ProofInputsStand.trans {s t u : State} (h : ProofInputsStand s t) (k : ProofInputsStand t u) :
    ProofInputsStand s u :=
  ⟨k.proof.trans h.proof, k.mode.trans h.mode, k.fire.trans h.fire, k.expired.trans h.expired, k.gap.trans h.gap,
    fun b => (k.kind b).trans (h.kind b), fun b => (k.phase b).trans (h.phase b),
    fun b => (k.proofs b).trans (h.proofs b)⟩

/-- An evaluation reads nothing else. -/
theorem ProofInputsStand.proofNow {s t : State} (h : ProofInputsStand s t) : t.proofNow = s.proofNow := by
  have hexpired : (t.supervision.state == .expired) = (s.supervision.state == .expired) := by
    rw [Bool.eq_iff_iff, beq_iff_eq, beq_iff_eq]; exact h.expired
  have hholding : t.holdingBay = s.holdingBay := by
    simp only [State.holdingBay, State.meetsBayCondition, h.kind, h.phase, h.proofs]
  have hwithheld : t.withheldNow = s.withheldNow := by
    simp only [State.withheldNow, hexpired, hholding, h.mode, h.fire, h.phase, h.gap]
  simp only [State.proofNow, hwithheld, hholding, h.proof, h.mode]

/-- The outputs of a bay are formed from its phase, its pause and its CLOSED input alone (spec/01 R5). -/
theorem phaseOutputs_congr (f : Bool) {x y : Bay} (hphase : x.phase = y.phase) (hpausing : x.pausing = y.pausing)
    (hclosed : x.lines.closed.level = y.lines.closed.level) : phaseOutputs f x = phaseOutputs f y := by
  unfold phaseOutputs
  rw [hphase, hpausing, hclosed]

/-- The pins are formed from nothing else. -/
theorem PinInputsStand.pinsNow {s t : State} (h : PinInputsStand s t) : t.pinsNow = s.pinsNow := by
  have hbays : t.bayOutputs = s.bayOutputs := by
    funext b
    have hsliding : t.sliding b = s.sliding b := by simp only [State.sliding, State.kind, State.bayRecord, h.working]
    have hopen : t.hasOpenKind b .fireUnlock = s.hasOpenKind b .fireUnlock := by simp only [State.hasOpenKind, h.release]
    rw [State.bayOutputs, State.bayOutputs, hsliding, hopen, phaseOutputs_congr _ (h.phase b) (h.pausing b) (h.closed b)]
  have hlines : t.drivenRaw = s.drivenRaw := by
    funext n
    simp only [State.drivenRaw, State.drivenLevel, State.lineRecord, h.working, h.proof, h.release, h.supervision, h.latch]
  simp only [State.pinsNow, hbays, hlines, h.power, h.mode, h.events]

/-! ### What a step comes to -/

/-- A change of the state after which the pins and the proof follow it, where they did before. -/
structure KeepsFollowing (s t : State) : Prop where
  pins : PinsFollow s → PinsFollow t
  proof : ProofFollows s → ProofFollows t

theorem KeepsFollowing.refl (s : State) : KeepsFollowing s s := ⟨id, id⟩

theorem ProofInputsStand.follows {s t : State} (h : ProofInputsStand s t) (hs : ProofFollows s) : ProofFollows t := by
  intro hm
  rw [h.proofNow, h.proof]
  exact hs (h.mode ▸ hm)

theorem KeepsFollowing.of_stand {s t : State} (hp : PinInputsStand s t) (hq : ProofInputsStand s t) :
    KeepsFollowing s t :=
  ⟨fun h => hp.pins.trans (h.trans hp.pinsNow.symm), hq.follows⟩

/-- An event forms both at its end. -/
theorem State.event_follows (s : State) (f : Ev → Ev × List Task) : KeepsFollowing s (s.event f) :=
  ⟨fun _ => Ev.finish_pins _ _, fun _ _ => State.settle_proof _⟩

/-- While the part does not run nothing is driven, and the proof stands. -/
theorem State.pinsNow_of_stopped (s : State) (h : s.power.supplyInRange = false ∨ s.power.resetAsserted = true) :
    s.pinsNow = Pins.off := by
  rcases h with h | h <;> simp [State.pinsNow, h]

theorem State.pinsNow_of_starting (s : State) (h : s.mode.mode = .starting) : s.pinsNow = Pins.off := by
  simp [State.pinsNow, h]

/-- A restart begins in STARTING, where nothing is driven and the proof has no evaluation to follow. -/
theorem State.restart_follows (s t : State) (c : RestartCause) : KeepsFollowing s (t.restart c) :=
  ⟨fun _ => (State.pinsNow_of_starting _ rfl).symm, fun _ h => absurd rfl h⟩

/-! ### The commands of the supply and of the lines -/

theorem ProofInputsStand.of_power (s : State) (p : Power) : ProofInputsStand s { s with power := p } :=
  ⟨rfl, rfl, rfl, Iff.rfl, rfl, fun _ => rfl, fun _ => rfl, fun _ => rfl⟩

/-- A condition that held the part back goes: the restart begins, or the other condition still holds the part back. -/
theorem State.beginRestart_follows (s : State) (p : Power) (h : s.power.supplyInRange = false ∨ s.power.resetAsserted = true) :
    KeepsFollowing s ({ s with power := p }).beginRestart := by
  unfold State.beginRestart
  split
  · exact State.restart_follows _ _ _
  · next hoff =>
    have hstopped : p.supplyInRange = false ∨ p.resetAsserted = true := by
      cases hsupply : p.supplyInRange <;> cases hreset : p.resetAsserted <;> simp_all
    exact ⟨fun hs => hs.trans ((s.pinsNow_of_stopped h).trans (State.pinsNow_of_stopped { s with power := p } hstopped).symm),
      (ProofInputsStand.of_power s p).follows⟩

theorem State.powerDown_follows (s : State) (p : Power) (h : p.supplyInRange = false ∨ p.resetAsserted = true) :
    KeepsFollowing s ({ s with power := p }).powerDown :=
  ⟨fun _ => (State.pinsNow_of_stopped (State.powerDown { s with power := p }) h).symm, (ProofInputsStand.of_power s p).follows⟩

/-- A change of an input line that is not one of its filtered level. -/
theorem State.setInputLine_follows (s : State) (l : InputLine) (x : Line) (h : x.level = (s.inputLine l).level) :
    KeepsFollowing s (s.setInputLine l x) := by
  have hlevel (b : BayIx) (i : BayInput) :
      (((s.setInputLine l x).bay b).lines.get i).level = ((s.bay b).lines.get i).level := by
    by_cases hl : (.bay b i : InputLine) = l
    · subst hl
      exact (congrArg Line.level (State.inputLine_setInputLine_self s (.bay b i) x)).trans h
    · exact congrArg Line.level (State.inputLine_setInputLine_ne s l (.bay b i) x hl)
  have hrest (b : BayIx) : ((s.setInputLine l x).bay b).phase = (s.bay b).phase
      ∧ ((s.setInputLine l x).bay b).pausing = (s.bay b).pausing := by
    cases l with
    | bay c i => rw [State.setInputLine, State.bay_setBay]; split <;> simp_all
    | general n => exact ⟨rfl, rfl⟩
  have hlatch (n : LineIx) : ((s.setInputLine l x).line n).outputLatch = (s.line n).outputLatch := by
    cases l with
    | bay c i => rfl
    | general m => rw [State.setInputLine, State.line_setLine]; split <;> simp_all
  refine .of_stand ⟨?_, ?_, ?_, ?_, ?_, ?_, ?_, ?_, fun b => (hrest b).1, fun b => (hrest b).2, fun b => hlevel b .closed,
    hlatch⟩ ⟨?_, ?_, ?_, ?_, ?_, ?_, fun b => (hrest b).1, fun b => ?proofs⟩
  case proofs =>
    exact congrArg₂ (· && ·) (hlevel b .closed) (hlevel b .locked)
  all_goals simp

/-! ### Requests -/

theorem State.setPort_follows (s : State) (l : Link) (p : Port) : KeepsFollowing s (s.setPort l p) := by
  cases l <;> exact .of_stand
    ⟨rfl, rfl, rfl, rfl, rfl, rfl, rfl, rfl, fun _ => rfl, fun _ => rfl, fun _ => rfl, fun _ => rfl⟩
    ⟨rfl, rfl, rfl, Iff.rfl, rfl, fun _ => rfl, fun _ => rfl, fun _ => rfl⟩

/-- An answer that is no event, or whose state has all that the proof is formed from as s has it. -/
def Answer.Quiet (s : State) (a : Answer) : Prop := a.moves = true ∨ a.tasks = [] ∧ ProofInputsStand s a.ev.s

@[simp] theorem Answer.quiet_refuse (s : State) (r : Result) : (Answer.refuse s r).Quiet s :=
  .inr ⟨rfl, .refl s⟩

@[simp] theorem Answer.quiet_emptyMap (s : State) (x : List (BayIx × Reason)) : (Answer.emptyMap s x).Quiet s :=
  .inr ⟨rfl, .refl s⟩

@[simp] theorem Answer.quiet_event (s : State) (f : Ev → Ev × List Task) (reply : Ev → Result × List Byte) :
    (Answer.event s f reply).Quiet s := .inl rfl

theorem Answer.quiet_settled {s t : State} (content : List Byte) (h : ProofInputsStand s t) :
    (Answer.settled t content).Quiet s := .inr ⟨rfl, h⟩

theorem ProofInputsStand.of_clearFrame (s : State) (c : ClearCause) (b : BayIx) :
    ProofInputsStand s (s.clearFrame c b) := by
  have hbay (d : BayIx) : ((s.clearFrame c b).bay d).phase = (s.bay d).phase
      ∧ ((s.clearFrame c b).bay d).bothProofs = (s.bay d).bothProofs := by
    by_cases hd : d = b
    · subst hd; rw [State.clearFrame_bay_self]; exact ⟨rfl, rfl⟩
    · rw [State.clearFrame_bay_ne _ _ _ _ hd]; exact ⟨rfl, rfl⟩
  exact ⟨rfl, rfl, rfl, Iff.rfl, rfl, fun _ => rfl, fun d => (hbay d).1, fun d => (hbay d).2⟩

theorem ProofInputsStand.of_clearTarget (s : State) (target : Option BayIx) :
    ProofInputsStand s (s.clearTarget target) := by
  cases target with
  | none => exact ⟨rfl, rfl, rfl, Iff.rfl, rfl, fun _ => rfl, fun _ => rfl, fun _ => rfl⟩
  | some b => exact .of_clearFrame s _ b

theorem ProofInputsStand.of_setTrace (s : State) (bays : Nat) (on : Bool) : ProofInputsStand s (s.setTrace bays on) := by
  have hbay (b : BayIx) : (s.setTrace bays on).bay b = if inSet bays b then { s.bay b with trace := on } else s.bay b := by
    simp [State.bay, State.setTrace]
  have hphase (b : BayIx) : ((s.setTrace bays on).bay b).phase = (s.bay b).phase := by rw [hbay]; split <;> rfl
  have hproofs (b : BayIx) : ((s.setTrace bays on).bay b).bothProofs = (s.bay b).bothProofs := by
    rw [hbay]; split <;> rfl
  exact ⟨rfl, rfl, rfl, Iff.rfl, rfl, fun _ => rfl, hphase, hproofs⟩

/-- What a request changes outside an event is read by no evaluation of the proof. -/
theorem ownerOf_quiet (k : RequestKind) (body : List Byte) (s : State) : (ownerOf k body s).Quiet s := by
  have still {t : State} (content : List Byte) (h : ProofInputsStand s t) : (Answer.settled t content).Quiet s :=
    Answer.quiet_settled content h
  cases k with
  | poll | readTrain | readMap => exact still _ (.refl s)
  | readBays =>
    simp only [ownerOf, ownerReadBays]
    split
    · simp
    · exact still _ (.refl s)
  | readReleases =>
    simp only [ownerOf, ownerReadReleases]
    split
    · simp
    · exact still _ (.refl s)
  | readConfig =>
    simp only [ownerOf, ownerReadConfig]
    split
    · simp
    · exact still _ (.refl s)
  | readStatus | prepareRestart | freezeConfig =>
    exact .inr ⟨rfl, rfl, rfl, rfl, Iff.rfl, rfl, fun _ => rfl, fun _ => rfl, fun _ => rfl⟩
  | readFault =>
    simp only [ownerOf, ownerReadFault]
    split
    · simp
    · refine still _ ?_
      split
      · exact .of_clearTarget s _
      · exact .refl s
  | readLines =>
    simp only [ownerOf, ownerReadLines]
    split
    · simp
    · exact still _ ⟨rfl, rfl, rfl, Iff.rfl, rfl, fun _ => rfl, fun _ => rfl, fun _ => rfl⟩
  | takeEvents =>
    simp only [ownerOf, ownerTakeEvents]
    split
    · simp
    · exact still _ ⟨rfl, rfl, rfl, Iff.rfl, rfl, fun _ => rfl, fun _ => rfl, fun _ => rfl⟩
  | setAttention =>
    simp only [ownerOf, ownerSetAttention]
    split
    · exact still _ ⟨rfl, rfl, rfl, Iff.rfl, rfl, fun _ => rfl, fun _ => rfl, fun _ => rfl⟩
    · simp
  | setTrace =>
    simp only [ownerOf, ownerSetTrace]
    split
    · simp
    · exact still _ (.of_setTrace s _ _)
  | ackRelease =>
    simp only [ownerOf, ownerAckRelease]
    split
    · simp
    · split
      · simp
      · exact still _ ⟨rfl, rfl, rfl, Iff.rfl, rfl, fun _ => rfl, fun _ => rfl, fun _ => rfl⟩
  | setOutput =>
    simp only [ownerOf, ownerSetOutput]
    split
    · simp
    · split
      · simp
      · exact still _ ⟨rfl, rfl, rfl, Iff.rfl, rfl, fun _ => rfl, fun _ => rfl, fun _ => rfl⟩
  | restart =>
    simp only [ownerOf, ownerRestart]
    split
    · exact still _ ⟨rfl, rfl, rfl, Iff.rfl, rfl, fun _ => rfl, fun _ => rfl, fun _ => rfl⟩
    · simp
  | fixGeometry =>
    simp only [ownerOf, ownerFixGeometry]
    split
    · simp
    · split
      · simp
      · split
        · exact still _ ⟨rfl, rfl, rfl, Iff.rfl, rfl, fun _ => rfl, fun _ => rfl, fun _ => rfl⟩
        · exact .inr ⟨rfl, rfl, rfl, rfl, Iff.rfl, rfl, fun _ => rfl, fun _ => rfl, fun _ => rfl⟩
  | announce =>
    simp only [ownerOf, ownerAnnounce]
    repeat' split
    all_goals simp
  | cancel => simp only [ownerOf, ownerCancel]; split <;> simp
  | berth =>
    simp only [ownerOf, ownerBerth]
    repeat' split
    all_goals simp
  | openMap =>
    simp only [ownerOf, ownerOpenMap]
    repeat' split
    all_goals simp
  | closeMap =>
    simp only [ownerOf, ownerCloseMap]
    repeat' split
    all_goals simp
  | depart =>
    simp only [ownerOf, ownerDepart]
    repeat' split
    all_goals simp
  | resume => simp only [ownerOf, ownerResume]; split <;> simp
  | bayCommand =>
    simp only [ownerOf, ownerBayCommand]
    repeat' split
    all_goals simp
  | emergencyOpen | halt => simp [ownerOf, ownerEmergencyOpen, ownerHalt]
  | extendDwell =>
    simp only [ownerOf, ownerExtendDwell]
    repeat' split
    all_goals simp
  | enterMaintenance =>
    simp only [ownerOf, ownerEnterMaintenance]
    repeat' split
    all_goals simp
  | leaveMaintenance => simp only [ownerOf, ownerLeaveMaintenance]; split <;> simp
  | writeBay =>
    simp only [ownerOf, ownerWriteBay]
    repeat' split
    all_goals simp
  | writeProfile =>
    simp only [ownerOf, ownerWriteProfile]
    repeat' split
    all_goals simp
  | eraseProfile => simp only [ownerOf, ownerEraseProfile]; split <;> simp
  | writeResponse =>
    simp only [ownerOf, ownerWriteResponse]
    repeat' split
    all_goals simp
  | writeLine =>
    simp only [ownerOf, ownerWriteLine]
    repeat' split
    all_goals simp
  | writePlatform => simp only [ownerOf, ownerWritePlatform]; split <;> simp
  | commit => simp only [ownerOf, ownerCommit]; split <;> simp

theorem ProofInputsStand.of_countFrame (s : State) : ProofInputsStand s s.countFrame := by
  have same {α : Type} (f : State → α) := congrArg f s.countFrame_same
  have hbays : s.countFrame.bays = s.bays := same State.bays
  have hworking : s.countFrame.store = s.store := same State.store
  have hbay (b : BayIx) : s.countFrame.bay b = s.bay b := by simp only [State.bay, hbays]
  exact ⟨same State.proof, same (fun t => t.mode.mode), same State.fire, s.countFrame_expired,
    same (fun t => t.gap.result), fun b => by simp only [State.kind, State.bayRecord, hworking],
    fun b => by rw [hbay], fun b => by rw [hbay]⟩

theorem ProofInputsStand.of_setBuffer (s : State) (l : Link) (b : Buffer) : ProofInputsStand s (s.setBuffer l b) := by
  cases l <;> exact ⟨rfl, rfl, rfl, Iff.rfl, rfl, fun _ => rfl, fun _ => rfl, fun _ => rfl⟩

/-- Taking a frame changes nothing that an evaluation of the proof reads. -/
theorem ProofInputsStand.of_takeFrame (s : State) (l : Link) : ProofInputsStand s (s.takeFrame l) := by
  cases l with
  | station => exact .of_setBuffer s _ _
  | signalling => exact (ProofInputsStand.of_setBuffer s _ _).trans (.of_countFrame _)

theorem ProofInputsStand.of_recordAuthority (s : State) (l : Link) (k : Byte) (r : Result) :
    ProofInputsStand s (s.recordAuthority l k r) := by
  unfold State.recordAuthority
  split
  · exact ⟨rfl, rfl, rfl, Iff.rfl, rfl, fun _ => rfl, fun _ => rfl, fun _ => rfl⟩
  · exact .refl s

theorem State.prepare_owe_pins (s : State) (l : Link) (p : Bool) (k : Byte) (r : Result) (c : List Byte) :
    ((s.formPins.prepare l p).owe l k r c).pins = ((s.formPins.prepare l p).owe l k r c).pinsNow := by
  cases l <;> rfl

theorem ProofInputsStand.of_prepare_owe (s : State) (l : Link) (p : Bool) (k : Byte) (r : Result) (c : List Byte) :
    ProofInputsStand s ((s.formPins.prepare l p).owe l k r c) := by
  cases l <;> exact ⟨rfl, rfl, rfl, Iff.rfl, rfl, fun _ => rfl, fun _ => rfl, fun _ => rfl⟩

/-- What is done after the answer's event changes nothing that an evaluation of the proof reads. -/
theorem ProofInputsStand.of_carryOut (a : Answer) (l : Link) (k : Byte) :
    ProofInputsStand a.outcome.s (a.carryOut l k) :=
  (ProofInputsStand.of_recordAuthority _ l k _).trans (.of_prepare_owe _ l _ k _ _)

/-- A request carried out: its pins are formed before its reply is owed, and the proof is formed by its event or stands. -/
theorem Answer.carryOut_follows {s : State} {a : Answer} (h : a.Quiet s) (l : Link) (k : Byte) :
    KeepsFollowing s (a.carryOut l k) := by
  have hcarried := ProofInputsStand.of_carryOut a l k
  refine ⟨fun _ => State.prepare_owe_pins _ l _ k _ _, fun hs => ?_⟩
  rcases h with hmoves | ⟨htasks, hstand⟩
  · refine hcarried.follows (fun _ => ?_)
    rw [Answer.outcome_moves a hmoves]
    exact State.settle_proof _
  · by_cases hmoves : a.moves = true
    · refine hcarried.follows (fun _ => ?_)
      rw [Answer.outcome_moves a hmoves]
      exact State.settle_proof _
    · rw [Answer.outcome_still a htasks (by simpa using hmoves)] at hcarried
      exact hcarried.follows (hstand.follows hs)

theorem Answer.Quiet.trans {s t : State} {a : Answer} (h : ProofInputsStand s t) (ha : a.Quiet t) : a.Quiet s :=
  ha.imp_right (fun ⟨htasks, hstand⟩ => ⟨htasks, h.trans hstand⟩)

theorem State.receive_follows (s : State) (l : Link) (k : Byte) (answer : State → Answer)
    (h : ∀ t, (answer t).Quiet t) : KeepsFollowing s (s.receive l k answer) := by
  unfold State.receive
  split
  · exact .refl s
  · split
    · exact s.setPort_follows l _
    · split
      · exact s.setPort_follows .signalling _
      · exact Answer.carryOut_follows ((h _).trans (.of_takeFrame s l)) l k

theorem judge_quiet (l : Link) (k : RequestKind) (body : List Byte) (s : State) :
    (judge l k body (ownerOf k) s).Quiet s := by
  unfold judge
  split
  · exact Answer.quiet_refuse s _
  · exact ownerOf_quiet k body s

theorem State.request_follows (s : State) (l : Link) (k : RequestKind) (body : List Byte) :
    KeepsFollowing s (s.request l k body (ownerOf k)) :=
  s.receive_follows l _ _ (judge_quiet l k body)

theorem State.receiveFrame_follows (s : State) (l : Link) (k : Byte) (body : List Byte) :
    KeepsFollowing s (s.receiveFrame l k body) := by
  unfold State.receiveFrame
  split
  · exact s.request_follows l _ body
  · exact s.receive_follows l k _ (fun t => Answer.quiet_refuse t _)

theorem State.completeFrame_follows (s : State) (l : Link) (n : Byte) (bytes : List Byte) :
    KeepsFollowing s (s.completeFrame l n bytes) := by
  unfold State.completeFrame
  split
  · split
    · exact s.receiveFrame_follows l _ _
    · exact s.setPort_follows l _
  · exact s.setPort_follows l _

/-- A request row is the request of its kind, link and body. -/
theorem exec_request {i : Instr} {l : Link} {k : RequestKind} {body : List Byte} (h : requestOf i = some (l, k, body))
    (s : State) : exec i s = .next (s.request l k body (ownerOf k)) := by
  cases i <;> simp only [requestOf, reduceCtorEq, Option.some.injEq, Prod.mk.injEq] at h
  all_goals
    obtain ⟨rfl, rfl, rfl⟩ := h
    rfl

/-! ### Every command, and the passing of time -/

theorem execRawLevelChange_follows (s : State) (l : InputLine) (high : Bool) :
    ∃ t, execRawLevelChange l high s = .next t ∧ KeepsFollowing s t := by
  refine ⟨_, rfl, ?_⟩
  have hraw : KeepsFollowing s (s.setRaw l high) := s.setInputLine_follows l _ rfl
  split
  · exact .refl s
  · split
    · unfold State.filterTakes
      have htrans {t : State} (h : KeepsFollowing (s.setRaw l high) t) : KeepsFollowing s t :=
        ⟨h.pins ∘ hraw.pins, h.proof ∘ hraw.proof⟩
      split
      · exact htrans (State.setInputLine_follows _ l _ rfl)
      · split
        · exact htrans (State.event_follows _ _)
        · exact htrans (State.setInputLine_follows _ l _ rfl)
    · exact hraw

theorem State.limitRow_follows (s : State) (b : BayIx) (p : Bay → Bool) (c : FaultCode) :
    KeepsFollowing s (s.limitRow b p c) := by
  unfold State.limitRow
  split
  · exact s.event_follows _
  · exact .refl s

/-- An event on a condition, or nothing. -/
theorem State.event_if_follows (s : State) (p : Bool) (f : Ev → Ev × List Task) :
    KeepsFollowing s (if p then s.event f else s) := by
  split
  · exact s.event_follows f
  · exact .refl s

/-- The commands that are no requests, one by one. -/
theorem exec_other_follows {i : Instr} (h : requestOf i = none) (s : State) :
    ∃ t, exec i s = .next t ∧ KeepsFollowing s t := by
  cases i with
  | powerOn =>
    refine ⟨_, rfl, ?_⟩
    split
    · exact .refl s
    · next hoff => exact s.beginRestart_follows _ (.inl (by simpa using hoff))
  | supplyOutOfRange =>
    refine ⟨_, rfl, ?_⟩
    split
    · exact s.powerDown_follows _ (.inl rfl)
    · exact .refl s
  | resetNAsserted =>
    refine ⟨_, rfl, ?_⟩
    split
    · exact .refl s
    · exact s.powerDown_follows _ (.inr rfl)
  | resetNReleased =>
    refine ⟨_, rfl, ?_⟩
    split
    · next hon => exact s.beginRestart_follows _ (.inr hon)
    · exact .refl s
  | loadingEnds => exact ⟨_, rfl, s.event_if_follows _ _⟩
  | rawLevelChange l high => exact execRawLevelChange_follows s l high
  | filterHoldExpires l => exact ⟨_, rfl, s.event_if_follows _ _⟩
  | unlockLimitExpires b | openLimitExpires b | closeLimitExpires b | lockLimitExpires b =>
    exact ⟨_, rfl, s.limitRow_follows b _ _⟩
  | warningPeriodExpires b | curtainHoldLimitExpires b | reopenPauseExpires b | supervisionTimerExpires =>
    refine ⟨_, rfl, ?_⟩
    split
    · exact s.event_follows _
    · exact .refl s
  | stuckTimerExpires b k => exact ⟨_, rfl, s.event_if_follows _ _⟩
  | gapScanTimerExpires | dwellDue | dwellOverstay => exact ⟨_, rfl, s.event_if_follows _ _⟩
  | recordWriteCompletes verified => exact ⟨_, rfl, s.event_if_follows _ _⟩
  | interByteGap l =>
    refine ⟨_, rfl, ?_⟩
    split
    · exact s.setPort_follows l _
    · exact .refl s
  | frameCrcMismatch l =>
    refine ⟨_, rfl, ?_⟩
    split
    · exact .refl s
    · split
      · exact s.setPort_follows l _
      · exact s.setPort_follows l _
  | byteWhileReplyOwed l =>
    refine ⟨_, rfl, ?_⟩
    split
    · exact s.setPort_follows l _
    · exact .refl s
  | replySent l =>
    refine ⟨_, rfl, ?_⟩
    split
    · dsimp only
      split
      · exact State.restart_follows s _ _
      · exact s.setPort_follows l _
    · exact .refl s
  | unknownKind l k body => exact ⟨_, rfl, s.receiveFrame_follows l k body⟩
  | byteReceived l x =>
    refine ⟨_, rfl, ?_⟩
    split
    · exact .refl s
    · split
      · exact s.setPort_follows l _
      · split
        · exact s.setPort_follows l _
        · exact s.completeFrame_follows l _ _
  | _ => exact absurd h (by simp [requestOf])

theorem exec_follows (i : Instr) (s : State) : ∃ t, exec i s = .next t ∧ KeepsFollowing s t := by
  rcases h : requestOf i with _ | ⟨l, k, body⟩
  · exact exec_other_follows h s
  · exact ⟨_, exec_request h s, s.request_follows l k body⟩

theorem State.count_bay (s : State) (b : BayIx) : s.count.bay b = (s.bay b).tick := by
  simp [State.bay, State.count]

theorem State.count_line (s : State) (n : LineIx) :
    s.count.line n = { s.line n with line := (s.line n).line.tick } := by
  simp [State.line, State.count]

/-- The passing of time moves timers alone. -/
theorem State.tick_follows (s : State) : KeepsFollowing s s.tick := by
  unfold State.tick
  split
  · have hphase (b : BayIx) : (s.count.bay b).phase = (s.bay b).phase := by rw [State.count_bay]; rfl
    refine .of_stand ⟨rfl, rfl, rfl, rfl, rfl, rfl, rfl, rfl, hphase, fun b => ?_, fun b => ?_, fun n => ?_⟩
      ⟨rfl, rfl, rfl, Iff.rfl, rfl, fun _ => rfl, hphase, fun b => ?_⟩
    · rw [State.count_bay]; rfl
    · rw [State.count_bay]; rfl
    · rw [State.count_line]
    · rw [State.count_bay]; rfl
  · exact .refl s

theorem step_follows {s t : State} (h : step s = .next t) : KeepsFollowing s t := by
  have hexec (i : Instr) (u : State) (h : exec i u = .next t) : KeepsFollowing u t := by
    obtain ⟨t', ht, hk⟩ := exec_follows i u
    cases h.symm.trans ht
    exact hk
  rcases hp : s.pending with _ | ⟨c, rest⟩
  · rcases hd : s.dueCommand with _ | c
    · cases h.symm.trans (step_of_none_due hp hd)
      exact s.tick_follows
    · exact hexec c s (step_of_due hp hd ▸ h)
  · have hk := hexec c _ (step_of_pending hp ▸ h)
    exact ⟨hk.pins, hk.proof⟩

/-! ### The drives -/

theorem State.pinsNow_bay (s : State) (b : BayIx) :
    s.pinsNow.bays[b.val] = s.bayOutputs b ∨ s.pinsNow.bays[b.val] = BayOutputs.off := by
  unfold State.pinsNow
  split
  · left; simp [allBays]
  · right; simp [Pins.off]

/-- No drive without UNLOCK, and never both (spec/01 R5). -/
theorem phaseOutputs_drives (f : Bool) (x : Bay) :
    ¬((phaseOutputs f x).driveOpen = true ∧ (phaseOutputs f x).driveClose = true)
      ∧ ((phaseOutputs f x).driveOpen = true ∨ (phaseOutputs f x).driveClose = true → (phaseOutputs f x).unlock = true) := by
  cases hphase : x.phase <;> simp [phaseOutputs, hphase, BayOutputs.off]

/-- Only a moving phase energises a drive (spec/01 R5). -/
theorem phaseOutputs_rest (f : Bool) (x : Bay) (h : x.phase.isMoving = false) :
    (phaseOutputs f x).driveOpen = false ∧ (phaseOutputs f x).driveClose = false := by
  cases hphase : x.phase <;> simp_all [phaseOutputs, BayOutputs.off, Phase.isMoving]

theorem PinsFollow.drivesApart {s : State} (h : PinsFollow s) : DrivesApart s := by
  intro b
  rw [h]
  rcases s.pinsNow_bay b with hb | hb <;> rw [hb]
  · unfold State.bayOutputs
    split
    · exact phaseOutputs_drives _ _
    · simp [BayOutputs.off]
  · simp [BayOutputs.off]

/-- A SLIDING bay in a phase that does not move, or a bay of another kind, has its drives at rest. -/
theorem PinsFollow.rest {s : State} (h : PinsFollow s) (b : BayIx)
    (hb : s.sliding b = true → (s.bay b).phase.isMoving = false) :
    (s.pins.bays[b.val]).driveOpen = false ∧ (s.pins.bays[b.val]).driveClose = false := by
  rw [h]
  rcases s.pinsNow_bay b with hout | hout <;> rw [hout]
  · unfold State.bayOutputs
    split
    · next hsliding => exact phaseOutputs_rest _ _ (hb hsliding)
    · exact ⟨rfl, rfl⟩
  · exact ⟨rfl, rfl⟩

theorem PinsFollow.drivesRest {s : State} (h : PinsFollow s) : DrivesRest s := by
  intro b hphase
  refine h.rest b (fun _ => ?_)
  rcases hphase with hp | hp | hp <;> rw [hp] <;> rfl

theorem PinsFollow.drivesHalted {s : State} (h : PinsFollow s) (hlaw : HaltedLaw s) : DrivesHalted s :=
  fun hstalled hmode b => h.rest b (hlaw hstalled hmode b)

/-- Settles O54: each command forms the pins and the proof again, restarts the part, or leaves alone what they are formed
from; the law of the drives is then read off the outputs of the phases. -/
theorem pinsAndProofFollowEveryStep : Obligations.PinsAndProofFollowEveryStep := by
  refine ⟨fun s t hs hstep => ?_, fun s t hs hstep => (step_follows hstep).proof hs⟩
  have hpins : PinsFollow t := (step_follows hstep).pins hs
  exact ⟨hpins, hpins.drivesApart, hpins.drivesRest, hpins.drivesHalted⟩

end Sys2Proof.Machine
end

section
/-! The state right after reset (spec/08 R146), and the timers that do not run (spec/01 R6). -/

namespace Sys2Proof.Machine

/-! ### The state after reset -/

@[simp] theorem State.reset_bay (b : BayIx) : State.reset.bay b = Bay.reset := by
  simp [State.bay, State.reset]

@[simp] theorem State.reset_kind (b : BayIx) : State.reset.kind b = .absent := by
  simp [State.kind, State.bayRecord, State.reset, Store.reset, Records.defaults, BayRecord.defaults]

@[simp] theorem State.reset_sliding (b : BayIx) : State.reset.sliding b = false := by simp [State.sliding]

theorem Pins.off_bay (b : BayIx) : Pins.off.bays[b.val] = BayOutputs.off := by simp [Pins.off]

theorem Pins.off_line (n : LineIx) : Pins.off.lines[n.val] = none := by simp [Pins.off]

/-- Settles O3: every field holds its restart value by definition; the tables hold theirs at every position. -/
theorem resetValues : Obligations.ResetValues := by
  refine ⟨rfl, rfl, rfl, rfl, rfl, rfl, rfl, rfl, rfl, rfl, rfl, rfl, rfl, rfl, rfl, rfl, rfl, rfl, rfl, rfl, rfl, rfl, rfl,
    rfl, rfl, rfl, rfl, rfl, rfl, Pins.off_line, fun b => ⟨Pins.off_bay b, ?_⟩⟩
  rw [State.reset_bay]
  exact ⟨rfl, rfl, rfl, rfl, rfl, rfl, rfl⟩

theorem State.reset_pinsFollow : PinsFollow State.reset := (State.pinsNow_of_starting _ rfl).symm

theorem State.reset_mapLaw : MapLaw State.reset :=
  { early := fun _ => rfl
    aligned := fun _ => nofun
    members := fun _ => nofun
    distinct := ⟨.nil, .nil⟩ }

theorem State.reset_phaseLaw : PhaseLaw State.reset :=
  { mapLaw := State.reset_mapLaw
    absent := fun h => absurd rfl h
    sliding := fun h => absurd rfl h
    door := fun h => absurd rfl h
    stuck := fun h => absurd rfl h }

theorem State.reset_gapLaw : GapLaw State.reset :=
  { mapLaw := State.reset_mapLaw
    early := fun _ => rfl
    starting := fun _ => rfl
    fresh := fun _ => rfl }

theorem State.reset_frameLaw : FrameLaw State.reset :=
  { faulted := fun b => by simp [Bay.reset, Frame.reset]
    counted := fun b h => absurd (by simp [Bay.reset, Frame.reset]) h
    platform := fun h => absurd rfl h
    starting := fun _ b => by simp [Bay.reset, Frame.reset] }

/-- Settles O60: during STARTING most laws ask for nothing, and no position is fitted yet; the pins are off, so the laws of
the drives follow from theirs. -/
theorem resetMeetsTheLaws : Obligations.ResetMeetsTheLaws := by
  have hpins := State.reset_pinsFollow
  have hhalted : HaltedLaw State.reset := fun _ => nofun
  exact ⟨hpins, hpins.drivesApart, fun h => absurd rfl h, ⟨Nat.zero_le _, Nat.zero_le _⟩, hpins.drivesRest,
    hpins.drivesHalted hhalted, nofun, nofun, nofun, State.reset_phaseLaw,
    fun _ => nofun, hhalted, State.reset_gapLaw, State.reset_frameLaw⟩

/-! ### Timers that do not run -/

/-- The phase timer of a bay that is in no phase of the row, or that has no timer. -/
theorem State.phaseTimerIn_none (s : State) (b : BayIx) (p : Bay → Bool)
    (h : p (s.bay b) = false ∨ (s.bay b).timer = none) : s.phaseTimerIn b p = none := by
  unfold State.phaseTimerIn
  rcases h with h | h
  · simp [h]
  · simp [h]

theorem State.limitRow_none (s : State) (b : BayIx) (p : Bay → Bool) (c : FaultCode)
    (h : p (s.bay b) = false ∨ (s.bay b).timer = none) : s.limitRow b p c = s := by
  rw [State.limitRow, s.phaseTimerIn_none b p h]

/-- Settles O17: each row looks for its timer in its own phase first, and without one it gives the state back. -/
theorem droppedTimersHaveNoEffect : Obligations.DroppedTimersHaveNoEffect := by
  intro s b k
  have limit (p : Bay → Bool) (c : FaultCode) (h : p (s.bay b) = false ∨ (s.bay b).timer = none) :
      (.next (s.limitRow b p c) : Host.Outcome State Fault Refusal) = .next s := by rw [s.limitRow_none b p c h]
  refine ⟨fun h => limit _ _ (h.imp_left ?_), fun h => limit _ _ (h.imp_left ?_), fun h => limit _ _ (h.imp_left ?_),
    fun h => limit _ _ (h.imp_left ?_), fun h => ?warning, fun h => ?cap, fun h => ?pause, fun h => ?stuck, fun h => ?scan,
    fun h => ?supervision⟩
  case warning =>
    have hnone := s.phaseTimerIn_none b (fun x => x.phase == .warning && !x.warningHeld) (h.imp_left (by simp +contextual))
    simp only [exec, execWarningPeriodExpires, hnone]
  case pause =>
    have hnone := s.phaseTimerIn_none b (fun x => x.phase == .reopening && x.pausing) (h.imp_left (by simp +contextual))
    simp only [exec, execReopenPauseExpires, hnone]
  case cap =>
    have hnone : s.capRunning b = none := by
      unfold State.capRunning
      rcases h with h | h <;> simp [h]
    simp only [exec, execCurtainHoldLimitExpires, hnone]
  case stuck => simp [exec, execStuckTimerExpires, h]
  case scan => rcases h with h | h <;> simp [exec, execGapScanTimerExpires, h]
  case supervision =>
    have hnone : s.supervisionRunning = none := by
      unfold State.supervisionRunning
      rcases h with h | h <;> simp [h]
    simp only [exec, execSupervisionTimerExpires, hnone]
  all_goals simp +contextual [Bay.openLimitRuns]

end Sys2Proof.Machine
end

section
/-! Events of one bay. While the gap result stands, the tasks of such an event touch that bay and the event queue alone; one
rule for each operation says what the bay becomes, and the end of the event is read off once. -/

namespace Sys2Proof.Machine

/-! ### The end of an event -/

/-- A field of a bay that is none of its stuck timers is as the event's tasks left it. -/
theorem State.settle_field {α : Type} (f : Bay → α) (hf : ∀ x, f x.core = f x) (s : State) (b : BayIx) :
    f (s.settle.bay b) = f (s.bay b) := by rw [← hf, State.settle_core, hf]

theorem State.settle_body (s : State) (b : BayIx) : (s.settle.bay b).body = (s.bay b).body := by
  rw [Bay.body, Bay.body, State.settle_core]

/-- The proof's key level is no evaluation's to change (spec/04 R86). -/
theorem State.settle_keyLevel (s : State) : s.settle.proof.keyLevel = s.proof.keyLevel := by
  have hwatch := congrArg State.proof s.resumeStore.watchStuck_same
  have hresume := congrArg State.proof s.resumeStore_same
  dsimp only at hwatch hresume
  rw [State.settle_eq, State.formPins_proof, State.formProof_proof, State.proofNow, State.formAlarm_proof, hwatch, hresume]

/-- The release unit stands but for the alarm. -/
theorem State.settle_release (s : State) (a : Bool) :
    { s.settle.release with alarm := a } = { s.release with alarm := a } := by
  have hproof := congrArg State.release s.resumeStore.watchStuck.formAlarm.formProof_same
  have hwatch := congrArg State.release s.resumeStore.watchStuck_same
  have hresume := congrArg State.release s.resumeStore_same
  dsimp only at hproof hwatch hresume
  rw [State.settle_eq, State.formPins_release, hproof, State.formAlarm, hwatch, hresume]

section

variable {s t : State}

theorem Stands.settle (h : Stands s t) : Stands s t.settle := by
  have harea := congrArg Store.area t.settle_store
  have hfrozen := congrArg Store.frozen t.settle_store
  dsimp only at harea hfrozen
  exact
  { power := t.settle_power.trans h.power
    uptime := t.settle_uptime.trans h.uptime
    area := harea.trans h.area
    frozen := hfrozen.trans h.frozen
    pending := t.settle_pending.trans h.pending
    restartCause := by rw [State.settle_mode]; exact h.restartCause
    restartAccepted := by rw [State.settle_mode]; exact h.restartAccepted
    mask := t.settle_mask.trans h.mask
    authority := t.settle_authority.trans h.authority
    trace := fun b => (t.settle_trace b).trans (h.trace b)
    freeCount := t.settle_freeCount.trans h.freeCount }

theorem StoreStands.settle (h : StoreStands s t) : StoreStands s t.settle := by
  have hstore := congrArg (fun u : Store => { u with state := s.store.state }) t.settle_store
  dsimp only at hstore
  exact hstore.trans h

theorem LinksStand.settle (h : LinksStand s t) : LinksStand s t.settle := by
  obtain ⟨hstation, hsignalling, hpreparation⟩ := h
  exact ⟨t.settle_station.trans hstation, t.settle_signalling.trans hsignalling, by rw [State.settle_mode]; exact hpreparation⟩

theorem LinesStand.settle (h : LinesStand s t) : LinesStand s t.settle :=
  ⟨t.settle_lines.trans h.1, fun b => (t.settle_bayLines b).trans (h.2 b)⟩

theorem ReleaseStands.settle (h : ReleaseStands s t) : ReleaseStands s t.settle := (t.settle_release _).trans h

theorem FaceStands.settle (h : FaceStands s t) : FaceStands s t.settle := by
  obtain ⟨hmode, hframe, hkey, hstalled⟩ := h
  exact ⟨by rw [State.settle_mode]; exact hmode, t.settle_platformFrame.trans hframe, t.settle_keyLevel.trans hkey,
    t.settle_stalled.trans hstalled⟩

end

/-! ### What an event of one bay has changed so far -/

/-- Of the state s only the event queue and bay b have changed, and the bay has become x. -/
structure BayBecomes (b : BayIx) (s : State) (x : Bay) (t : State) : Prop where
  rest : { t with bays := s.bays, events := s.events } = s
  mask : t.events.mask = s.events.mask
  authority : t.events.authority = s.events.authority
  others : ∀ c, c ≠ b → t.bay c = s.bay c
  bay : t.bay b = x

namespace BayBecomes

variable {b : BayIx} {s t : State} {x : Bay}

theorem refl (b : BayIx) (s : State) : BayBecomes b s (s.bay b) s := ⟨rfl, rfl, rfl, fun _ _ => rfl, rfl⟩

theorem read (h : BayBecomes b s x t) {α : Type} (f : State → α)
    (hf : f { t with bays := s.bays, events := s.events } = f t) : f t = f s := hf.symm.trans (congrArg f h.rest)

theorem train (h : BayBecomes b s x t) : t.train = s.train := h.read State.train rfl
theorem gap (h : BayBecomes b s x t) : t.gap = s.gap := h.read State.gap rfl
theorem mode (h : BayBecomes b s x t) : t.mode = s.mode := h.read State.mode rfl
theorem release (h : BayBecomes b s x t) : t.release = s.release := h.read State.release rfl
theorem store (h : BayBecomes b s x t) : t.store = s.store := h.read State.store rfl
theorem supervision (h : BayBecomes b s x t) : t.supervision = s.supervision := h.read State.supervision rfl
theorem uptime (h : BayBecomes b s x t) : t.uptime = s.uptime := h.read State.uptime rfl
theorem lines (h : BayBecomes b s x t) : t.lines = s.lines := h.read State.lines rfl
theorem sliding (h : BayBecomes b s x t) (c : BayIx) : t.sliding c = s.sliding c := h.read (fun u => u.sliding c) rfl
theorem kind (h : BayBecomes b s x t) (c : BayIx) : t.kind c = s.kind c := h.read (fun u => u.kind c) rfl
theorem bayRecord (h : BayBecomes b s x t) (c : BayIx) : t.bayRecord c = s.bayRecord c := h.read (fun u => u.bayRecord c) rfl
theorem platform (h : BayBecomes b s x t) : t.platform = s.platform := h.read State.platform rfl
theorem response (h : BayBecomes b s x t) (c : FaultCode) : t.response c = s.response c := h.read (fun u => u.response c) rfl

theorem setBay (h : BayBecomes b s x t) (y : Bay) : BayBecomes b s y (t.setBay b y) :=
  ⟨h.rest, h.mask, h.authority, fun c hc => (State.bay_setBay_ne t b c y hc).trans (h.others c hc), t.bay_setBay_self b y⟩

theorem post (h : BayBecomes b s x t) (k : EventKind) (c : Option BayIx) (v : Nat) : BayBecomes b s x (t.post k c v) :=
  ⟨h.rest, (State.post_mask t k c v).trans h.mask, (State.post_authority t k c v).trans h.authority, h.others, h.bay⟩

/-- The bay enters a phase. -/
theorem enter {e : Ev} (h : BayBecomes b s x e.s) (q : Phase) :
    BayBecomes b s (x.enter (s.bayRecord b) s.platform q) (e.enter b q).s := by
  have hset := h.setBay ((e.s.bay b).enter (e.s.bayRecord b) e.s.platform q)
  rw [h.bay, h.bayRecord, h.platform] at hset
  simp only [Ev.enter, h.bay, h.bayRecord, h.platform]
  split
  · exact hset.post _ _ _
  · exact hset

theorem onBay {e : Ev} (h : BayBecomes b s x e.s) (f : Bay → Bay) : BayBecomes b s (f x) (e.onBay b f).s := by
  rw [Ev.onBay_s, h.bay]
  exact h.setBay (f x)

/-- Its frame is written and the fault posted (spec/07 R134 to R136). -/
theorem writeFrame {e : Ev} (h : BayBecomes b s x e.s) (c : FaultCode) (d : Nat) (st : FrameState) (a : FaultAnswer) :
    BayBecomes b s { x with frame := s.newFrame st c d x.phase x.movement x.retry } (e.writeFrame b c d st a).s := by
  have hframe : e.s.newFrame st c d = s.newFrame st c d := h.read (fun u => u.newFrame st c d) rfl
  simp only [Ev.writeFrame, Ev.on_s, State.setFrame, h.bay, hframe]
  exact (h.setBay _).post _ _ _

/-- Its presence is formed outside WARNING (spec/03 R70). -/
theorem formPresence (h : BayBecomes b s x t) (hx : x.phase ≠ .warning) :
    BayBecomes b s { x with presence := t.presenceNow b } (t.formPresence b) := by
  simp only [State.formPresence]
  split
  · next hsame =>
    rw [beq_iff_eq.mp hsame, h.bay]
    exact h
  · have hheld : (x.phase == .warning && x.presence == .blocking) = false := by simp [hx]
    simp only [h.bay, hheld]
    exact (h.setBay _).post _ _ _

theorem stands (h : BayBecomes b s x t) (htrace : x.trace = (s.bay b).trace) : Stands s t :=
  { power := h.read State.power rfl
    uptime := h.uptime
    area := congrArg Store.area h.store
    frozen := congrArg Store.frozen h.store
    pending := h.read State.pending rfl
    restartCause := congrArg ModeControl.restartCause h.mode
    restartAccepted := congrArg ModeControl.restartAccepted h.mode
    mask := h.mask
    authority := h.authority
    trace := fun c => by
      by_cases hc : c = b
      · subst hc; rw [h.bay, htrace]
      · rw [h.others c hc]
    freeCount := h.read State.freeCount rfl }

/-- What the end of the event leaves of the bay: all but its stuck timers. -/
theorem settle_field (h : BayBecomes b s x t) {α : Type} (f : Bay → α) (hf : ∀ y, f y.core = f y) :
    f (t.settle.bay b) = f x := (State.settle_field f hf t b).trans (congrArg f h.bay)

/-- What the end of the event leaves: everything but the bay, the gap result, the log and the queue stands. -/
theorem bayEvent (h : BayBecomes b s x t) (htrace : x.trace = (s.bay b).trace) : BayEvent b s t.settle := by
  refine ⟨(h.stands htrace).settle, StoreStands.settle (congrArg (fun u => { u with state := s.store.state }) h.store),
    LinksStand.settle ⟨h.read State.station rfl, h.read State.signalling rfl, congrArg ModeControl.preparation h.mode⟩,
    fun c hc => ?_, t.settle_train.trans h.train, FaceStands.settle ⟨?_, h.read State.platformFrame rfl, ?_, ?_⟩,
    t.settle_supervision.trans h.supervision⟩
  · rw [State.settle_body, h.others c hc]
  · rw [h.mode]
  · exact h.read (fun u => u.proof.keyLevel) rfl
  · exact h.read State.stalled rfl

theorem linesStand (h : BayBecomes b s x t) (hlines : x.lines = (s.bay b).lines) : LinesStand s t.settle := by
  refine LinesStand.settle ⟨h.lines, fun c => ?_⟩
  by_cases hc : c = b
  · subst hc; rw [h.bay, hlines]
  · rw [h.others c hc]

theorem releaseStands (h : BayBecomes b s x t) : ReleaseStands s t.settle :=
  ReleaseStands.settle (congrArg (fun r => { r with alarm := s.release.alarm }) h.release)

end BayBecomes

end Sys2Proof.Machine
end

section
/-! The tasks of a bay's event: what follows an entry, what a fault does, and how a filtered change or an expiry begins. -/

namespace Sys2Proof.Machine

/-! ### The gap result and the presence -/

/-- The table of the gap result reads the train, the result, which bays are CLOSED_LOCKED and the GAP inputs alone
(spec/03 R76). -/
theorem State.gapNow_congr {s t : State} (htrain : t.train = s.train) (hresult : t.gap.result = s.gap.result)
    (hlocked : ∀ b, ((t.bay b).phase == .closedLocked) = ((s.bay b).phase == .closedLocked))
    (hlevel : ∀ b, (t.bay b).lines.gap.level = (s.bay b).lines.gap.level) : t.gapNow = s.gapNow := by
  have hcondition : t.scanCondition = s.scanCondition := by
    simp only [State.scanCondition, htrain, hlocked]
  have hoccupied : t.occupiedMembers = s.occupiedMembers := by
    simp only [State.occupiedMembers, htrain, hlevel]
  simp only [State.gapNow, hresult, hcondition, hoccupied]

/-- A bay that neither leaves CLOSED_LOCKED nor comes to it leaves the gap result as its table gives it. -/
theorem BayBecomes.gapFresh {b : BayIx} {s t : State} {x : Bay} (h : BayBecomes b s x t) (hs : GapFresh s)
    (hx : x.phase ≠ .closedLocked) (hb : (s.bay b).phase ≠ .closedLocked)
    (hlevel : x.lines.gap.level = (s.bay b).lines.gap.level) : GapFresh t := by
  unfold GapFresh
  rw [h.gap, ← hs]
  refine State.gapNow_congr h.train (by rw [h.gap]) (fun c => ?_) (fun c => ?_)
  · by_cases hc : c = b
    · subst hc; simp [h.bay, hx, hb]
    · rw [h.others c hc]
  · by_cases hc : c = b
    · subst hc; rw [h.bay, hlevel]
    · rw [h.others c hc]

/-- Without its CURTAIN no bay is BLOCKING (spec/03 R70). -/
theorem State.presenceNow_ne_blocking (s : State) (b : BayIx) (h : (s.bay b).lines.curtain.level = false) :
    s.presenceNow b ≠ .blocking := by
  simp only [State.presenceNow, h, Bool.false_and, Bool.false_eq_true, if_false]
  repeat' split
  all_goals simp

/-! ### What follows an entry -/

/-- No check at entry to its phase finds anything (spec/01 R6, R12, R16; spec/07 R133). -/
structure Bay.EntersQuietly (x : Bay) : Prop where
  proof : x.proofNext = none
  pause : (x.phase == .reopening && !x.pausing && x.lines.fullyOpen.level) = false
  obstruction : (x.phase == .closing && x.obstructed) = false
  drive : (x.phase.isMoving && x.lines.driveFault.level) = false
  conflict : (x.phase.raisesConflict && x.lines.conflict) = false

theorem Ev.entryChecks_quiet (e : Ev) (b : BayIx) (h : (e.s.bay b).EntersQuietly) : e.entryChecks b = (e, []) := by
  have hpause : e.pauseAtEntry b = e := by simp only [Ev.pauseAtEntry, h.pause, Bool.false_eq_true, if_false]
  simp only [Ev.entryChecks, h.proof, hpause, h.obstruction, h.drive, h.conflict, Bool.false_eq_true, if_false]

theorem Ev.formGap_fresh (e : Ev) (h : GapFresh e.s) : e.formGap = (e, []) := by
  have hsame : (e.s.gapNow == e.s.gap.result) = true := beq_iff_eq.mpr h
  rw [Ev.formGap, if_pos hsame]

/-- An entry that changes no gap result and finds nothing to check forms the presence, and no more. -/
theorem Runs.entered {b : BayIx} {s : State} {x : Bay} {e : Ev} (h : BayBecomes b s x e.s) (hgap : GapFresh e.s)
    (hawaiting : b ∈ e.awaiting) (hstarting : e.starting = false) (hwarning : x.phase ≠ .warning)
    (hquiet : s.sliding b = true → ({ x with presence := e.s.presenceNow b } : Bay).EntersQuietly) :
    ∃ e', Runs 2 (Sys2Proof.Machine.entered b) e e' ∧ e'.s = e.s.formPresence b
      ∧ BayBecomes b s { x with presence := e.s.presenceNow b } e'.s := by
  have hformed := h.formPresence hwarning
  let e' : Ev := { e with s := e.s.formPresence b, awaiting := e.awaiting.filter (· != b) }
  have harrive : e.arrive b = (e', []) := by
    rw [Ev.arrive_of_running e b hawaiting hstarting, hformed.sliding b]
    split
    · next hsliding => exact Ev.entryChecks_quiet e' b (hformed.bay ▸ hquiet hsliding)
    · rfl
  refine ⟨e', .step (by rw [Task.perform, Ev.formGap_fresh e hgap]) ?_, rfl, hformed⟩
  rw [Task.perform, Ev.formGap_fresh e hgap]
  refine .step (by rw [Task.perform, harrive]) ?_
  rw [Task.perform, harrive]
  exact .nil e'

/-! ### A fault answered with FAULT_BAY -/

/-- A FAULTED bay has no check to make at entry. -/
theorem Bay.entersQuietly_faulted (x : Bay) (h : x.phase = .faulted) : x.EntersQuietly :=
  ⟨by simp [Bay.proofNext, h], by simp [h], by simp [h], by simp [h, Phase.isMoving], by simp [h, Phase.raisesConflict]⟩

/-- A bay as it has been faulted by a code from the state s. -/
def Bay.faultedBy (s : State) (b : BayIx) (c : FaultCode) (d : Nat) (x : Bay) : Bay :=
  ({ x with frame := s.newFrame .active c d x.phase x.movement x.retry } : Bay).enter (s.bayRecord b) s.platform .faulted

theorem BayBecomes.retryGranted {b : BayIx} {s t : State} {x : Bay} (h : BayBecomes b s x t) (c : FaultCode)
    (hmovement : x.movement = (s.bay b).movement) (hretry : x.retry = (s.bay b).retry) :
    t.retryGranted b c = s.retryGranted b c := by
  have hforbidden : t.restartForbidden = s.restartForbidden := h.read State.restartForbidden rfl
  simp only [State.retryGranted, h.bay, h.response, hforbidden, hmovement, hretry]

/-- A code whose answer is FAULT_BAY, with no retry granted and no platform effect. -/
theorem Ev.raise_faults {b : BayIx} {s : State} {x : Bay} {e : Ev} (h : BayBecomes b s x e.s) (c : FaultCode) (d : Nat)
    (hfaults : Faults s b c) (hphase : x.phase ≠ .faulted) (hmovement : x.movement = (s.bay b).movement)
    (hretry : x.retry = (s.bay b).retry) :
    e.raise b c d = ((e.writeFrame b c d .active .faulted).enter b .faulted, .effect .none c :: Sys2Proof.Machine.entered b) := by
  obtain ⟨haction, heffect, hgranted⟩ := hfaults
  have hfaulted : (x.phase == .faulted) = false := by simp [hphase]
  rw [← h.retryGranted c hmovement hretry] at hgranted
  rw [← h.response c] at haction heffect
  simp only [Ev.raise, h.bay, hfaulted, hgranted, haction, heffect]
  rfl

/-- A fault so answered faults the bay, and touches nothing else. -/
theorem Runs.faulted {b : BayIx} {s : State} {x : Bay} {e : Ev} (h : BayBecomes b s x e.s) (c : FaultCode) (d : Nat)
    (hgap : GapFresh s) (hlevel : x.lines.gap.level = (s.bay b).lines.gap.level) (hfaults : Faults s b c)
    (hphase : x.phase = (s.bay b).phase) (hfaulted : x.phase ≠ .faulted) (hlocked : x.phase ≠ .closedLocked)
    (hmovement : x.movement = (s.bay b).movement) (hretry : x.retry = (s.bay b).retry) (hstarting : e.starting = false) :
    ∃ e' p, Runs 4 [.raise b c d] e e' ∧ BayBecomes b s { x.faultedBy s b c d with presence := p } e'.s := by
  have hraise := Ev.raise_faults h c d hfaults hfaulted hmovement hretry
  have hentered := (h.writeFrame c d .active .faulted).enter .faulted
  obtain ⟨e', hruns, _, hbay⟩ := Runs.entered hentered (hentered.gapFresh hgap nofun (hphase ▸ hlocked) hlevel)
    (by simp) hstarting nofun (fun _ => Bay.entersQuietly_faulted _ rfl)
  refine ⟨e', _, .single ?_, hbay⟩
  rw [Task.perform, hraise]
  exact .step rfl hruns

theorem BayBecomes.faultedAs {b : BayIx} {s t : State} {x : Bay} {c : FaultCode} {d : Nat} {p : Presence}
    (h : BayBecomes b s { x.faultedBy s b c d with presence := p } t) (hphase : x.phase = (s.bay b).phase)
    (hmovement : x.movement = (s.bay b).movement) (hretry : x.retry = (s.bay b).retry) :
    FaultedAs s t.settle b c d := by
  refine ⟨h.settle_field Bay.phase fun _ => rfl, h.settle_field Bay.movement fun _ => rfl, h.settle_field Bay.retry fun _ => rfl,
    h.settle_field Bay.timer fun _ => rfl, h.settle_field Bay.cap fun _ => rfl, ?_⟩
  rw [h.settle_field Bay.frame fun _ => rfl, ← hphase, ← hmovement, ← hretry]
  rfl

/-! ### How events begin -/

/-- An event whose tasks come to their end is what they leave, settled. -/
theorem State.event_of_runs {s : State} {f : Ev → Ev × List Task} {k : Nat} {e' : Ev}
    (h : Runs k (f (Ev.start s)).2 (f (Ev.start s)).1 e') (hk : k ≤ 100) : s.event f = e'.s.settle := by
  have hrun := run_of_runs (n := Config.eventBound) h (Nat.le_trans hk (by decide))
  rw [State.event, Ev.finish, hrun, Ev.on_s]

theorem exec_filterHoldExpires {s : State} {l : InputLine} (h : FilterRuns s l) :
    exec (.filterHoldExpires l) s = .next (s.event (fun e => e.filteredChange l)) := by
  obtain ⟨hactive, hinput, hcandidate⟩ := h
  simp [exec, execFilterHoldExpires, hactive, hinput, hcandidate]

/-- A filtered change of a bay input changes that input, and its bay alone. -/
theorem BayBecomes.changeLevel (s : State) (b : BayIx) (i : BayInput) :
    BayBecomes b s { s.bay b with lines := (s.bay b).lines.changed i } (s.changeLevel (.bay b i)) :=
  (BayBecomes.refl b s).setBay _

/-- The inputs that reach the bay unit of a SLIDING bay (spec/03 R59). -/
theorem Ev.filteredChange_sliding {s : State} {b : BayIx} (i : BayInput) (h : s.sliding b = true)
    (hi : i ≠ .curtain ∧ i ≠ .gap ∧ i ≠ .releaseKey) :
    (Ev.start s).filteredChange (.bay b i) = ((Ev.start s).on (fun u => u.changeLevel (.bay b i))).slidingInput b i := by
  have hkind : (s.changeLevel (.bay b i)).kind b = .sliding := beq_iff_eq.mp h
  obtain ⟨hcurtain, hgap, hkey⟩ := hi
  cases i <;> simp_all [Ev.filteredChange, Ev.bayInput]

theorem Ev.filteredChange_curtain {s : State} {b : BayIx} (h : s.sliding b = true) :
    (Ev.start s).filteredChange (.bay b .curtain)
      = ((Ev.start s).on (fun u => u.changeLevel (.bay b .curtain))).sensorInput b .curtain := by
  have hkind : (s.changeLevel (.bay b .curtain)).kind b = .sliding := beq_iff_eq.mp h
  simp [Ev.filteredChange, Ev.bayInput, hkind]

end Sys2Proof.Machine
end

section
/-! Limits, warnings, pauses and obstructions of one bay (spec/01 R8 to R14). -/

namespace Sys2Proof.Machine

/-! ### Phase limits -/

/-- A phase limit that runs out, answered with FAULT_BAY. -/
theorem State.limitRow_faults {s : State} {b : BayIx} {x : Timer} (p : Bay → Bool) (c : FaultCode)
    (hactive : s.active = true) (hgap : GapFresh s) (htimer : (s.bay b).timer = some x) (hp : p (s.bay b) = true)
    (hfaulted : (s.bay b).phase ≠ .faulted) (hlocked : (s.bay b).phase ≠ .closedLocked) (hfaults : Faults s b c) :
    FaultedAs s (s.limitRow b p c) b c x.limit ∧ LinesStand s (s.limitRow b p c) ∧ ReleaseStands s (s.limitRow b p c)
      ∧ BayEvent b s (s.limitRow b p c) := by
  have hrow : s.limitRow b p c = s.event (fun e => e.limitExpires b c x) := by
    simp [State.limitRow, State.phaseTimerIn, hactive, hp, htimer]
  have hdropped : BayBecomes b s { s.bay b with timer := none } ((Ev.start s).limitExpires b c x).1.s :=
    (BayBecomes.refl b s).onBay (e := Ev.start s) (fun y => { y with timer := none })
  obtain ⟨e', p, hruns, hbay⟩ := Runs.faulted hdropped c x.limit hgap rfl hfaults rfl hfaulted hlocked rfl rfl rfl
  rw [hrow, State.event_of_runs hruns (by decide)]
  exact ⟨hbay.faultedAs rfl rfl rfl, hbay.linesStand rfl, hbay.releaseStands, hbay.bayEvent rfl⟩

/-- Settles O14: each limit row is the same event with its own phase and code. -/
theorem phaseLimitFaultsTheBay : Obligations.PhaseLimitFaultsTheBay := by
  intro s b x hactive hgap htimer
  have row (p : Bay → Bool) (c : FaultCode) := State.limitRow_faults p c hactive hgap htimer
  refine ⟨fun h hf => ⟨_, rfl, ?unlocking⟩, fun h hf => ⟨_, rfl, ?opening⟩, fun h hf => ⟨_, rfl, ?closing⟩,
    fun h hf => ⟨_, rfl, ?locking⟩⟩
  case opening =>
    refine row Bay.openLimitRuns _ ?_ ?_ ?_ hf <;> rcases h with h | ⟨h, hpausing⟩ <;> simp [Bay.openLimitRuns, *]
  case unlocking | closing | locking => exact row _ _ (by simp [h]) (by simp [h]) (by simp [h]) hf

/-! ### The entry to CLOSING -/

/-- A bay that enters CLOSING with its leaf free: neither shut, nor obstructed, nor faulty. -/
theorem Bay.entersQuietly_closing {x : Bay} (hphase : x.phase = .closing) (hclosed : x.lines.closed.level = false)
    (hobstructed : x.lines.obstructed.level = false) (hcurtain : x.presence ≠ .blocking ∨ x.forced = true)
    (hdrive : x.lines.driveFault.level = false) (hconflict : x.lines.conflict = false) : x.EntersQuietly := by
  refine ⟨?_, ?_, ?_, ?_, ?_⟩
  · simp [Bay.proofNext, hphase, hclosed]
  · simp [hphase]
  · rcases hcurtain with h | h <;> simp [Bay.obstructed, hobstructed, h]
  · simp [hdrive]
  · simp [hconflict]

section

variable {s : State} {b : BayIx}

/-- The warning or the pause ends, and the bay passes to CLOSING (spec/01 R11, R13). -/
theorem State.toClosing_closes (hgap : GapFresh s) (hfree : EntersFree s b)
    (hclosed : (s.bay b).lines.closed.level = false) (hobstructed : (s.bay b).lines.obstructed.level = false)
    (hcurtain : (s.bay b).lines.curtain.level = false) (hlocked : (s.bay b).phase ≠ .closedLocked) :
    Closes s (s.event (fun e => e.toClosing b)) b ∧ ((s.event (fun e => e.toClosing b)).bay b).forced = false
      ∧ LinesStand s (s.event (fun e => e.toClosing b)) ∧ ReleaseStands s (s.event (fun e => e.toClosing b))
      ∧ BayEvent b s (s.event (fun e => e.toClosing b)) := by
  obtain ⟨_, hdrive, hconflict⟩ := hfree
  have hentered : BayBecomes b s _ ((Ev.start s).toClosing b).1.s := (BayBecomes.refl b s).enter (e := Ev.start s) .closing
  have hpresence := State.presenceNow_ne_blocking ((Ev.start s).toClosing b).1.s b (by rw [hentered.bay]; exact hcurtain)
  obtain ⟨e', hruns, _, hbay⟩ := Runs.entered hentered (hentered.gapFresh hgap nofun hlocked rfl) (by simp [Ev.toClosing])
    rfl nofun (fun _ => Bay.entersQuietly_closing rfl hclosed hobstructed (.inl hpresence) hdrive hconflict)
  rw [State.event_of_runs hruns (by decide)]
  exact ⟨⟨hbay.settle_field Bay.phase fun _ => rfl, hbay.settle_field Bay.movement fun _ => rfl,
    hbay.settle_field Bay.retry fun _ => rfl,
    hbay.settle_field Bay.reclose fun _ => rfl, hbay.settle_field Bay.cap fun _ => rfl,
    hbay.settle_field Bay.timer fun _ => rfl⟩, hbay.settle_field Bay.forced fun _ => rfl,
    hbay.linesStand rfl, hbay.releaseStands, hbay.bayEvent rfl⟩

/-! ### Records of the queue -/

/-- A record stands in the queue, which has room for n more. -/
def State.Holds (r : EventRecord) (n : Nat) (s : State) : Prop :=
  r ∈ s.events.queue ∧ s.events.queue.length + n ≤ Config.queueLimit

theorem State.queue_post {s : State} (k : EventKind) (c : Option BayIx) (v : Nat)
    (h : s.events.queue.length < Config.queueLimit) :
    (s.post k c v).events.queue
      = s.events.queue ++ [{ time := s.uptime, kind := k, bay := c, value := BitVec.ofNat 16 v }] := by
  simp [State.post, EventUnit.add, h]

theorem State.Holds.post {s : State} {r : EventRecord} {n : Nat} (h : s.Holds r (n + 1)) (k : EventKind)
    (c : Option BayIx) (v : Nat) : (s.post k c v).Holds r n := by
  obtain ⟨hmem, hroom⟩ := h
  unfold State.Holds
  rw [State.queue_post k c v (by omega)]
  exact ⟨List.mem_append_left _ hmem, by simp; omega⟩

theorem State.Holds.weaken {s : State} {r : EventRecord} {n m : Nat} (h : s.Holds r n) (hm : m ≤ n) : s.Holds r m :=
  ⟨h.1, Nat.le_trans (Nat.add_le_add_left hm _) h.2⟩

theorem State.Holds.formPresence {s : State} {r : EventRecord} {n : Nat} (h : s.Holds r (n + 1)) (b : BayIx) :
    (s.formPresence b).Holds r n := by
  simp only [State.formPresence]
  split
  · exact h.weaken (Nat.le_succ n)
  · exact State.Holds.post h _ _ _

theorem State.Holds.resumeStore {s : State} {r : EventRecord} {n : Nat} (h : s.Holds r (n + 1)) :
    s.resumeStore.Holds r n := by
  unfold State.resumeStore
  split
  · exact State.Holds.post h _ _ _
  · exact h.weaken (Nat.le_succ n)

theorem State.Holds.formProof {s : State} {r : EventRecord} {n : Nat} (h : s.Holds r (n + 1)) :
    s.formProof.Holds r n := by
  simp only [State.formProof]
  split
  · exact h.weaken (Nat.le_succ n)
  · exact State.Holds.post h _ _ _

/-- The end of an event posts at most two records. -/
theorem State.Holds.settle {s : State} {r : EventRecord} {n : Nat} (h : s.Holds r (n + 2)) : s.settle.Holds r n := by
  have hwatch := congrArg State.events s.resumeStore.watchStuck_same
  dsimp only at hwatch
  have halarm : s.resumeStore.watchStuck.formAlarm.Holds r (n + 1) := by
    unfold State.Holds
    rw [State.formAlarm_events, hwatch]
    exact h.resumeStore
  have hproof := halarm.formProof
  unfold State.Holds at hproof ⊢
  rwa [State.settle_eq, State.formPins_events]

/-- The cap of the warning runs out: the bay passes to a forced CLOSING, which is posted (spec/01 R11). -/
theorem State.forceClosing_closes {x : Timer} (hgap : GapFresh s) (hfree : EntersFree s b)
    (hclosed : (s.bay b).lines.closed.level = false) (hobstructed : (s.bay b).lines.obstructed.level = false)
    (hlocked : (s.bay b).phase ≠ .closedLocked) :
    Closes s (s.event (fun e => e.forceClosing b x)) b ∧ ((s.event (fun e => e.forceClosing b x)).bay b).forced = true
      ∧ LinesStand s (s.event (fun e => e.forceClosing b x)) ∧ ReleaseStands s (s.event (fun e => e.forceClosing b x))
      ∧ BayEvent b s (s.event (fun e => e.forceClosing b x))
      ∧ (s.events.queue.length + 5 ≤ 64 →
          { time := s.uptime, kind := .closeForced, bay := some b, value := BitVec.ofNat 16 x.limit }
            ∈ (s.event (fun e => e.forceClosing b x)).events.queue) := by
  obtain ⟨_, hdrive, hconflict⟩ := hfree
  have hclosing : BayBecomes b s _ ((Ev.start s).enter b .closing).s := (BayBecomes.refl b s).enter (e := Ev.start s) .closing
  have hforced : BayBecomes b s _ ((Ev.start s).forceClosing b x).1.s :=
    (hclosing.onBay (fun y => { y with forced := true })).post _ _ _
  obtain ⟨e', hruns, hlast, hbay⟩ := Runs.entered hforced (hforced.gapFresh hgap nofun hlocked rfl)
    (by simp [Ev.forceClosing, Ev.onBay]) rfl nofun
    (fun _ => Bay.entersQuietly_closing rfl hclosed hobstructed (.inr rfl) hdrive hconflict)
  rw [State.event_of_runs hruns (by decide)]
  refine ⟨⟨hbay.settle_field Bay.phase fun _ => rfl, hbay.settle_field Bay.movement fun _ => rfl,
    hbay.settle_field Bay.retry fun _ => rfl,
    hbay.settle_field Bay.reclose fun _ => rfl, hbay.settle_field Bay.cap fun _ => rfl,
    hbay.settle_field Bay.timer fun _ => rfl⟩, hbay.settle_field Bay.forced fun _ => rfl,
    hbay.linesStand rfl, hbay.releaseStands, hbay.bayEvent rfl, fun hroom => ?_⟩
  have hqueue : ((Ev.start s).enter b .closing).s.events.queue.length ≤ s.events.queue.length + 1 := by
    simp only [Ev.enter]
    split
    · rw [State.queue_post _ _ _ (by simp [Config.queueLimit]; omega)]; simp
    · simp
  have hposted : ((Ev.start s).forceClosing b x).1.s.Holds
      { time := s.uptime, kind := .closeForced, bay := some b, value := BitVec.ofNat 16 x.limit } 3 := by
    have hlimit : Config.queueLimit = 64 := rfl
    unfold State.Holds
    simp only [Ev.forceClosing, Ev.on_s, Ev.onBay_s]
    rw [State.queue_post _ _ _ (by simp; omega)]
    simp
    omega
  rw [hlast]
  exact (State.Holds.settle (n := 0) (hposted.formPresence b)).1

end

/-- Settles O16: the three rows are one entry to CLOSING, with and without force. -/
theorem warningAndPauseLeadToClosing : Obligations.WarningAndPauseLeadToClosing := by
  intro s b x hactive hgap hfree hclosed hobstructed
  refine ⟨fun hphase htimer hpresence hcurtain => ?_, fun hphase hpresence => ?_, fun hphase hpausing htimer hcurtain => ?_,
    fun hphase hcap => ?_⟩
  · refine ⟨_, ?_, State.toClosing_closes hgap hfree hclosed hobstructed hcurtain (by simp [hphase])⟩
    simp [exec, execWarningPeriodExpires, State.phaseTimerIn, Bay.warningHeld, hactive, hphase, hpresence, htimer]
  · simp [exec, execWarningPeriodExpires, State.phaseTimerIn, Bay.warningHeld, hphase, hpresence]
  · refine ⟨_, ?_, State.toClosing_closes hgap hfree hclosed hobstructed hcurtain (by simp [hphase])⟩
    simp [exec, execReopenPauseExpires, State.phaseTimerIn, hactive, hphase, hpausing, htimer]
  · refine ⟨_, ?_, State.forceClosing_closes (x := x) hgap hfree hclosed hobstructed (by simp [hphase])⟩
    simp [exec, execCurtainHoldLimitExpires, State.capRunning, hactive, hphase, hcap]

end Sys2Proof.Machine
end

section
/-! Obstructions in CLOSING (spec/01 R12). -/

namespace Sys2Proof.Machine

/-- Only CLOSED, LOCKED and FULLY_OPEN make a conflict begin (spec/01 R16). -/
theorem BayLines.conflictBegins_other (l : BayLines) (i : BayInput)
    (h : i ≠ .closed ∧ i ≠ .locked ∧ i ≠ .fullyOpen) : l.conflictBegins i = false := by
  obtain ⟨hclosed, hlocked, hopen⟩ := h
  cases i <;> simp_all [BayLines.conflictBegins, BayLines.put, BayLines.shutAndOpen, BayLines.partedBolt]

/-- The bay as it begins to reopen (spec/01 R12). -/
def Bay.reopens (s : State) (b : BayIx) (x : Bay) : Bay :=
  ({ x with reclose := x.reclose + 1 } : Bay).enter (s.bayRecord b) s.platform .reopening

section

variable {s : State} {b : BayIx} {x : Bay} {e : Ev}

/-- An obstruction below the setting reopens the bay. -/
theorem BayBecomes.obstruct_reopens (h : BayBecomes b s x e.s) (atEntry : Bool) (hphase : x.phase = .closing)
    (hreclose : x.reclose < s.platform.recloseAttempts) :
    (e.obstruct atEntry b).2 = entered b ∧ (e.obstruct atEntry b).1.starting = e.starting
      ∧ b ∈ (e.obstruct atEntry b).1.awaiting ∧ BayBecomes b s (x.reopens s b) (e.obstruct atEntry b).1.s := by
  have hclosing : (x.phase != .closing) = false := by simp [hphase]
  have hentered := (h.onBay (fun y => { y with reclose := y.reclose + 1 })).enter .reopening
  simp only [Ev.obstruct, h.bay, hclosing, h.platform, hreclose, Bool.false_eq_true, if_false, if_true]
  refine ⟨trivial, ?_, ?_, ?_⟩
  · split <;> rfl
  · split <;> simp
  · split
    · exact hentered.post _ _ _
    · exact hentered

/-- An obstruction at the setting raises RECLOSE_EXHAUSTED with the count. -/
theorem BayBecomes.obstruct_exhausts (h : BayBecomes b s x e.s) (hphase : x.phase = .closing)
    (hreclose : s.platform.recloseAttempts ≤ x.reclose) :
    e.obstruct false b = (e, [.raise b .recloseExhausted x.reclose]) := by
  have hclosing : (x.phase != .closing) = false := by simp [hphase]
  have hsetting : ¬ x.reclose < s.platform.recloseAttempts := Nat.not_lt.mpr hreclose
  simp only [Ev.obstruct, h.bay, hclosing, h.platform, hsetting, Bool.false_eq_true, if_false]

/-- A bay that enters REOPENING with its leaf on the way: not fully open, without DRIVE_FAULT and conflict. -/
theorem Bay.entersQuietly_reopening {x : Bay} (hphase : x.phase = .reopening) (hopen : x.lines.fullyOpen.level = false)
    (hdrive : x.lines.driveFault.level = false) (hconflict : x.lines.conflict = false) : x.EntersQuietly :=
  ⟨by simp [Bay.proofNext, hphase], by simp [hopen], by simp [hphase], by simp [hdrive], by simp [hconflict]⟩

/-- The obstruction, carried out to the end: the bay is in REOPENING and drives open. -/
theorem Runs.reopened (h : BayBecomes b s x e.s) (hgap : GapFresh s) (hlevel : x.lines.gap.level = (s.bay b).lines.gap.level)
    (hphase : x.phase = .closing) (hbefore : (s.bay b).phase = .closing) (hreclose : x.reclose < s.platform.recloseAttempts)
    (hopen : x.lines.fullyOpen.level = false) (hdrive : x.lines.driveFault.level = false)
    (hconflict : x.lines.conflict = false) (hstarting : e.starting = false) :
    ∃ e' p, Runs 3 [.obstruct false b] e e' ∧ BayBecomes b s { x.reopens s b with presence := p } e'.s := by
  obtain ⟨htasks, hsame, hawaiting, hreopens⟩ := h.obstruct_reopens false hphase hreclose
  obtain ⟨e', hruns, _, hbay⟩ := Runs.entered hreopens (hreopens.gapFresh hgap nofun (by simp [hbefore]) hlevel) hawaiting
    (hsame.trans hstarting) nofun (fun _ => Bay.entersQuietly_reopening rfl hopen hdrive hconflict)
  exact ⟨e', _, .single (by rw [Task.perform, htasks]; exact hruns), hbay⟩

end

/-- A filtered change of a bay input other than a proof has no conflict after it. -/
theorem Ev.slidingInput_obstructed {s : State} {b : BayIx} {x : Bay} {e : Ev} (h : BayBecomes b s x e.s)
    (hlevel : x.lines.obstructed.level = true) (hphase : x.phase = .closing) :
    e.slidingInput b .obstructed = (e, [.obstruct false b]) := by
  have hbegins := x.lines.conflictBegins_other .obstructed (by simp)
  simp [Ev.slidingInput, Bay.inputAction, h.bay, hbegins, hlevel, hphase]

/-- A curtain that goes active has the presence of its bay formed, and no more (spec/03 R70). -/
theorem BayBecomes.sensorInput_curtain (s : State) (b : BayIx) (hlevel : (s.bay b).lines.curtain.level = false) :
    let p := ((Ev.start s).on (fun u => u.changeLevel (.bay b .curtain))).sensorInput b .curtain
    p.2 = [.presence b] ∧ p.1.awaiting = [] ∧ p.1.starting = false
      ∧ BayBecomes b s { s.bay b with lines := (s.bay b).lines.changed .curtain } p.1.s := by
  refine ⟨rfl, rfl, rfl, ?_⟩
  have hchanged := (BayBecomes.changeLevel s b .curtain).onBay
    (e := (Ev.start s).on (fun u => u.changeLevel (.bay b .curtain)))
    (fun x => if x.lines.curtain.level then x else { x with curtainStuck := false, curtainStuckTimer := none })
  have hactive : ((s.bay b).lines.changed .curtain).curtain.level = true := by
    simp [BayLines.changed, BayLines.put, BayLines.get, hlevel]
  rw [if_pos hactive] at hchanged
  exact hchanged

/-- A curtain in CLOSING makes the presence BLOCKING, unless a sensor is stuck or the gap traps (spec/03 R70). -/
theorem BayBecomes.presenceNow_blocking {b : BayIx} {s t : State} {x : Bay} (h : BayBecomes b s x t)
    (hsliding : s.sliding b = true) (hphase : x.phase = .closing) (hgap : x.lines.gap.level = false)
    (hgapStuck : x.gapStuck = false) (hcurtainStuck : x.curtainStuck = false) (hcurtain : x.lines.curtain.level = true) :
    t.presenceNow b = .blocking := by
  rw [← h.sliding b] at hsliding
  simp [State.presenceNow, h.bay, hsliding, hphase, hgap, hgapStuck, hcurtainStuck, hcurtain]

/-- A presence that comes into BLOCKING in a CLOSING that is not forced is an obstruction (spec/03 R71). -/
theorem BayBecomes.presence_reopens {b : BayIx} {s : State} {x : Bay} {e : Ev} (h : BayBecomes b s x e.s)
    (hawaiting : e.awaiting = []) (hphase : x.phase = .closing) (hforced : x.forced = false)
    (hpresence : x.presence ≠ .blocking) (hnow : e.s.presenceNow b = .blocking) :
    e.presence b = (e.on (fun u => u.formPresence b), [.obstruct false b]) := by
  have hformed := h.formPresence (by simp [hphase])
  simp [Ev.presence, reopenHold, h.bay, hformed.bay, hawaiting, hphase, hforced, hpresence, hnow]

/-- Settles O8: OBSTRUCTED is taken as it is, and a curtain through the presence it makes BLOCKING; either reopens the bay
below the setting, and at the setting RECLOSE_EXHAUSTED faults it. -/
theorem obstructionReopensOrExhausts : Obligations.ObstructionReopensOrExhausts := by
  intro s b hsliding hgap hphase hclosed hlocked hopen hdrive
  have hconflict : (s.bay b).lines.conflict = false := by
    simp [BayLines.conflict, BayLines.shutAndOpen, BayLines.partedBolt, hclosed, hlocked]
  have hobstructed := BayBecomes.changeLevel s b .obstructed
  have hbegins (hlevel : (s.bay b).lines.obstructed.level = false) :
      (Ev.start s).filteredChange (.bay b .obstructed)
        = ((Ev.start s).on (fun u => u.changeLevel (.bay b .obstructed)), [.obstruct false b]) := by
    rw [Ev.filteredChange_sliding .obstructed hsliding (by simp)]
    exact Ev.slidingInput_obstructed hobstructed (by simp [BayLines.changed, BayLines.put, BayLines.get, hlevel]) hphase
  refine ⟨fun hruns hlevel hreclose => ⟨_, exec_filterHoldExpires hruns, ?_⟩,
    fun hruns hlevel hgapLevel hgapStuck hcurtainStuck hpresence hforced hreclose => ⟨_, exec_filterHoldExpires hruns, ?_⟩,
    fun hruns hlevel hreclose hfaults => ⟨_, exec_filterHoldExpires hruns, ?_⟩⟩
  · obtain ⟨e', p, hend, hbay⟩ := Runs.reopened (e := (Ev.start s).on (fun u => u.changeLevel (.bay b .obstructed)))
      hobstructed hgap rfl hphase hphase hreclose hopen hdrive hconflict rfl
    rw [State.event_of_runs (by rw [hbegins hlevel]; exact hend) (by decide)]
    exact ⟨hbay.settle_field Bay.phase fun _ => rfl, hbay.settle_field Bay.pausing fun _ => rfl,
      hbay.settle_field Bay.reclose fun _ => rfl,
      hbay.settle_field Bay.movement fun _ => rfl, hbay.settle_field Bay.timer fun _ => rfl, hbay.bayEvent rfl⟩
  · obtain ⟨htasks, hawaiting, hstarting, hcurtain⟩ := BayBecomes.sensorInput_curtain s b hlevel
    have hblocking := hcurtain.presence_reopens hawaiting hphase hforced hpresence
      (hcurtain.presenceNow_blocking hsliding hphase hgapLevel hgapStuck hcurtainStuck
        (by simp [BayLines.changed, BayLines.put, BayLines.get, hlevel]))
    obtain ⟨e', p, hend, hbay⟩ := Runs.reopened (e := (Ev.on _ (fun u => u.formPresence b)))
      (hcurtain.formPresence (by simp [hphase])) hgap rfl hphase hphase hreclose hopen hdrive hconflict hstarting
    rw [State.event_of_runs (by
      rw [Ev.filteredChange_curtain hsliding, htasks]
      exact .single (by rw [Task.perform, hblocking]; exact hend)) (by decide)]
    exact ⟨hbay.settle_field Bay.phase fun _ => rfl, hbay.settle_field Bay.reclose fun _ => rfl,
      hbay.settle_field Bay.movement fun _ => rfl,
      hbay.settle_field Bay.timer fun _ => rfl, hbay.bayEvent rfl⟩
  · obtain ⟨e', p, hend, hbay⟩ := Runs.faulted (e := (Ev.start s).on (fun u => u.changeLevel (.bay b .obstructed)))
      hobstructed .recloseExhausted (s.bay b).reclose hgap rfl hfaults rfl (by simp [hphase]) (by simp [hphase]) rfl rfl rfl
    have hexhausts := hobstructed.obstruct_exhausts (e := (Ev.start s).on (fun u => u.changeLevel (.bay b .obstructed)))
      hphase hreclose
    rw [State.event_of_runs (by rw [hbegins hlevel]; exact .single (by rw [Task.perform, hexhausts]; exact hend)) (by decide)]
    exact ⟨hbay.faultedAs rfl rfl rfl, hbay.bayEvent rfl⟩

end Sys2Proof.Machine
end

section
/-! Station requests that are events, and BAY_COMMAND HOLD and FREE (spec/01 R20, R26). -/

namespace Sys2Proof.Machine

/-! ### A station request answered -/

/-- The state once a station request, taken from the state s, has its event behind it and its reply owed. -/
def stationDone (s w : State) (k : Byte) (r : Result) (content : List Byte) : State :=
  { w with station := stationPort s k r content, mode := { w.mode with preparation := false }, pins := w.pinsNow }

section

variable {s w : State} {k : Byte} {r : Result} {content : List Byte}

@[simp] theorem stationDone_bay (b : BayIx) : (stationDone s w k r content).bay b = w.bay b := rfl
@[simp] theorem stationDone_train : (stationDone s w k r content).train = w.train := rfl
@[simp] theorem stationDone_gap : (stationDone s w k r content).gap = w.gap := rfl
@[simp] theorem stationDone_store : (stationDone s w k r content).store = w.store := rfl
@[simp] theorem stationDone_release : (stationDone s w k r content).release = w.release := rfl
@[simp] theorem stationDone_signalling : (stationDone s w k r content).signalling = w.signalling := rfl
@[simp] theorem stationDone_supervision : (stationDone s w k r content).supervision = w.supervision := rfl
@[simp] theorem stationDone_stalled : (stationDone s w k r content).stalled = w.stalled := rfl
@[simp] theorem stationDone_station : (stationDone s w k r content).station = stationPort s k r content := rfl

theorem stationDone_answered (q : RequestKind) : StationAnswered s (stationDone s w q.code r content) q r content :=
  ⟨rfl, rfl⟩

theorem Stands.stationDone (h : Stands s w) : Stands s (stationDone s w k r content) :=
  ⟨h.power, h.uptime, h.area, h.frozen, h.pending, h.restartCause, h.restartAccepted, h.mask, h.authority, h.trace,
    h.freeCount⟩

theorem StoreStands.stationDone (h : StoreStands s w) : StoreStands s (stationDone s w k r content) := h
theorem LinesStand.stationDone (h : LinesStand s w) : LinesStand s (stationDone s w k r content) := h
theorem ReleaseStands.stationDone (h : ReleaseStands s w) : ReleaseStands s (stationDone s w k r content) := h
theorem FaceStands.stationDone (h : FaceStands s w) : FaceStands s (stationDone s w k r content) := h

end

theorem Answer.carryOut_station (s : State) (a : Answer) (k : Byte)
    (hstation : a.outcome.s.station = (s.takeFrame .station).station)
    (hauthority : (a.reply a.outcome).1.isAuthority = false) (hprepares : a.prepares = false) :
    a.carryOut .station k = stationDone s a.outcome.s k (a.reply a.outcome).1 (a.reply a.outcome).2 := by
  have hport : a.outcome.s.station = { s.station with buffer := .hunting, sinceByte := 0 } := hstation
  simp only [Answer.carryOut, State.recordAuthority_other _ _ _ _ hauthority, hprepares]
  simp only [State.owe, State.prepare, State.setPort, State.port, State.headBlock, State.formPins, hport]
  rfl

/-- A station request whose owner answers with an event. -/
theorem State.request_station {s : State} {q : RequestKind} {body : List Byte} {owner : Owner}
    {f : Ev → Ev × List Task} {reply : Ev → Result × List Byte} {e' : Ev} (h : Admits .station q body s)
    (howner : owner body (s.takeFrame .station) = .event (s.takeFrame .station) f reply)
    (hrun : run Config.eventBound (f (Ev.start (s.takeFrame .station))).2 (f (Ev.start (s.takeFrame .station))).1 = e')
    (hstation : e'.s.station = (s.takeFrame .station).station)
    (hauthority : (reply (e'.on State.settle)).1.isAuthority = false) :
    s.request .station q body owner
      = stationDone s e'.s.settle q.code (reply (e'.on State.settle)).1 (reply (e'.on State.settle)).2 := by
  have houtcome : (Answer.event (s.takeFrame .station) f reply).outcome = e'.on State.settle := by
    rw [Answer.outcome_event, Ev.finish, hrun]
  have hcarried := Answer.carryOut_station s (Answer.event (s.takeFrame .station) f reply) q.code
    (by rw [houtcome]; exact (State.settle_station _).trans hstation) (by rw [houtcome]; exact hauthority) rfl
  rw [State.request_admits _ _ _ _ _ h, howner, hcarried, houtcome]
  rfl

/-! ### What a BAY_COMMAND reports -/

/-- The reply of a BAY_COMMAND whose event has accepted and refused the bays of its set as the state s judges them. -/
theorem bayCommand_reply {s : State} {a : BayAction} {bays : Nat} {e : Ev}
    (haccepted : e.accepted = (membersOf bays).filter (fun b => (s.commandRefusal a b).isNone))
    (hrefused : e.refused = s.commandRefuses a bays) :
    (bayCommandResult e, bayCommandContent e) = (s.commandResult a bays, s.commandReply a bays) := by
  have hempty : e.accepted.isEmpty = (membersOf bays).all (fun b => (s.commandRefusal a b).isSome) := by
    rw [haccepted, Bool.eq_iff_iff]
    simp [List.filter_eq_nil_iff, Option.isSome_iff_ne_none]
  have hcontains : (fun b => e.accepted.contains b) = s.commandAccepts a bays := by
    funext b
    rw [haccepted, State.commandAccepts, Bool.eq_iff_iff]
    simp [membersOf, allBays, and_comm]
  simp only [bayCommandResult, bayCommandContent, State.commandResult, State.commandReply, hempty, hcontains, hrefused]

theorem commandResult_authority (s : State) (a : BayAction) (bays : Nat) :
    (s.commandResult a bays).isAuthority = false := by
  unfold State.commandResult
  repeat' split
  all_goals rfl

/-- The link's mode check admits a BAY_COMMAND in the modes that HOLD to CLEAR_FAULT ask for (spec/01 R26). -/
theorem ownerBayCommand_event {s : State} {body : List Byte} {bays : Nat} {a : BayAction}
    (hoperand : bayCommandOperand body = some (bays, a)) (hmode : a.admitted s.mode.mode = true) :
    ownerBayCommand body s
      = .event s (fun e => (e, (membersOf bays).map (.command a))) (fun e => (bayCommandResult e, bayCommandContent e)) := by
  simp [ownerBayCommand, hoperand, hmode]

/-! ### HOLD and FREE -/

/-- The actions that set the service hold to a value and do no more (spec/01 R20). -/
inductive SetsHold : BayAction → Bool → Prop
  | hold : SetsHold .hold true
  | free : SetsHold .free false

theorem SetsHold.act {a : BayAction} {v : Bool} (h : SetsHold a v) (e : Ev) (b : BayIx) :
    e.act a b = (e.onBay b (fun x => { x with hold := v }), []) := by cases h <;> rfl

/-- Whether such an action is refused does not turn on any bay's runtime part. -/
theorem SetsHold.refusal {a : BayAction} {v : Bool} (h : SetsHold a v) {s t : State}
    (hrest : { t with bays := s.bays } = s) (b : BayIx) : t.commandRefusal a b = s.commandRefusal a b := by
  have hkind : t.kind b = s.kind b := congrArg (fun u => u.kind b) hrest
  have hmember : t.isMember b = s.isMember b := congrArg (fun u => u.isMember b) hrest
  cases h <;>
    simp [State.commandRefusal, BayAction.admitsPhase, BayAction.proofsHold, State.claimRefusal, hkind, hmember]

/-- What HOLD and FREE leave of the bays of a list, taken one after the other. -/
theorem Runs.setsHold {a : BayAction} {v : Bool} (h : SetsHold a v) (bs : List BayIx) (e : Ev) :
    ∃ e', Runs bs.length (bs.map (.command a)) e e' ∧ { e'.s with bays := e.s.bays } = e.s
      ∧ e'.accepted = e.accepted ++ bs.filter (fun b => (e.s.commandRefusal a b).isNone)
      ∧ e'.refused = e.refused ++ bs.filterMap (fun b => (e.s.commandRefusal a b).map (fun r => (b, r)))
      ∧ ∀ c, e'.s.bay c = { e.s.bay c with
          hold := if bs.contains c && (e.s.commandRefusal a c).isNone then v else (e.s.bay c).hold } := by
  induction bs generalizing e with
  | nil => exact ⟨e, .nil e, rfl, by simp, by simp, by simp⟩
  | cons b bs ih =>
    rcases hrefusal : e.s.commandRefusal a b with _ | r
    · have hcommand : (Task.command a b).perform e
          = (({ e with accepted := e.accepted ++ [b] } : Ev).onBay b (fun x => { x with hold := v }), []) := by
        simp [Task.perform, Ev.command, hrefusal, h.act]
      obtain ⟨e', hruns, hrest, haccepted, hrefused, hbays⟩ :=
        ih (({ e with accepted := e.accepted ++ [b] } : Ev).onBay b (fun x => { x with hold := v }))
      have hsame (c : BayIx) : (e.s.setBay b { e.s.bay b with hold := v }).commandRefusal a c = e.s.commandRefusal a c :=
        h.refusal rfl c
      simp only [Ev.onBay_s, hsame] at hrest haccepted hrefused hbays
      refine ⟨e', .cons (by rw [hcommand]; exact hruns), ?_, ?_, ?_, fun c => ?_⟩
      · exact congrArg (fun u => { u with bays := e.s.bays }) hrest
      · simp [haccepted, hrefusal, Ev.onBay]
      · simp [hrefused, hrefusal, Ev.onBay]
      · rw [hbays]
        by_cases hc : c = b
        · subst hc; simp [hrefusal]
        · simp [State.bay_setBay_ne _ _ _ _ hc, hc]
    · have hcommand : (Task.command a b).perform e = (e.report b r, []) := by simp [Task.perform, Ev.command, hrefusal]
      obtain ⟨e', hruns, hrest, haccepted, hrefused, hbays⟩ := ih (e.report b r)
      refine ⟨e', .cons (by rw [hcommand]; exact hruns), hrest, ?_, ?_, fun c => ?_⟩
      · simpa [hrefusal, Ev.report] using haccepted
      · simpa [hrefusal, Ev.report] using hrefused
      · rw [hbays]
        by_cases hc : c = b
        · subst hc; simp [hrefusal]
        · simp [hc]

theorem mem_membersOf (v : Nat) (b : BayIx) : b ∈ membersOf v ↔ inSet v b = true := by simp [membersOf, allBays]

theorem length_membersOf (v : Nat) : (membersOf v).length ≤ 24 := by
  have h := List.length_filter_le (inSet v) allBays
  simpa [membersOf, allBays] using h

/-- HOLD or FREE, sent by the station. -/
theorem State.request_setsHold {a : BayAction} {v : Bool} (h : SetsHold a v) {s : State} {body : List Byte} {bays : Nat}
    (hadmits : Admits .station .bayCommand body s) (hoperand : bayCommandOperand body = some (bays, a)) :
    ∃ t, s.request .station .bayCommand body ownerBayCommand = t ∧ CommandAnswered s t a bays ∧ t.gap = s.gap
      ∧ ReleaseStands s t
      ∧ ∀ b, (t.bay b).core = { (s.bay b).core with hold := if s.commandAccepts a bays b then v else (s.bay b).hold } := by
  have hmode : a.admitted s.mode.mode = true := by
    obtain ⟨_, _, _, _, hm, _⟩ := hadmits
    cases h <;> exact hm
  obtain ⟨e', hruns, hrest, haccepted, hrefused, hbays⟩ :=
    Runs.setsHold h (membersOf bays) (Ev.start (s.takeFrame .station))
  have hread {α : Type} (f : State → α) (hf : f { e'.s with bays := (s.takeFrame .station).bays } = f e'.s) :
      f e'.s = f (s.takeFrame .station) := hf.symm.trans (congrArg f hrest)
  have hjudged (b : BayIx) : (s.takeFrame .station).commandRefusal a b = s.commandRefusal a b := rfl
  have hreply := bayCommand_reply (s := s) (a := a) (bays := bays) (e := e'.on State.settle)
    (by simpa [hjudged, Ev.start] using haccepted) (by simpa [hjudged, Ev.start, State.commandRefuses] using hrefused)
  have hresult : bayCommandResult (e'.on State.settle) = s.commandResult a bays := congrArg Prod.fst hreply
  have hcontent : bayCommandContent (e'.on State.settle) = s.commandReply a bays := congrArg Prod.snd hreply
  have hbay (b : BayIx) : e'.s.bay b
      = { s.bay b with hold := if s.commandAccepts a bays b then v else (s.bay b).hold } := by
    rw [hbays b]
    have hcontains : (membersOf bays).contains b = inSet bays b := by
      rw [Bool.eq_iff_iff, List.contains_iff_mem, mem_membersOf]
    rw [hcontains]
    rfl
  have hlines (b : BayIx) : (e'.s.bay b).lines = (s.bay b).lines := by rw [hbay]
  have hstands : Stands s e'.s :=
    ⟨hread State.power rfl, hread State.uptime rfl, hread (fun u => u.store.area) rfl, hread (fun u => u.store.frozen) rfl,
      hread State.pending rfl, hread (fun u => u.mode.restartCause) rfl, hread (fun u => u.mode.restartAccepted) rfl,
      hread (fun u => u.events.mask) rfl, hread (fun u => u.events.authority) rfl, fun b => by rw [hbay],
      hread State.freeCount rfl⟩
  have hface : FaceStands s e'.s :=
    ⟨hread (fun u => { u.mode with preparation := s.mode.preparation }) rfl, hread State.platformFrame rfl,
      hread (fun u => u.proof.keyLevel) rfl, hread State.stalled rfl⟩
  have hstore : StoreStands s e'.s := hread (fun u => { u.store with state := s.store.state }) rfl
  have hlinesStand : LinesStand s e'.s := ⟨hread State.lines rfl, hlines⟩
  have hcore (b : BayIx) : (e'.s.settle.bay b).core
      = { (s.bay b).core with hold := if s.commandAccepts a bays b then v else (s.bay b).hold } := by
    rw [State.settle_core, hbay]; rfl
  have hdone := State.request_station hadmits (ownerBayCommand_event hoperand hmode)
    (run_of_runs hruns (Nat.le_trans (length_membersOf bays) (by decide))) (hread State.station rfl)
    (by rw [hresult]; exact commandResult_authority s a bays)
  rw [hresult, hcontent] at hdone
  refine ⟨_, hdone, ⟨stationDone_answered .bayCommand, ⟨hstands.settle.stationDone, hstore.settle.stationDone,
    hlinesStand.settle.stationDone, ?_⟩,
    ?_, ?_, hface.settle.stationDone, fun b hb => ?_⟩, ?_, ?_,
    fun b => by rw [stationDone_bay, hcore]⟩
  · rw [stationDone_signalling, State.settle_signalling]; exact hread State.signalling rfl
  · rw [stationDone_train, State.settle_train]; exact hread State.train rfl
  · rw [stationDone_supervision, State.settle_supervision]; exact hread State.supervision rfl
  · rw [stationDone_bay, Bay.body, Bay.body, hcore, hb]; rfl
  · rw [stationDone_gap, State.settle_gap]; exact hread State.gap rfl
  · exact ReleaseStands.stationDone <| ReleaseStands.settle (hread (fun u => { u.release with alarm := s.release.alarm }) rfl)

/-- Settles O41: HOLD and FREE are one event, with the value that each gives the hold. -/
theorem holdAndFreeSetTheHold : Obligations.HoldAndFreeSetTheHold := by
  intro body s bays
  refine ⟨fun hadmits hoperand => ?_, fun hadmits hoperand => ?_⟩
  · obtain ⟨t, ht, hanswered, hgap, hrelease, hcore⟩ := State.request_setsHold .hold hadmits hoperand
    refine ⟨t, congrArg Host.Outcome.next ht, hanswered, hgap, hrelease, fun b => ?_⟩
    rw [hcore b]
    cases s.commandAccepts .hold bays b <;> simp
  · obtain ⟨t, ht, hanswered, hgap, hrelease, hcore⟩ := State.request_setsHold .free hadmits hoperand
    refine ⟨t, congrArg Host.Outcome.next ht, hanswered, hgap, hrelease, fun b => ?_⟩
    rw [hcore b]
    cases s.commandAccepts .free bays b <;> simp

end Sys2Proof.Machine
end

section
/-! The tasks that form presence and gap results and move no bay. -/

namespace Sys2Proof.Machine

/-! ### Tasks that move no bay -/

/-- Of the state s only presence states, the gap result, the queue and the stall have changed. -/
structure PresenceOnly (s t : State) : Prop where
  rest : { t with bays := s.bays, gap := s.gap, events := s.events, stalled := s.stalled } = s
  mask : t.events.mask = s.events.mask
  authority : t.events.authority = s.events.authority
  bay : ∀ c, ∃ p, t.bay c = { s.bay c with presence := p }

namespace PresenceOnly

variable {s t : State}

theorem refl (s : State) : PresenceOnly s s := ⟨rfl, rfl, rfl, fun c => ⟨(s.bay c).presence, rfl⟩⟩

theorem read (h : PresenceOnly s t) {α : Type} (f : State → α)
    (hf : f { t with bays := s.bays, gap := s.gap, events := s.events, stalled := s.stalled } = f t) : f t = f s :=
  hf.symm.trans (congrArg f h.rest)

/-- A field of a bay that is not its presence. -/
theorem field (h : PresenceOnly s t) {α : Type} (f : Bay → α) (hf : ∀ x p, f { x with presence := p } = f x) (c : BayIx) :
    f (t.bay c) = f (s.bay c) := by
  obtain ⟨p, hp⟩ := h.bay c
  rw [hp, hf]

theorem train (h : PresenceOnly s t) : t.train = s.train := h.read State.train rfl
theorem phase (h : PresenceOnly s t) (c : BayIx) : (t.bay c).phase = (s.bay c).phase := h.field Bay.phase (fun _ _ => rfl) c
theorem sliding (h : PresenceOnly s t) (c : BayIx) : t.sliding c = s.sliding c := h.read (fun u => u.sliding c) rfl

theorem formPresence (h : PresenceOnly s t) (c : BayIx) (hc : (s.bay c).phase ≠ .warning) :
    PresenceOnly s (t.formPresence c) := by
  have hbecomes := (BayBecomes.refl c t).formPresence (by rw [h.phase]; exact hc)
  refine ⟨?_, hbecomes.mask.trans h.mask, hbecomes.authority.trans h.authority, fun d => ?_⟩
  · have hrest := congrArg
      (fun u => { u with bays := s.bays, gap := s.gap, events := s.events, stalled := s.stalled }) hbecomes.rest
    exact hrest.trans h.rest
  · by_cases hd : d = c
    · subst hd
      obtain ⟨p, hp⟩ := h.bay d
      exact ⟨t.presenceNow d, by rw [hbecomes.bay, hp]⟩
    · rw [hbecomes.others d hd]
      exact h.bay d

theorem setGap (h : PresenceOnly s t) (g : GapResult) : PresenceOnly s (t.setGap g) := by
  have hbay (c : BayIx) : (t.setGap g).bay c = t.bay c := by simp only [State.bay, State.setGap_bays]
  have hmask : (t.setGap g).events.mask = t.events.mask := by cases g <;> simp [State.setGap]
  have hauthority : (t.setGap g).events.authority = t.events.authority := by cases g <;> simp [State.setGap]
  refine ⟨?_, hmask.trans h.mask, hauthority.trans h.authority, fun c => by rw [hbay]; exact h.bay c⟩
  have hrest := h.rest
  cases g <;> exact hrest

theorem gapNow (h : PresenceOnly s t) (u : State) (hu : PresenceOnly s u) (hgap : u.gap = t.gap) : u.gapNow = t.gapNow :=
  State.gapNow_congr (hu.train.trans h.train.symm) (by rw [hgap]) (fun c => by rw [hu.phase, h.phase])
    (fun c => (hu.field (fun x => x.lines.gap.level) (fun _ _ => rfl) c).trans
      (h.field (fun x => x.lines.gap.level) (fun _ _ => rfl) c).symm)

end PresenceOnly

/-- The phases in which a presence that changes has nothing to follow (spec/01 R11, spec/03 R71). -/
def Phase.calm (q : Phase) : Prop := q ≠ .warning ∧ q ≠ .closing

/-- A task that, from the state s on, moves no bay. -/
inductive Calm (s : State) : Task → Prop
  | formGap : Calm s .formGap
  | presence (c : BayIx) (h : (s.bay c).phase.calm) : Calm s (.presence c)
  | arrive (c : BayIx) (h : (s.bay c).phase.calm)
      (hquiet : s.sliding c = true → ∀ p, ({ s.bay c with presence := p } : Bay).EntersQuietly) : Calm s (.arrive c)
  | effect (c : FaultCode) : Calm s (.effect .none c)
  | fireBack (c : BayIx) (h : s.fire = false) : Calm s (.fireBack c)

/-- The gap result is as its table gives it, or its change reaches calm bays alone. -/
def GapCalm (s t : State) : Prop := GapFresh t ∨ ∀ c ∈ s.train.map, (s.bay c).phase.calm

/-- An event under way whose tasks so far have moved no bay. -/
structure CalmEvent (s : State) (e : Ev) : Prop where
  only : PresenceOnly s e.s
  starting : e.starting = false
  gap : GapCalm s e.s

theorem CalmEvent.formPresence {s : State} {e : Ev} (h : CalmEvent s e) (c : BayIx) (hc : (s.bay c).phase.calm)
    (a : List BayIx) : CalmEvent s { e with s := e.s.formPresence c, awaiting := a } := by
  have hformed := h.only.formPresence c hc.1
  refine ⟨hformed, h.starting, h.gap.imp_left (fun hfresh => ?_)⟩
  have hgap : (e.s.formPresence c).gap = e.s.gap := State.formPresence_gap _ _
  unfold GapFresh
  rw [h.only.gapNow _ hformed hgap, hgap]
  exact hfresh

/-- A calm task moves no bay, and puts none but calm tasks before the rest. -/
theorem Calm.perform {s : State} {t : Task} (ht : Calm s t) {e : Ev} (h : CalmEvent s e) :
    CalmEvent s (t.perform e).1 ∧ ∀ u ∈ (t.perform e).2, Calm s u := by
  cases ht with
  | formGap =>
    by_cases hfresh : GapFresh e.s
    · rw [Task.perform, Ev.formGap_fresh e hfresh]
      exact ⟨h, by simp⟩
    · have hcalm : ∀ c ∈ s.train.map, (s.bay c).phase.calm := h.gap.resolve_left hfresh
      have hset : e.formGap = e.setGap e.s.gapNow := by rw [Ev.formGap, if_neg (by rwa [beq_iff_eq])]
      rw [Task.perform, hset]
      refine ⟨⟨h.only.setGap _, h.starting, .inr hcalm⟩, fun u hu => ?_⟩
      obtain ⟨c, hc, rfl⟩ := List.mem_map.mp hu
      exact .presence c (hcalm c (h.only.train ▸ hc))
  | presence c hc =>
    have hformed := h.formPresence c hc e.awaiting
    have hhold : reopenHold (e.s.bay c) ((e.s.formPresence c).bay c) = false := by
      have hphase : ((e.s.formPresence c).bay c).phase ≠ .closing := by rw [hformed.only.phase]; exact hc.2
      simp [reopenHold, hphase]
    refine ⟨hformed, ?_⟩
    simp [Task.perform, Ev.presence, hhold]
  | arrive c hc hquiet =>
    have hformed := h.formPresence c hc (e.awaiting.filter (· != c))
    by_cases hawaiting : c ∈ e.awaiting
    · have harrive : e.arrive c = ({ e with s := e.s.formPresence c, awaiting := e.awaiting.filter (· != c) }, []) := by
        rw [Ev.arrive_of_running e c hawaiting h.starting]
        split
        · next hsliding =>
          obtain ⟨p, hp⟩ := hformed.only.bay c
          exact Ev.entryChecks_quiet _ c (hp ▸ hquiet (hformed.only.sliding c ▸ hsliding) p)
        · rfl
      rw [Task.perform, harrive]
      exact ⟨hformed, by simp⟩
    · rw [Task.perform, Ev.arrive_of_not_awaiting e c hawaiting]
      exact ⟨h, by simp⟩
  | effect c => exact ⟨h, by simp [Task.perform, Ev.effect]⟩
  | fireBack c hfire =>
    have hclear : e.s.fire = false := (h.only.read State.fire rfl).trans hfire
    have hback : e.fireBack c = (e, []) := by simp [Ev.fireBack, hclear]
    rw [Task.perform, hback]
    exact ⟨h, by simp⟩

/-- Calm tasks move no bay, whether or not they come to their end within the bound. -/
theorem run_calm {s : State} (n : Nat) (ts : List Task) (e : Ev) (h : CalmEvent s e) (hts : ∀ t ∈ ts, Calm s t) :
    PresenceOnly s (run n ts e).s := by
  induction n generalizing ts e with
  | zero =>
    cases ts with
    | nil => exact h.only
    | cons t ts => exact ⟨h.only.rest, h.only.mask, h.only.authority, h.only.bay⟩
  | succ n ih =>
    cases ts with
    | nil => exact h.only
    | cons t ts =>
      obtain ⟨hnext, hnew⟩ := (hts t (by simp)).perform h
      refine ih _ _ hnext (fun u hu => ?_)
      rcases List.mem_append.mp hu with hu | hu
      · exact hnew u hu
      · exact hts u (List.mem_cons_of_mem t hu)

/-- Where only one bay has changed since the gap result was as its table gives it, either the result still is so, or every
other map member is CLOSED_LOCKED: no bay but the members' last one makes or breaks the scan condition (spec/03 R76). -/
theorem GapFresh.calm {s t : State} {b : BayIx} (h : GapFresh s) (htrain : t.train = s.train) (hgap : t.gap = s.gap)
    (hothers : ∀ c, c ≠ b → (t.bay c).phase = (s.bay c).phase) (hb : (t.bay b).phase.calm) : GapCalm t t := by
  have calmOf {c : BayIx} (hc : (t.bay c).phase = .closedLocked) : (t.bay c).phase.calm := by
    rw [hc]; exact ⟨nofun, nofun⟩
  by_cases hcondition : t.scanCondition = true
  · right
    intro c hc
    simp only [State.scanCondition, Bool.and_eq_true, List.all_eq_true, beq_iff_eq] at hcondition
    exact calmOf (hcondition.2 c hc)
  · have hnone : t.scanCondition = false := by simpa using hcondition
    by_cases hbefore : s.scanCondition = true
    · right
      intro c hc
      simp only [State.scanCondition, Bool.and_eq_true, List.all_eq_true, beq_iff_eq] at hbefore
      by_cases hcb : c = b
      · exact hcb ▸ hb
      · exact calmOf ((hothers c hcb).trans (hbefore.2 c (htrain ▸ hc)))
    · left
      have hbefore' : s.scanCondition = false := by simpa using hbefore
      have hstood : s.gap.result = .none ∨ s.gap.result = .pending := by
        rcases hresult : s.gap.result <;> simp_all [GapFresh, State.gapNow]
      rcases hstood with hr | hr <;> simp [GapFresh, State.gapNow, hgap, hr, hnone]

end Sys2Proof.Machine
end

section
/-! WRITE_BAY (spec/01 R2). -/

namespace Sys2Proof.Machine

/-! ### What an event that restarts a bay has changed so far -/

/-- Of the state s only the event queue, the records of the release log and bay b have changed, and the bay has become x. -/
structure BayRestarted (b : BayIx) (s : State) (x : Bay) (t : State) : Prop where
  rest : { t with bays := s.bays, events := s.events
                  release := { t.release with log := s.release.log, nextNumber := s.release.nextNumber } } = s
  mask : t.events.mask = s.events.mask
  authority : t.events.authority = s.events.authority
  others : ∀ c, c ≠ b → t.bay c = s.bay c
  bay : t.bay b = x

theorem BayBecomes.restarted {b : BayIx} {s t : State} {x : Bay} (h : BayBecomes b s x t) : BayRestarted b s x t :=
  have hlog := congrArg (fun u : State => { u with
    release := { u.release with log := s.release.log, nextNumber := s.release.nextNumber } }) h.rest
  ⟨hlog, h.mask, h.authority, h.others, h.bay⟩

theorem State.makeLogRoom_same (s : State) :
    { s.makeLogRoom with events := s.events, release := { s.makeLogRoom.release with log := s.release.log } } = s := by
  unfold State.makeLogRoom
  repeat' split
  all_goals rfl

theorem State.makeLogRoom_mask (s : State) : s.makeLogRoom.events.mask = s.events.mask := by
  unfold State.makeLogRoom
  repeat' split
  all_goals simp

theorem State.makeLogRoom_authority (s : State) : s.makeLogRoom.events.authority = s.events.authority := by
  unfold State.makeLogRoom
  repeat' split
  all_goals simp

/-- Opening a record changes the records of the log and the queue alone (spec/05 R96 to R99). -/
theorem BayRestarted.openRecord {b : BayIx} {s t : State} {x : Bay} (h : BayRestarted b s x t) (k : ReleaseKind)
    (c : Option BayIx) (f : Option FireSource) : BayRestarted b s x (t.openRecord k c f) := by
  have hbay (d : BayIx) : (t.openRecord k c f).bay d = t.bay d := by simp only [State.bay, State.openRecord_bays]
  have hmask : (t.openRecord k c f).events.mask = t.events.mask := by
    cases k <;> simp [State.openRecord, State.makeLogRoom_mask]
  have hauthority : (t.openRecord k c f).events.authority = t.events.authority := by
    cases k <;> simp [State.openRecord, State.makeLogRoom_authority]
  have hroom := congrArg (fun u : State => { u with
    bays := s.bays, events := s.events
    release := { u.release with log := s.release.log, nextNumber := s.release.nextNumber } }) t.makeLogRoom_same
  refine ⟨?_, hmask.trans h.mask, hauthority.trans h.authority, fun d hd => (hbay d).trans (h.others d hd),
    (hbay b).trans h.bay⟩
  cases k <;> exact hroom.trans h.rest

namespace BayRestarted

variable {b : BayIx} {s t : State} {x : Bay}

theorem read (h : BayRestarted b s x t) {α : Type} (f : State → α)
    (hf : f { t with bays := s.bays, events := s.events
                     release := { t.release with log := s.release.log, nextNumber := s.release.nextNumber } } = f t) :
    f t = f s := hf.symm.trans (congrArg f h.rest)

theorem stands (h : BayRestarted b s x t) (htrace : x.trace = (s.bay b).trace) : Stands s t :=
  { power := h.read State.power rfl
    uptime := h.read State.uptime rfl
    area := h.read (fun u => u.store.area) rfl
    frozen := h.read (fun u => u.store.frozen) rfl
    pending := h.read State.pending rfl
    restartCause := h.read (fun u => u.mode.restartCause) rfl
    restartAccepted := h.read (fun u => u.mode.restartAccepted) rfl
    mask := h.mask
    authority := h.authority
    trace := fun c => by
      by_cases hc : c = b
      · subst hc; rw [h.bay, htrace]
      · rw [h.others c hc]
    freeCount := h.read State.freeCount rfl }

theorem linesStand (h : BayRestarted b s x t) (hlines : x.lines = (s.bay b).lines) : LinesStand s t := by
  refine ⟨h.read State.lines rfl, fun c => ?_⟩
  by_cases hc : c = b
  · subst hc; rw [h.bay, hlines]
  · rw [h.others c hc]

end BayRestarted

theorem Stands.trans {s t u : State} (h : Stands s t) (k : Stands t u) : Stands s u :=
  ⟨k.power.trans h.power, k.uptime.trans h.uptime, k.area.trans h.area, k.frozen.trans h.frozen, k.pending.trans h.pending,
    k.restartCause.trans h.restartCause, k.restartAccepted.trans h.restartAccepted, k.mask.trans h.mask,
    k.authority.trans h.authority, fun b => (k.trace b).trans (h.trace b), k.freeCount.trans h.freeCount⟩

theorem PresenceOnly.stands {s t : State} (h : PresenceOnly s t) : Stands s t :=
  { power := h.read State.power rfl
    uptime := h.read State.uptime rfl
    area := h.read (fun u => u.store.area) rfl
    frozen := h.read (fun u => u.store.frozen) rfl
    pending := h.read State.pending rfl
    restartCause := h.read (fun u => u.mode.restartCause) rfl
    restartAccepted := h.read (fun u => u.mode.restartAccepted) rfl
    mask := h.mask
    authority := h.authority
    trace := h.field Bay.trace (fun _ _ => rfl)
    freeCount := h.read State.freeCount rfl }

theorem PresenceOnly.linesStand {s t : State} (h : PresenceOnly s t) : LinesStand s t :=
  ⟨h.read State.lines rfl, h.field Bay.lines (fun _ _ => rfl)⟩

/-! ### The derived phase -/

/-- No bay is derived in a moving phase (spec/01 R23). -/
theorem derivedPhase_calm (k : BayKind) (l : BayLines) : (derivedPhase k l).calm := by
  cases k <;> simp only [derivedPhase, Phase.calm] <;> repeat' split
  all_goals simp

/-- At rest, a bay has its proofs and its conflict to check at entry, and no more. -/
theorem Bay.entersQuietly_atRest {x : Bay} (hrest : x.phase.isMoving = false) (hproof : x.proofNext = none)
    (hconflict : (x.phase.raisesConflict && x.lines.conflict) = false) : x.EntersQuietly := by
  have hne {q : Phase} (hq : q.isMoving = true) : (x.phase == q) = false := by
    rw [beq_eq_false_iff_ne]
    rintro rfl
    exact absurd hrest (by simp [hq])
  exact ⟨hproof, by simp [hne (q := .reopening) rfl], by simp [hne (q := .closing) rfl], by simp [hrest], hconflict⟩

/-- A SLIDING bay in its derived phase has no check to make at entry. -/
theorem Bay.entersQuietly_derived (x : Bay) (h : x.phase = derivedPhase .sliding x.lines) : x.EntersQuietly := by
  simp only [derivedPhase] at h
  split at h
  · exact Bay.entersQuietly_atRest (by simp [h, Phase.isMoving]) (by simp [Bay.proofNext, h]) (by simp [h, Phase.raisesConflict])
  split at h
  · exact x.entersQuietly_faulted h
  next hconflict =>
  have hnone : x.lines.conflict = false := by simpa using hconflict
  split at h
  · exact Bay.entersQuietly_atRest (by simp [h, Phase.isMoving]) (by simp [Bay.proofNext, h]) (by simp [hnone])
  next hproofs =>
  split at h
  · next hclosed =>
    have hlocked : x.lines.locked.level = false := by simpa [hclosed] using hproofs
    exact Bay.entersQuietly_atRest (by simp [h, Phase.isMoving]) (by simp [Bay.proofNext, h, hlocked]) (by simp [hnone])
  · next hclosed =>
    exact Bay.entersQuietly_atRest (by simp [h, Phase.isMoving]) (by simp [Bay.proofNext, h, hclosed]) (by simp [hnone])

/-- The tasks of a bay that has been derived, where PROOF_CONFLICT hands no platform effect on. -/
def derivedTasks (b : BayIx) : List Task := [.effect .none .proofConflict, .formGap, .arrive b, .fireBack b]

/-- A bay whose movement and counts have ended. -/
def Bay.atRest (x : Bay) : Bay := { x with movement := .none, retry := 0, reclose := 0 }

theorem BayBecomes.takeDerivedConflict {b : BayIx} {s : State} {x : Bay} {e : Ev} (h : BayBecomes b s x e.s) :
    ∃ f, BayBecomes b s { x with frame := f } (e.takeDerivedConflict b).s := by
  simp only [Ev.takeDerivedConflict, Ev.on_s, State.setFrame, h.bay]
  exact ⟨_, (h.setBay _).post _ _ _⟩

/-- A bay takes its derived phase; its frame is written only where that phase is FAULTED (spec/01 R23). -/
theorem BayBecomes.derive {b : BayIx} {s : State} {x : Bay} {e : Ev} (h : BayBecomes b s x e.s)
    (heffect : (s.response .proofConflict).platformEffect = .none) :
    ∃ f, BayRestarted b s { x.atRest.enter (s.bayRecord b) s.platform (derivedPhase (s.kind b) x.lines) with frame := f }
        (e.derive b).1.s
      ∧ (derivedPhase (s.kind b) x.lines ≠ .faulted → f = x.frame)
      ∧ (e.derive b).1.starting = e.starting ∧ ∀ u ∈ (e.derive b).2, u ∈ derivedTasks b := by
  have hentered := (h.onBay Bay.atRest).enter (derivedPhase (s.kind b) x.lines)
  simp only [Ev.derive, h.kind, h.bay, h.response, heffect]
  rcases hq : derivedPhase (s.kind b) x.lines <;> rw [hq] at hentered
  case released =>
    dsimp only
    refine ⟨x.frame, ?_, fun _ => rfl, ?_, by simp [derivedTasks, Sys2Proof.Machine.entered]⟩
    · split
      · exact hentered.restarted
      · exact hentered.restarted.openRecord _ _ _
    · split <;> rfl
  case faulted =>
    obtain ⟨f, htaken⟩ := hentered.takeDerivedConflict
    exact ⟨f, htaken.restarted, fun hne => absurd rfl hne, rfl, by simp [derivedTasks, Sys2Proof.Machine.entered]⟩
  all_goals exact ⟨x.frame, hentered.restarted, fun _ => rfl, rfl, by simp [derivedTasks, Sys2Proof.Machine.entered]⟩

/-! ### The runtime part starts again -/

/-- A bay as WRITE_BAY of a new kind starts it again, before its phase (spec/01 R2, spec/03 R74). -/
def Bay.startedAgain (x : Bay) : Bay :=
  { x with movement := .none, retry := 0, reclose := 0, hold := true, gapStuck := false, curtainStuck := false
           gapStuckTimer := none, curtainStuckTimer := none }

theorem BayBecomes.clearFrame {b : BayIx} {s t : State} {x : Bay} (h : BayBecomes b s x t) (c : ClearCause) :
    BayBecomes b s { x with frame := x.frame.clear } (t.clearFrame c b) := by
  simp only [State.clearFrame, State.setFrame, h.bay]
  exact (h.setBay _).post _ _ _

/-- The frame of a bay started again: a FAULTED bay's is cleared (spec/07 R141). -/
def Bay.frameAgain (x : Bay) : Frame := if x.phase = .faulted then x.frame.clear else x.frame

/-- The frame of a FAULTED bay is cleared for a change of its kind. -/
def Ev.clearForKind (e : Ev) (b : BayIx) : Ev :=
  if (e.s.bay b).phase == .faulted then e.on (fun s => s.clearFrame .kindChange b) else e

theorem Ev.clearForKind_starting (e : Ev) (b : BayIx) : (e.clearForKind b).starting = e.starting := by
  unfold Ev.clearForKind
  split <;> rfl

theorem Ev.restartBay_eq (e : Ev) (b : BayIx) :
    e.restartBay b = if ((e.clearForKind b).onBay b Bay.startedAgain).s.kind b != .absent
      then ((e.clearForKind b).onBay b Bay.startedAgain).derive b
      else (((e.clearForKind b).onBay b Bay.startedAgain).enter b .notFitted, Sys2Proof.Machine.entered b) := rfl

theorem BayBecomes.clearForKind {b : BayIx} {s : State} {x : Bay} {e : Ev} (h : BayBecomes b s x e.s) :
    BayBecomes b s { x with frame := x.frameAgain } (e.clearForKind b).s := by
  simp only [Ev.clearForKind, h.bay, Bay.frameAgain, beq_iff_eq]
  by_cases hfaulted : x.phase = .faulted
  · rw [if_pos hfaulted, if_pos hfaulted]
    exact h.clearFrame .kindChange
  · rw [if_neg hfaulted, if_neg hfaulted]
    exact h

/-- A bay whose kind has changed starts again in its derived phase, or NOT_FITTED (spec/01 R2). -/
theorem BayBecomes.startAgain {b : BayIx} {s : State} {x : Bay} {e : Ev} (h : BayBecomes b s x e.s)
    (heffect : (s.response .proofConflict).platformEffect = .none) :
    ∃ f, BayRestarted b s { x.startedAgain.enter (s.bayRecord b) s.platform (derivedPhase (s.kind b) x.lines) with frame := f }
        (e.restartBay b).1.s
      ∧ (derivedPhase (s.kind b) x.lines ≠ .faulted → f = x.frameAgain)
      ∧ (e.restartBay b).1.starting = e.starting ∧ ∀ u ∈ (e.restartBay b).2, u ∈ derivedTasks b := by
  have hagain := h.clearForKind.onBay Bay.startedAgain
  rw [Ev.restartBay_eq, hagain.kind]
  split
  · obtain ⟨f, hderived, hframe, hstarting, htasks⟩ := hagain.derive heffect
    exact ⟨f, hderived, hframe, hstarting.trans (e.clearForKind_starting b), htasks⟩
  · next hfitted =>
    have habsent : s.kind b = .absent := by simpa using hfitted
    rw [habsent]
    exact ⟨x.frameAgain, (hagain.enter .notFitted).restarted, fun _ => rfl, e.clearForKind_starting b,
      by simp [derivedTasks, Sys2Proof.Machine.entered]⟩

/-- While no fire latch holds, the tasks of a bay in its derived phase move no bay. -/
theorem BayRestarted.run_derived {b : BayIx} {s : State} {x : Bay} {e : Ev} {ts : List Task} (n : Nat)
    (h : BayRestarted b s x e.s) (hphase : x.phase = derivedPhase (s.kind b) x.lines) (hgap : GapFresh s)
    (hfire : s.fire = false) (hstarting : e.starting = false) (hts : ∀ u ∈ ts, u ∈ derivedTasks b) :
    PresenceOnly e.s (run n ts e).s := by
  have hcalm : (e.s.bay b).phase.calm := by
    rw [h.bay, hphase]
    exact derivedPhase_calm _ _
  have hquiet (hsliding : e.s.sliding b = true) (p : Presence) :
      ({ e.s.bay b with presence := p } : Bay).EntersQuietly := by
    have hkind : s.kind b = .sliding := beq_iff_eq.mp ((h.read (fun u => u.sliding b) rfl).symm.trans hsliding)
    rw [hkind] at hphase
    exact Bay.entersQuietly_derived _ (by rw [h.bay]; exact hphase)
  refine run_calm n ts e ⟨.refl e.s, hstarting, hgap.calm (h.read State.train rfl) (h.read State.gap rfl)
    (fun c hc => congrArg Bay.phase (h.others c hc)) hcalm⟩ (fun u hu => ?_)
  have hu' := hts u hu
  simp only [derivedTasks, List.mem_cons, List.not_mem_nil, or_false] at hu'
  rcases hu' with rfl | rfl | rfl | rfl
  · exact .effect _
  · exact .formGap
  · exact .arrive b hcalm hquiet
  · exact .fireBack b ((h.read State.fire rfl).trans hfire)

/-! ### The write -/

/-- A store that is not suspended is not resumed by the end of an event. -/
theorem State.settle_store_same (s : State) (h : s.store.state ≠ .suspended) : s.settle.store = s.store := by
  have hproof := congrArg State.store s.resumeStore.watchStuck.formAlarm.formProof_same
  have hwatch := congrArg State.store s.resumeStore.watchStuck_same
  have hresume : s.resumeStore = s := by simp [State.resumeStore, h]
  dsimp only at hproof hwatch
  rw [State.settle_eq, State.formPins_store, hproof, State.formAlarm_store, hwatch, hresume]

theorem State.storeRefusal_none {s : State} (h : s.storeRefusal = none) : s.store.state ≠ .suspended := by
  intro hsuspended
  simp only [State.storeRefusal, Store.busy, hsuspended] at h
  repeat' split at h
  all_goals simp_all

theorem ownerWriteBay_read {s : State} {body : List Byte} {b : BayIx} {r : BayRecord} (hmark : s.store.area.mark = false)
    (hstore : s.storeRefusal = none) (hoperand : bayOperand body = some (b, r)) :
    ownerWriteBay body s
      = if s.bayConflict b r then .refuse s .conflict else .event s (fun e => e.writeBay b r) doneReply := by
  simp [ownerWriteBay, State.writeBayRefusal, hmark, hstore, hoperand]

/-- The state of an accepted WRITE_BAY once the record is replaced. -/
def State.bayWritten (s : State) (b : BayIx) (r : BayRecord) : State := (s.takeFrame .station).setBayRecord b r

theorem State.bayWritten_stands (s : State) (b : BayIx) (r : BayRecord) : Stands s (s.bayWritten b r) :=
  ⟨rfl, rfl, rfl, rfl, rfl, rfl, rfl, rfl, rfl, fun _ => rfl, rfl⟩

theorem State.bayWritten_kind (s : State) (b : BayIx) (r : BayRecord) : (s.bayWritten b r).kind b = r.kind := by
  simp [State.bayWritten, State.setBayRecord, State.setWorking, State.kind, State.bayRecord]

theorem State.bayWritten_record (s : State) (b : BayIx) (r : BayRecord) : (s.bayWritten b r).bayRecord b = r := by
  simp [State.bayWritten, State.setBayRecord, State.setWorking, State.bayRecord]

theorem State.bayWritten_gapFresh {s : State} (h : GapFresh s) (b : BayIx) (r : BayRecord) : GapFresh (s.bayWritten b r) :=
  (State.gapNow_congr rfl rfl (fun _ => rfl) (fun _ => rfl)).trans h

theorem Ev.writeBay_start (s : State) (b : BayIx) (r : BayRecord) :
    (Ev.start (s.takeFrame .station)).writeBay b r
      = if r.kind != s.kind b then (Ev.start (s.bayWritten b r)).restartBay b else (Ev.start (s.bayWritten b r), []) := rfl

/-- What stands beside the bay once its restart has run. -/
theorem PresenceOnly.afterRestart {b : BayIx} {s t u : State} {x : Bay} (h : PresenceOnly t u) (ht : BayRestarted b s x t)
    (htrace : x.trace = (s.bay b).trace) (hlines : x.lines = (s.bay b).lines) :
    Stands s u ∧ LinesStand s u ∧ OthersStand b s u := by
  obtain ⟨hgeneral, hbays⟩ := h.linesStand
  obtain ⟨hgeneral', hbays'⟩ := ht.linesStand hlines
  refine ⟨(ht.stands htrace).trans h.stands, ⟨hgeneral.trans hgeneral', fun c => (hbays c).trans (hbays' c)⟩, fun c hc => ?_⟩
  rw [h.field Bay.body (fun _ _ => rfl), ht.others c hc]

/-- The written bay as it starts again with its new record, but for its presence. -/
def State.bayAgain (s : State) (b : BayIx) (r : BayRecord) (f : Frame) : Bay :=
  { (s.bay b).startedAgain.enter r s.platform (derivedPhase r.kind (s.bay b).lines) with frame := f }

/-- An accepted WRITE_BAY of a new kind, run to the end of its tasks. -/
theorem State.bayWritten_restarts {s : State} {b : BayIx} {r : BayRecord} (hkind : r.kind ≠ s.kind b)
    (hfire : s.fire = false) (heffect : (s.response .proofConflict).platformEffect = .none) (hgap : GapFresh s) :
    ∃ e' f p, run Config.eventBound ((Ev.start (s.takeFrame .station)).writeBay b r).2
        ((Ev.start (s.takeFrame .station)).writeBay b r).1 = e'
      ∧ Stands s e'.s ∧ LinesStand s e'.s ∧ OthersStand b s e'.s ∧ e'.s.store = (s.bayWritten b r).store
      ∧ e'.s.station = (s.takeFrame .station).station ∧ e'.s.bay b = { s.bayAgain b r f with presence := p }
      ∧ (derivedPhase r.kind (s.bay b).lines ≠ .faulted → f = (s.bay b).frameAgain) := by
  obtain ⟨f, hagain, hframe, hstarting, htasks⟩ :=
    (BayBecomes.refl b (Ev.start (s.bayWritten b r)).s).startAgain heffect
  have honly := hagain.run_derived Config.eventBound rfl (State.bayWritten_gapFresh hgap b r) hfire hstarting htasks
  obtain ⟨hstands, hlines, hothers⟩ := honly.afterRestart hagain rfl rfl
  obtain ⟨p, hp⟩ := honly.bay b
  rw [hagain.bay] at hp
  simp only [Ev.start_s, s.bayWritten_kind, s.bayWritten_record] at hp hframe
  rw [Ev.writeBay_start, if_pos (by simpa using hkind)]
  generalize run Config.eventBound _ _ = e' at *
  exact ⟨e', f, p, rfl, (s.bayWritten_stands b r).trans hstands, hlines, hothers,
    (honly.read State.store rfl).trans (hagain.read State.store rfl),
    (honly.read State.station rfl).trans (hagain.read State.station rfl), hp, hframe⟩

/-- Settles O51: a new kind runs its tasks with no bay but the written one touched, presence apart. -/
theorem writeBayReplacesTheRecord : Obligations.WriteBayReplacesTheRecord := by
  intro body s b r hadmits hmark hstore hoperand
  have howner := ownerWriteBay_read (s := s.takeFrame .station) hmark hstore hoperand
  refine ⟨fun hconflict => ?_, fun hconflict hfire hhands hgap => ?_⟩
  · have hconflict' : (s.takeFrame .station).bayConflict b r = true := hconflict
    rw [if_pos hconflict'] at howner
    have hcarried := Answer.carryOut_station s (.refuse (s.takeFrame .station) .conflict) RequestKind.writeBay.code
      (by rw [Answer.outcome_refuse]; rfl) rfl rfl
    rw [exec_request (k := .writeBay) rfl, ownerOf, State.request_admits _ _ _ _ _ hadmits, howner, hcarried,
      Answer.outcome_refuse]
    rfl
  · have hconflict' : (s.takeFrame .station).bayConflict b r = false := hconflict
    rw [if_neg (by simp [hconflict'])] at howner
    have hkept : (s.bayWritten b r).store.state ≠ .suspended := State.storeRefusal_none hstore
    rw [exec_request (k := .writeBay) rfl, ownerOf]
    by_cases hkind : r.kind = s.kind b
    · have hstart := Ev.writeBay_start s b r
      rw [if_neg (by simp [hkind])] at hstart
      have hdone := State.request_station (e' := Ev.start (s.bayWritten b r)) hadmits howner
        ((congrArg (fun p => run Config.eventBound p.2 p.1) hstart).trans (run_nil _ _)) rfl rfl
      have hface : FaceStands s (s.bayWritten b r) := ⟨rfl, rfl, rfl, rfl⟩
      refine ⟨_, congrArg Host.Outcome.next hdone, stationDone_answered .writeBay,
        stationDone_store.trans (State.settle_store_same _ hkept),
        fun _ => ⟨⟨?_, ?_, fun c => ?_, ⟨?_, ?_⟩, ?_, ?_, ?_⟩, ?_⟩,
        fun hne => absurd hkind hne⟩
      · exact (s.bayWritten_stands b r).settle.stationDone
      · rw [stationDone_signalling, State.settle_signalling]; rfl
      · rw [stationDone_bay, State.settle_core]; rfl
      · rw [stationDone_train, State.settle_train]; rfl
      · rw [stationDone_gap, State.settle_gap]; rfl
      · exact ReleaseStands.stationDone (ReleaseStands.settle rfl)
      · exact FaceStands.stationDone (FaceStands.settle hface)
      · rw [stationDone_supervision, State.settle_supervision]; rfl
      · exact LinesStand.stationDone (LinesStand.settle ⟨rfl, fun _ => rfl⟩)
    · obtain ⟨e', f, p, hrun, hstands, hlines, hothers, hstored, hstation, hbay, hframe⟩ :=
        State.bayWritten_restarts hkind hfire (hhands .proofConflict (by simp [FaultCode.bayCodes])) hgap
      have hdone := State.request_station hadmits howner hrun hstation rfl
      have field {α : Type} (g : Bay → α) (hg : ∀ x, g x.core = g x) :
          g (e'.s.settle.bay b) = g { s.bayAgain b r f with presence := p } := by rw [State.settle_field g hg, hbay]
      have hphase := field Bay.phase (fun _ => rfl)
      refine ⟨_, congrArg Host.Outcome.next hdone, stationDone_answered .writeBay, ?_, fun heq => absurd heq hkind, fun _ => ?_⟩
      · rw [stationDone_store, State.settle_store_same _ (by rw [hstored]; exact hkept), hstored]
        rfl
      simp only [stationDone_bay]
      refine ⟨hphase, (field Bay.movement (fun _ => rfl)).trans (ite_self _), (field Bay.retry (fun _ => rfl)).trans (ite_self _),
        (field Bay.reclose (fun _ => rfl)).trans (ite_self _), field Bay.hold (fun _ => rfl), field Bay.trace (fun _ => rfl),
        field Bay.gapStuck (fun _ => rfl), field Bay.curtainStuck (fun _ => rfl), fun hfaulted hne => ?_,
        hstands.settle.stationDone, LinesStand.stationDone (LinesStand.settle hlines), fun c hc => ?_⟩
      · rw [hphase] at hne
        exact (field Bay.frame (fun _ => rfl)).trans ((hframe hne).trans (if_pos hfaulted))
      · rw [stationDone_bay, State.settle_body, hothers c hc]

end Sys2Proof.Machine
end

section
/-! A map with no bound: the statements that it refutes. Nothing in them bounds the opening map (`MapLaw` would), and a change
of the gap result has one presence task for each of its entries. A map longer than `Config.eventBound` stalls the event. -/

namespace Sys2Proof.Machine

/-! ### Events that do not end -/

/-- The event's tasks do not come to their end within the bound. -/
def Endless (ts : List Task) (e : Ev) : Prop := ∀ n ≤ Config.eventBound, (run n ts e).s.stalled = true

theorem run_stalled_of_lt (n : Nat) (ts : List Task) (e : Ev) (h : n < ts.length) : (run n ts e).s.stalled = true := by
  induction n generalizing ts e with
  | zero =>
    cases ts with
    | nil => simp at h
    | cons t ts => rfl
  | succ n ih =>
    cases ts with
    | nil => simp at h
    | cons t ts =>
      rw [run_cons]
      refine ih _ _ ?_
      simp only [List.length_cons, List.length_append] at h ⊢
      omega

theorem Endless.of_length {ts : List Task} (h : Config.eventBound < ts.length) (e : Ev) : Endless ts e :=
  fun n hn => run_stalled_of_lt n ts e (Nat.lt_of_le_of_lt hn h)

theorem Endless.cons {t : Task} {ts : List Task} {e : Ev} (h : Endless ((t.perform e).2 ++ ts) (t.perform e).1) :
    Endless (t :: ts) e := by
  intro n hn
  cases n with
  | zero => rfl
  | succ n => exact h n (Nat.le_of_succ_le hn)

/-- A gap result that changes while the map is longer than the bound. -/
theorem Endless.entered {e : Ev} {b : BayIx} (ts : List Task) (h : e.s.gapNow ≠ e.s.gap.result)
    (hmap : Config.eventBound < e.s.train.map.length) : Endless (Sys2Proof.Machine.entered b ++ ts) e := by
  have hset : e.formGap = e.setGap e.s.gapNow := by rw [Ev.formGap, if_neg (by rwa [beq_iff_eq])]
  refine .cons (.of_length ?_ _)
  rw [Task.perform, hset, Ev.setGap, List.length_append, List.length_map]
  omega

/-- A fault whose answer leaves such an entry. -/
theorem Endless.raise {b : BayIx} {s : State} {x : Bay} {e : Ev} (ts : List Task) (h : BayBecomes b s x e.s) (c : FaultCode)
    (d : Nat) (hfaults : Faults s b c) (hphase : x.phase ≠ .faulted) (hmovement : x.movement = (s.bay b).movement)
    (hretry : x.retry = (s.bay b).retry) (hmap : Config.eventBound < s.train.map.length)
    (hgap : ∀ t y, BayBecomes b s y t → y.phase = .faulted → t.gapNow ≠ t.gap.result) : Endless (.raise b c d :: ts) e := by
  have hentered := (h.writeFrame c d .active .faulted).enter .faulted
  have hlong : Config.eventBound < ((e.writeFrame b c d .active .faulted).enter b .faulted).s.train.map.length := by
    rw [hentered.train]
    exact hmap
  refine .cons ?_
  rw [Task.perform, Ev.raise_faults h c d hfaults hphase hmovement hretry]
  exact .cons (.entered _ (hgap _ _ hentered rfl) hlong)

theorem State.event_stalled {s : State} {f : Ev → Ev × List Task} (h : Endless (f (Ev.start s)).2 (f (Ev.start s)).1) :
    (s.event f).stalled = true := by
  rw [State.event, Ev.finish, Ev.on_s, State.settle_stalled]
  exact h Config.eventBound (Nat.le_refl _)

/-! ### The state that refutes -/

/-- Every bay is of kind k with the runtime part x, and the map, CLOSING, names bay 0 n times over. -/
def crowded (n : Nat) (k : BayKind) (x : Bay) (g : GapResult) : State :=
  { State.reset with
    mode := { ModeControl.reset with mode := .service }
    bays := Vector.replicate 24 x
    store := { Store.reset with
      working := { Records.defaults with bays := Vector.replicate 24 { BayRecord.defaults with kind := k } } }
    gap := { result := g, timer := none }
    train := { Train.reset with state := .closing, map := List.replicate n 0 } }

section

variable {n : Nat} {k : BayKind} {x : Bay} {g : GapResult}

@[simp] theorem crowded_bay (b : BayIx) : (crowded n k x g).bay b = x := by simp [crowded, State.bay]

@[simp] theorem crowded_kind {b : BayIx} : (crowded n k x g).kind b = k := by simp [crowded, State.kind, State.bayRecord]

@[simp] theorem crowded_gap : (crowded n k x g).gap.result = g := rfl
@[simp] theorem crowded_stalled : (crowded n k x g).stalled = false := rfl

theorem crowded_map_length : (crowded n k x g).train.map.length = n := List.length_replicate

/-- The scan condition of such a map is that its one bay is CLOSED_LOCKED. -/
theorem scanCondition_crowded {t : State} (hn : n ≠ 0) (h : t.train = (crowded n k x g).train) :
    t.scanCondition = ((t.bay 0).phase == .closedLocked) := by
  have hmap : t.train.map = List.replicate n 0 := by rw [h]; rfl
  have hstate : t.train.state = .closing := by rw [h]; rfl
  simp [State.scanCondition, hmap, hstate, List.all_replicate, hn]

theorem crowded_gapFresh_pending (hn : n ≠ 0) (hx : x.phase ≠ .closedLocked) : GapFresh (crowded n k x .pending) := by
  have hcondition := scanCondition_crowded (n := n) (k := k) (x := x) (g := .pending) hn rfl
  rw [crowded_bay, beq_eq_false_iff_ne.mpr hx] at hcondition
  simp [GapFresh, State.gapNow, hcondition]

theorem crowded_gapFresh_scanning (hn : n ≠ 0) (hx : x.phase = .closedLocked) (hgap : x.lines.gap.level = false) :
    GapFresh (crowded n k x .scanning) := by
  have hcondition := scanCondition_crowded (n := n) (k := k) (x := x) (g := .scanning) hn rfl
  have hnone : (crowded n k x .scanning).occupiedMembers = [] := by
    simp [State.occupiedMembers, hgap]
  rw [crowded_bay, hx] at hcondition
  simp [GapFresh, State.gapNow, hcondition, hnone]

/-- Its bay has come to CLOSED_LOCKED: the pending result is left. -/
theorem gapNow_crowded_locked {t : State} (hn : n ≠ 0) (htrain : t.train = (crowded n k x g).train)
    (hgap : t.gap.result = .pending) (hbay : (t.bay 0).phase = .closedLocked) : t.gapNow ≠ t.gap.result := by
  have hcondition := scanCondition_crowded hn htrain
  rw [hbay, beq_self_eq_true] at hcondition
  simp only [State.gapNow, hgap, hcondition, if_true]
  cases t.occupiedMembers.isEmpty <;> simp

/-- Its bay has left CLOSED_LOCKED: the scan is given up. -/
theorem gapNow_crowded_unlocked {t : State} (hn : n ≠ 0) (htrain : t.train = (crowded n k x g).train)
    (hgap : t.gap.result = .scanning) (hbay : (t.bay 0).phase ≠ .closedLocked) : t.gapNow ≠ t.gap.result := by
  have hcondition := scanCondition_crowded hn htrain
  rw [beq_eq_false_iff_ne.mpr hbay] at hcondition
  simp [State.gapNow, hgap, hcondition]

theorem crowded_handsNothing : BayCodesHandNothing (crowded n k x g) := by
  have htable : ∀ c ∈ FaultCode.bayCodes, (Response.table[c.number]'c.number_lt).platformEffect = .none := by decide
  exact htable

theorem crowded_filterRuns {i : BayInput} (hcandidate : (x.lines.get i).candidate.isSome = true) :
    FilterRuns (crowded n k x g) (.bay 0 i) := by
  refine ⟨rfl, rfl, ?_⟩
  simpa [State.inputLine] using hcandidate

end

end Sys2Proof.Machine
end

section
/-! The statements that an unbounded map refutes. -/

namespace Sys2Proof.Machine

/-! ### Filtered changes -/

theorem Ev.filteredChange_door {s : State} {b : BayIx} {i : BayInput} (h : s.kind b = .escape)
    (hi : i = .closed ∨ i = .locked ∨ i = .releaseKey) :
    (Ev.start s).filteredChange (.bay b i) = ((Ev.start s).on (fun u => u.changeLevel (.bay b i))).doorInput b := by
  have hkind : (s.changeLevel (.bay b i)).kind b = .escape := h
  rcases hi with rfl | rfl | rfl <;> simp [Ev.filteredChange, Ev.bayInput, hkind]

/-- The last bay of a long map comes to CLOSED_LOCKED by its input. -/
theorem Endless.locks {n : Nat} {x : Bay} {i : BayInput} (hn : Config.eventBound < n)
    (hi : i ≠ .curtain ∧ i ≠ .gap ∧ i ≠ .releaseKey)
    (haction : ({ x with lines := x.lines.changed i } : Bay).inputAction i = .enters .closedLocked) :
    Endless ((Ev.start (crowded n .sliding x .pending)).filteredChange (.bay 0 i)).2
      ((Ev.start (crowded n .sliding x .pending)).filteredChange (.bay 0 i)).1 := by
  have hchanged := BayBecomes.changeLevel (crowded n .sliding x .pending) 0 i
  rw [crowded_bay] at hchanged
  have hentered := BayBecomes.enter
    (e := (Ev.start (crowded n .sliding x .pending)).on (fun u => u.changeLevel (.bay 0 i))) hchanged .closedLocked
  rw [Ev.filteredChange_sliding i (by simp [State.sliding]) hi]
  simp only [Ev.slidingInput, Ev.on_s, Ev.start_s, hchanged.bay, haction]
  exact .entered [] (gapNow_crowded_locked (Nat.ne_zero_of_lt hn) hentered.train (congrArg GapScan.result hentered.gap)
    (congrArg Bay.phase hentered.bay)) (by rw [hentered.train, crowded_map_length]; exact hn)

/-- The bay of a long map leaves CLOSED_LOCKED by a fault of its own. -/
theorem Endless.faults {n : Nat} {k : BayKind} {x : Bay} {i : BayInput} {c : FaultCode} (d : Nat) (ts : List Task)
    (hn : Config.eventBound < n) (hfaults : Faults (crowded n k x .scanning) 0 c) (hphase : x.phase ≠ .faulted) :
    Endless (.raise 0 c d :: ts) ((Ev.start (crowded n k x .scanning)).on (fun u => u.changeLevel (.bay 0 i))) := by
  have hchanged := BayBecomes.changeLevel (crowded n k x .scanning) 0 i
  rw [crowded_bay] at hchanged
  exact .raise (x := { x with lines := x.lines.changed i }) ts hchanged c d hfaults hphase (by rw [crowded_bay]) (by rw [crowded_bay])
    (by rw [crowded_map_length]; exact hn)
    (fun t y h hy => gapNow_crowded_unlocked (Nat.ne_zero_of_lt hn) h.train (congrArg GapScan.result h.gap)
      (by rw [h.bay, hy]; nofun))

/-- A filtered change that stalls is not an event of its bay. -/
theorem not_bayEvent_of_endless {s t : State} {b : BayIx} {l : InputLine} (hstalled : s.stalled = false)
    (hfilter : FilterRuns s l) (hexec : exec (.filterHoldExpires l) s = .next t)
    (h : Endless ((Ev.start s).filteredChange l).2 ((Ev.start s).filteredChange l).1) : ¬BayEvent b s t := by
  rintro ⟨_, _, _, _, _, ⟨_, _, _, hface⟩, _⟩
  rw [exec_filterHoldExpires hfilter, Host.Outcome.next.injEq] at hexec
  rw [← hexec, State.event_stalled h, hstalled] at hface
  exact absurd hface (by decide)

/-! ### The refutations -/

/-- A map one entry longer than the bound. -/
def overlong : Nat := Config.eventBound + 1

theorem eventBound_lt_overlong : Config.eventBound < overlong := Nat.lt_succ_self _

theorem overlong_ne_zero : overlong ≠ 0 := Nat.succ_ne_zero _

/-- An input that reads active. -/
def activeLine : Line := { raw := true, level := true, candidate := none }

/-- An input that is about to change from a level. -/
def changingLine (level : Bool) : Line := { raw := !level, level := level, candidate := some (.start 0) }

/-- A bay in CLOSED_UNLOCKED, about to lock. -/
def lockingBay : Bay :=
  { Bay.reset with phase := .closedUnlocked, lines := { BayLines.reset with closed := activeLine, locked := changingLine false } }

/-- Refutes O7: the last bay of a map longer than the bound locks while the train is CLOSING, and the event stalls. -/
theorem not_proofArrivalsMoveTheBay : ¬Obligations.ProofArrivalsMoveTheBay := by
  intro h
  have hfilter := crowded_filterRuns (n := overlong) (k := .sliding) (x := lockingBay) (g := .pending) (i := .locked) rfl
  obtain ⟨_, _, _, _, hlocks⟩ := h (crowded overlong .sliding lockingBay .pending) 0 (by simp [State.sliding])
    (crowded_gapFresh_pending overlong_ne_zero nofun) (by rw [crowded_bay]; rfl)
  obtain ⟨t, hexec, _, _, _, _, _, hevent⟩ := hlocks hfilter (by rw [crowded_bay]; rfl) (by rw [crowded_bay]; rfl)
    (by rw [crowded_bay]; rfl) (by rw [crowded_bay]; rfl)
  exact not_bayEvent_of_endless crowded_stalled hfilter hexec
    (.locks eventBound_lt_overlong ⟨nofun, nofun, nofun⟩ rfl) hevent

/-- A CLOSED_LOCKED bay about to lose LOCKED. -/
def unlockingBay : Bay :=
  { Bay.reset with phase := .closedLocked, lines := { BayLines.reset with closed := activeLine, locked := changingLine true } }

/-- Refutes O9: in a map longer than the bound, being scanned, a bay loses LOCKED; the scan is given up, and the event
stalls. -/
theorem not_lostProofsFaultALockedBay : ¬Obligations.LostProofsFaultALockedBay := by
  intro h
  have hfilter := crowded_filterRuns (n := overlong) (k := .sliding) (x := unlockingBay) (g := .scanning) (i := .locked) rfl
  have hfaults : Faults (crowded overlong .sliding unlockingBay .scanning) 0 .lockLost :=
    ⟨rfl, rfl, by simp [State.retryGranted, unlockingBay, Bay.reset]⟩
  obtain ⟨hlost, _⟩ := h (crowded overlong .sliding unlockingBay .scanning) 0 (by simp [State.sliding])
    (crowded_gapFresh_scanning overlong_ne_zero rfl rfl) (by rw [crowded_bay]; rfl) (by rw [crowded_bay]; rfl)
  obtain ⟨t, hexec, _, hevent⟩ := hlost hfilter (by rw [crowded_bay]; rfl) hfaults
  refine not_bayEvent_of_endless crowded_stalled hfilter hexec ?_ hevent
  rw [Ev.filteredChange_sliding .locked (by simp [State.sliding]) ⟨nofun, nofun, nofun⟩]
  have hbay := (BayBecomes.changeLevel (crowded overlong .sliding unlockingBay .scanning) 0 .locked).bay
  rw [crowded_bay] at hbay
  have haction : ({ unlockingBay with lines := unlockingBay.lines.changed .locked } : Bay).inputAction .locked
      = .raises .lockLost 0 := rfl
  simp only [Ev.slidingInput, Ev.on_s, Ev.start_s, hbay, haction]
  exact .faults 0 _ eventBound_lt_overlong hfaults nofun

/-- A CLOSED_LOCKED door about to lose CLOSED. -/
def partingDoor : Bay :=
  { Bay.reset with phase := .closedLocked, lines := { BayLines.reset with closed := changingLine true, locked := activeLine } }

/-- Refutes O11: an ESCAPE bay of a map longer than the bound, being scanned, loses CLOSED with LOCKED active; the scan is
given up, and the event stalls. -/
theorem not_doorsFollowTheirInputs : ¬Obligations.DoorsFollowTheirInputs := by
  intro h
  have hfilter := crowded_filterRuns (n := overlong) (k := .escape) (x := partingDoor) (g := .scanning) (i := .closed) rfl
  have hfaults : Faults (crowded overlong .escape partingDoor .scanning) 0 .proofConflict :=
    ⟨rfl, rfl, by simp [State.retryGranted, partingDoor, Bay.reset]⟩
  obtain ⟨_, hconflict, _⟩ := h (crowded overlong .escape partingDoor .scanning) 0 .closed (.inl crowded_kind)
    (crowded_gapFresh_scanning overlong_ne_zero rfl rfl) (.inl rfl) hfilter
  obtain ⟨t, hexec, _, _, hevent⟩ := hconflict (by rw [crowded_bay]; rfl) (by rw [crowded_bay]; rfl) hfaults
  refine not_bayEvent_of_endless crowded_stalled hfilter hexec ?_ hevent
  rw [Ev.filteredChange_door crowded_kind (.inl rfl)]
  have hbay := (BayBecomes.changeLevel (crowded overlong .escape partingDoor .scanning) 0 .closed).bay
  rw [crowded_bay] at hbay
  have hdoor : ((Ev.start (crowded overlong .escape partingDoor .scanning)).on
      (fun u => u.changeLevel (.bay 0 .closed))).doorInput 0
      = ((Ev.start (crowded overlong .escape partingDoor .scanning)).on (fun u => u.changeLevel (.bay 0 .closed)),
        [.raise 0 .proofConflict 2]) := by
    simp only [Ev.doorInput, Ev.on_s, Ev.start_s, hbay]
    rfl
  rw [hdoor]
  exact .faults 2 [] eventBound_lt_overlong hfaults nofun

/-- The reply that a request is owed does not undo a stall. -/
theorem Answer.carryOut_stalled (a : Answer) (l : Link) (k : Byte) : (a.carryOut l k).stalled = a.outcome.s.stalled := by
  have hrecord (s : State) (r : Result) : (s.recordAuthority l k r).stalled = s.stalled := by
    unfold State.recordAuthority
    split <;> rfl
  have hprepare (s : State) (p : Bool) : (s.prepare l p).stalled = s.stalled := by cases l <;> rfl
  have howe (s : State) (r : Result) (content : List Byte) : (s.owe l k r content).stalled = s.stalled := by
    cases l <;> rfl
  rw [Answer.carryOut, howe, hprepare, State.formPins_stalled, hrecord]

theorem State.request_stalled {s : State} {l : Link} {q : RequestKind} {body : List Byte} {owner : Owner}
    {f : Ev → Ev × List Task} {reply : Ev → Result × List Byte} (h : Admits l q body s)
    (howner : owner body (s.takeFrame l) = .event (s.takeFrame l) f reply)
    (hendless : Endless (f (Ev.start (s.takeFrame l))).2 (f (Ev.start (s.takeFrame l))).1) :
    (s.request l q body owner).stalled = true := by
  rw [State.request_admits _ _ _ _ _ h, howner, Answer.carryOut_stalled, Answer.outcome_event]
  exact State.event_stalled hendless

/-- An ISOLATED bay with both proofs. -/
def isolatedBay : Bay :=
  { Bay.reset with phase := .isolated, lines := { BayLines.reset with closed := activeLine, locked := activeLine } }

/-- A BAY_COMMAND RESTORE of bay 0. -/
def restoreBody : List Byte := withAction .restore [0#8, 0#8, 1#8, 0#8]

theorem crowded_restore_admits : Admits .station .bayCommand restoreBody (crowded overlong .sliding isolatedBay .pending) :=
  ⟨⟨rfl, rfl, nofun⟩, nofun, rfl, rfl, rfl, nofun⟩

/-- RESTORE takes the bay of a long map to CLOSED_LOCKED. -/
theorem Endless.restores {n : Nat} (hn : Config.eventBound < n) :
    Endless ((membersOf 1).map (.command .restore))
      (Ev.start ((crowded n .sliding isolatedBay .pending).takeFrame .station)) := by
  have hmembers : membersOf 1 = [0] := by decide
  have hbay : ((crowded n .sliding isolatedBay .pending).takeFrame .station).bay 0 = isolatedBay := crowded_bay 0
  have haccepts : ((crowded n .sliding isolatedBay .pending).takeFrame .station).commandRefusal .restore 0 = none := by
    have hkind : ((crowded n .sliding isolatedBay .pending).takeFrame .station).kind 0 = .sliding := crowded_kind
    simp only [State.commandRefusal, hbay, hkind]
    rfl
  have hrestored := (((BayBecomes.refl 0 _).enter
    (e := { Ev.start ((crowded n .sliding isolatedBay .pending).takeFrame .station) with accepted := [0] }) .closedLocked).onBay
    (fun y => { y with hold := true }))
  rw [hmembers]
  refine .cons ?_
  have hperform : (Task.command .restore 0).perform (Ev.start ((crowded n .sliding isolatedBay .pending).takeFrame .station))
      = ((({ Ev.start ((crowded n .sliding isolatedBay .pending).takeFrame .station) with accepted := [0] } : Ev).enter 0
          .closedLocked).onBay 0 (fun y => { y with hold := true }), Sys2Proof.Machine.entered 0 ++ [.fireBack 0]) := by
    simp only [Task.perform, Ev.command, Ev.start_s, haccepts, Ev.act, Ev.restore, hbay]
    rfl
  rw [hperform, List.append_assoc]
  exact .entered _ (gapNow_crowded_locked (Nat.ne_zero_of_lt hn) hrestored.train (congrArg GapScan.result hrestored.gap)
    (congrArg Bay.phase hrestored.bay)) (by rw [hrestored.train]; exact crowded_map_length.symm ▸ hn)

/-- Refutes O42: RESTORE of the last bay of a map longer than the bound begins the scan, and the event stalls. -/
theorem not_isolateRestoreAndClearFault : ¬Obligations.IsolateRestoreAndClearFault := by
  intro h
  have hoperand : bayCommandOperand restoreBody = some (1, .restore) := by decide
  obtain ⟨_, hrestore, _⟩ := h [0#8, 0#8, 1#8, 0#8] (crowded overlong .sliding isolatedBay .pending) 1 crowded_handsNothing
    (crowded_gapFresh_pending overlong_ne_zero nofun)
  obtain ⟨t, hexec, ⟨_, _, _, _, ⟨_, _, _, hstalled⟩, _⟩, _⟩ := hrestore crowded_restore_admits hoperand rfl
  have howner := ownerBayCommand_event (s := (crowded overlong .sliding isolatedBay .pending).takeFrame .station) hoperand rfl
  have hrequest := exec_request (i := .bayCommandRestore .station [0#8, 0#8, 1#8, 0#8]) (k := .bayCommand) (body := restoreBody)
    rfl (crowded overlong .sliding isolatedBay .pending)
  rw [hrequest, Host.Outcome.next.injEq, ownerOf] at hexec
  rw [← hexec, State.request_stalled crowded_restore_admits howner (.restores eventBound_lt_overlong)] at hstalled
  exact absurd hstalled (by simp)

end Sys2Proof.Machine
end

section
/-! What the opening map law, the law of the phases and the law of the fault frames ask of the state, in one form for all
three: of each bay by its kind, of the train, and of the platform frame. -/

namespace Sys2Proof.Machine

/-! ### The three laws in one form -/

/-- The laws of the opening map (spec/02 R28), of the phases (spec/01 R3, R19) and of the fault frames (spec/07 R136). -/
inductive Law
  | map | phase | frame

/-- A fault frame that is not EMPTY holds an occurrence count of at least 1 (spec/07 R136). -/
abbrev Frame.Counted (f : Frame) : Prop := f.state ≠ .empty → ∃ i ∈ f.info, 1 ≤ i.count

/-- A kind of bay has a phase (spec/01 R3, R19). -/
structure BayKind.HasPhase (k : BayKind) (q : Phase) : Prop where
  absent : k = .absent → q = .notFitted
  sliding : k = .sliding → q ≠ .notFitted
  door : k = .escape ∨ k = .endDoor → q = .closedLocked ∨ q = .released ∨ q = .faulted

/-- What a law asks of a bay, by its kind and by whether the bay is a map member, once STARTING is over. -/
structure Bay.Obeys (l : Law) (k : BayKind) (member : Bool) (x : Bay) : Prop where
  member : l ≠ .frame → member = true → x.hold = false ∧ x.phase ≠ .isolated
  kind : l = .phase → k.HasPhase x.phase
  movement : l = .phase → k = .escape ∨ k = .endDoor → x.movement = .none
  stuck : l = .phase → x.gapStuckTimer.isSome = true ∨ x.curtainStuckTimer.isSome = true →
    k = .sliding ∧ x.phase = .closedLocked
  faulted : l = .frame → (x.phase = .faulted ↔ x.frame.state = .active)
  counted : l = .frame → x.frame.Counted

/-- What the opening map law asks of the train, but for the bays of its map (spec/02 R28). -/
structure Train.Obeys (sliding : BayIx → Bool) (t : Train) : Prop where
  early : t.state = .empty ∨ t.state = .announced ∨ t.state = .berthed → t.map = []
  aligned : ∀ a ∈ t.aligned, sliding a.bay = true
  matched : ∀ b ∈ t.map, (t.aligned.find? (fun a => a.bay == b)).isSome = true
  distinct : (t.aligned.map AlignedBay.bay).Nodup ∧ t.map.Nodup

/-- A law holds, once STARTING is over, of all but the bays that p holds of. -/
structure ObeysBut (l : Law) (p : BayIx → Prop) (s : State) : Prop where
  running : s.mode.mode ≠ .starting
  train : l ≠ .frame → s.train.Obeys s.sliding
  platform : l = .frame → s.platformFrame.Counted
  bays : ∀ c, ¬p c → (s.bay c).Obeys l (s.kind c) (s.isMember c)

/-- A law holds, once STARTING is over. -/
abbrev Obeys (l : Law) (s : State) : Prop := ObeysBut l (fun _ => False) s

theorem isMember_iff (s : State) (b : BayIx) : s.isMember b = true ↔ b ∈ s.train.map := List.contains_iff_mem

theorem sliding_iff (s : State) (b : BayIx) : s.sliding b = true ↔ s.kind b = .sliding := beq_iff_eq

theorem MapLaw.train {s : State} (h : MapLaw s) : s.train.Obeys s.sliding :=
  ⟨h.early, h.aligned, fun b hb => (h.members b hb).1, h.distinct⟩

theorem Train.Obeys.mapLaw {s : State} (h : s.train.Obeys s.sliding)
    (hbays : ∀ b ∈ s.train.map, (s.bay b).hold = false ∧ (s.bay b).phase ≠ .isolated) : MapLaw s :=
  ⟨h.early, h.aligned, fun b hb => ⟨h.matched b hb, hbays b hb⟩, h.distinct⟩

theorem MapLaw.member {s : State} (h : MapLaw s) (b : BayIx) (hb : s.isMember b = true) :
    (s.bay b).hold = false ∧ (s.bay b).phase ≠ .isolated := (h.members b ((isMember_iff s b).mp hb)).2

theorem Obeys.mapLaw {l : Law} {s : State} (h : Obeys l s) (hl : l ≠ .frame) : MapLaw s :=
  (h.train hl).mapLaw (fun b hb => (h.bays b id).member hl ((isMember_iff s b).mpr hb))

theorem obeys_map_iff {s : State} (hs : s.mode.mode ≠ .starting) : Obeys .map s ↔ MapLaw s := by
  refine ⟨fun h => Obeys.mapLaw h nofun, fun h => ⟨hs, fun _ => h.train, nofun, fun b _ => ?_⟩⟩
  exact ⟨fun _ => h.member b, nofun, nofun, nofun, nofun, nofun⟩

theorem obeys_phase_iff {s : State} (hs : s.mode.mode ≠ .starting) : Obeys .phase s ↔ PhaseLaw s := by
  refine ⟨fun h => ?_, fun h => ?_⟩
  · exact
    { mapLaw := Obeys.mapLaw h nofun
      absent := fun _ b => ((h.bays b id).kind rfl).absent
      sliding := fun _ b => ((h.bays b id).kind rfl).sliding
      door := fun _ b hk => ⟨((h.bays b id).kind rfl).door hk, (h.bays b id).movement rfl hk⟩
      stuck := fun _ b => (h.bays b id).stuck rfl }
  · exact ⟨hs, fun _ => h.mapLaw.train, nofun, fun b _ =>
      { member := fun _ => h.mapLaw.member b
        kind := fun _ => ⟨h.absent hs b, h.sliding hs b, fun hk => (h.door hs b hk).1⟩
        movement := fun _ hk => (h.door hs b hk).2
        stuck := fun _ => h.stuck hs b
        faulted := nofun
        counted := nofun }⟩

theorem obeys_frame_iff {s : State} (hs : s.mode.mode ≠ .starting) : Obeys .frame s ↔ FrameLaw s := by
  refine ⟨fun h => ?_, fun h => ⟨hs, fun hl => absurd rfl hl, fun _ => h.platform, fun b _ => ?_⟩⟩
  · exact
    { faulted := fun b => (h.bays b id).faulted rfl
      counted := fun b => (h.bays b id).counted rfl
      platform := h.platform rfl
      starting := fun hm => absurd hm hs }
  · exact ⟨fun hl => absurd rfl hl, nofun, nofun, nofun, fun _ => h.faulted b, fun _ => h.counted b⟩

/-! ### What a step keeps -/

/-- A change of the state that keeps the three laws. -/
structure KeepsLaws (s t : State) : Prop where
  map : MapLaw s → MapLaw t
  phase : PhaseLaw s → PhaseLaw t
  frame : FrameLaw s → FrameLaw t

theorem KeepsLaws.refl (s : State) : KeepsLaws s s := ⟨id, id, id⟩

theorem KeepsLaws.trans {s t u : State} (h : KeepsLaws s t) (k : KeepsLaws t u) : KeepsLaws s u :=
  ⟨k.map ∘ h.map, k.phase ∘ h.phase, k.frame ∘ h.frame⟩

theorem KeepsLaws.of_obeys {s t : State} (hs : s.mode.mode ≠ .starting) (h : ∀ l, Obeys l s → Obeys l t) : KeepsLaws s t :=
  ⟨fun hm => (h .map ((obeys_map_iff hs).mpr hm)).mapLaw nofun,
    fun hp => have ht := h .phase ((obeys_phase_iff hs).mpr hp); (obeys_phase_iff ht.running).mp ht,
    fun hf => have ht := h .frame ((obeys_frame_iff hs).mpr hf); (obeys_frame_iff ht.running).mp ht⟩

/-- A restart begins with no train, every frame EMPTY, and no phase that the laws ask for. -/
theorem State.restart_laws (s : State) (c : RestartCause) :
    MapLaw (s.restart c) ∧ PhaseLaw (s.restart c) ∧ FrameLaw (s.restart c) := by
  have hbay (b : BayIx) : (s.restart c).bay b = { Bay.reset with lines := (s.bay b).lines.map Line.restart } := by
    simp [State.bay, State.restart]
  have hframe (b : BayIx) : ((s.restart c).bay b).frame = Frame.reset := by rw [hbay]; rfl
  have hphase (b : BayIx) : ((s.restart c).bay b).phase = .notFitted := by rw [hbay]; rfl
  have hmap : MapLaw (s.restart c) := ⟨fun _ => rfl, fun _ => nofun, fun _ => nofun, .nil, .nil⟩
  refine ⟨hmap, ⟨hmap, fun h => absurd rfl h, fun h => absurd rfl h, fun h => absurd rfl h, fun h => absurd rfl h⟩, ?_⟩
  exact
  { faulted := fun b => by rw [hframe, hphase]; exact ⟨nofun, nofun⟩
    counted := fun b => by rw [hframe]; exact fun h => absurd rfl h
    platform := fun h => absurd rfl h
    starting := fun _ b => by rw [hframe]; rfl }

theorem State.restart_keepsLaws (s t : State) (c : RestartCause) : KeepsLaws s (t.restart c) :=
  have ⟨hmap, hphase, hframe⟩ := t.restart_laws c
  ⟨fun _ => hmap, fun _ => hphase, fun _ => hframe⟩

/-! ### What the laws read -/

/-- All that the laws read of a bay stands, but that a stuck timer may be dropped. -/
structure Bay.LawStands (x y : Bay) : Prop where
  phase : y.phase = x.phase
  movement : y.movement = x.movement
  hold : y.hold = x.hold
  frame : y.frame = x.frame
  gapStuck : y.gapStuckTimer.isSome = true → x.gapStuckTimer.isSome = true
  curtainStuck : y.curtainStuckTimer.isSome = true → x.curtainStuckTimer.isSome = true

theorem Bay.LawStands.refl (x : Bay) : x.LawStands x := ⟨rfl, rfl, rfl, rfl, id, id⟩

theorem Bay.LawStands.trans {x y z : Bay} (h : x.LawStands y) (k : y.LawStands z) : x.LawStands z :=
  ⟨k.phase.trans h.phase, k.movement.trans h.movement, k.hold.trans h.hold, k.frame.trans h.frame,
    h.gapStuck ∘ k.gapStuck, h.curtainStuck ∘ k.curtainStuck⟩

theorem Bay.LawStands.obeys {x y : Bay} (h : x.LawStands y) {l : Law} {k : BayKind} {m : Bool} (hx : x.Obeys l k m) :
    y.Obeys l k m := by
  refine ⟨?_, ?_, ?_, fun hl hs => ?_, ?_, ?_⟩
  · rw [h.hold, h.phase]; exact hx.member
  · rw [h.phase]; exact hx.kind
  · rw [h.movement]; exact hx.movement
  · rw [h.phase]; exact hx.stuck hl (hs.imp h.gapStuck h.curtainStuck)
  · rw [h.phase, h.frame]; exact hx.faulted
  · rw [h.frame]; exact hx.counted

/-- All that the laws read stands, but for the bays that p holds of. -/
structure LawStands (p : BayIx → Prop) (s t : State) : Prop where
  starting : t.mode.mode = .starting ↔ s.mode.mode = .starting
  state : t.train.state = s.train.state
  aligned : t.train.aligned = s.train.aligned
  map : t.train.map = s.train.map
  platform : t.platformFrame = s.platformFrame
  kind : ∀ c, t.kind c = s.kind c
  bays : ∀ c, ¬p c → (s.bay c).LawStands (t.bay c)

/-- All that the laws read stands. -/
abbrev AllLawStands (s t : State) : Prop := LawStands (fun _ => False) s t

section

variable {p q : BayIx → Prop} {s t u : State} {l : Law}

theorem LawStands.refl (p : BayIx → Prop) (s : State) : LawStands p s s :=
  ⟨Iff.rfl, rfl, rfl, rfl, rfl, fun _ => rfl, fun _ _ => .refl _⟩

theorem LawStands.trans (h : LawStands p s t) (k : LawStands p t u) : LawStands p s u :=
  ⟨k.starting.trans h.starting, k.state.trans h.state, k.aligned.trans h.aligned, k.map.trans h.map,
    k.platform.trans h.platform, fun c => (k.kind c).trans (h.kind c), fun c hc => (h.bays c hc).trans (k.bays c hc)⟩

theorem LawStands.mono (h : LawStands p s t) (hpq : ∀ c, p c → q c) : LawStands q s t :=
  ⟨h.starting, h.state, h.aligned, h.map, h.platform, h.kind, fun c hc => h.bays c (fun hp => hc (hpq c hp))⟩

/-- A change beside the bays, the mode, the train, the platform frame and the bay records. -/
theorem LawStands.of_fields (hmode : t.mode.mode = s.mode.mode) (htrain : t.train = s.train)
    (hplatform : t.platformFrame = s.platformFrame) (hrecords : t.store.working.bays = s.store.working.bays)
    (hbays : t.bays = s.bays) : LawStands p s t :=
  ⟨by rw [hmode], by rw [htrain], by rw [htrain], by rw [htrain], hplatform,
    fun c => by simp only [State.kind, State.bayRecord, hrecords],
    fun c _ => by simp only [State.bay, hbays]; exact .refl _⟩

theorem LawStands.of_setBay (b : BayIx) (x : Bay) (hb : p b) : LawStands p s (s.setBay b x) :=
  ⟨Iff.rfl, rfl, rfl, rfl, rfl, fun _ => rfl, fun c hc => by
    rw [State.bay_setBay_ne _ _ _ _ (by rintro rfl; exact hc hb)]; exact .refl _⟩

theorem LawStands.of_sameBay (b : BayIx) (x : Bay) (hx : (s.bay b).LawStands x) : LawStands p s (s.setBay b x) :=
  ⟨Iff.rfl, rfl, rfl, rfl, rfl, fun _ => rfl, fun c _ => by
    rw [State.bay_setBay]
    split
    · next h => subst h; exact hx
    · exact .refl _⟩

theorem LawStands.post (k : EventKind) (b : Option BayIx) (v : Nat) : LawStands p s (s.post k b v) :=
  .of_fields rfl rfl rfl rfl rfl

theorem LawStands.openRecord (k : ReleaseKind) (b : Option BayIx) (f : Option FireSource) :
    LawStands p s (s.openRecord k b f) := .of_fields (by simp) (by simp) (by simp) (by simp) (by simp)

theorem LawStands.restoreRecord (r : ReleaseRecord → Bool) : LawStands p s (s.restoreRecord r) :=
  .of_fields (by simp) (by simp) (by simp) (by simp) (by simp)

theorem LawStands.setGap (g : GapResult) : LawStands p s (s.setGap g) :=
  .of_fields (by simp) (by simp) (by simp) (by simp) (by simp)

theorem LawStands.formPresence (b : BayIx) : LawStands p s (s.formPresence b) := by
  simp only [State.formPresence]
  split
  · exact .refl p s
  · refine (LawStands.of_sameBay b _ ?_).trans (.post _ _ _)
    exact ⟨rfl, rfl, rfl, rfl, id, id⟩

theorem LawStands.foldl {α : Type} {f : State → α → State} (hf : ∀ s a, LawStands p s (f s a)) (as : List α) (s : State) :
    LawStands p s (as.foldl f s) := by
  induction as generalizing s with
  | nil => exact .refl p s
  | cons a as ih => exact (hf s a).trans (ih _)

theorem LawStands.clearFrame (c : ClearCause) (b : BayIx) (hb : p b) : LawStands p s (s.clearFrame c b) :=
  (LawStands.of_setBay b _ hb).trans (.post _ _ _)

theorem LawStands.enter {e : Ev} (b : BayIx) (q : Phase) (hb : p b) : LawStands p e.s (e.enter b q).s := by
  simp only [Ev.enter]
  split
  · exact (LawStands.of_setBay b _ hb).trans (.post _ _ _)
  · exact .of_setBay b _ hb

theorem LawStands.sliding (h : LawStands p s t) (c : BayIx) : t.sliding c = s.sliding c := by
  simp only [State.sliding, h.kind]

theorem LawStands.isMember (h : LawStands p s t) (c : BayIx) : t.isMember c = s.isMember c := by
  simp only [State.isMember, h.map]

theorem LawStands.train (h : LawStands p s t) (hs : s.train.Obeys s.sliding) : t.train.Obeys t.sliding := by
  have hsliding : t.sliding = s.sliding := funext h.sliding
  refine ⟨?_, ?_, ?_, ?_⟩
  · rw [h.state, h.map]; exact hs.early
  · rw [h.aligned, hsliding]; exact hs.aligned
  · rw [h.aligned, h.map]; exact hs.matched
  · rw [h.aligned, h.map]; exact hs.distinct

theorem ObeysBut.of_stand (h : ObeysBut l p s) (hst : LawStands p s t) : ObeysBut l p t :=
  ⟨fun hm => h.running (hst.starting.mp hm), fun hl => hst.train (h.train hl),
    fun hl => by rw [hst.platform]; exact h.platform hl,
    fun c hc => by rw [hst.kind, hst.isMember]; exact (hst.bays c hc).obeys (h.bays c hc)⟩

/-- What stands keeps the laws, during STARTING as well. -/
theorem AllLawStands.keepsLaws (h : AllLawStands s t) : KeepsLaws s t := by
  have hbay (b : BayIx) := h.bays b id
  have hmap : MapLaw s → MapLaw t := fun hs =>
    (h.train hs.train).mapLaw (fun b hb => by
      rw [(hbay b).hold, (hbay b).phase]; exact (hs.members b (h.map ▸ hb)).2)
  refine ⟨hmap, fun hs => ?_, fun hs => ?_⟩
  · by_cases hm : s.mode.mode = .starting
    · have ht := h.starting.mpr hm
      exact ⟨hmap hs.mapLaw, fun h => absurd ht h, fun h => absurd ht h, fun h => absurd ht h, fun h => absurd ht h⟩
    · have ht := ((obeys_phase_iff hm).mpr hs).of_stand h
      exact (obeys_phase_iff ht.running).mp ht
  · refine ⟨fun b => ?_, fun b => ?_, ?_, fun hm b => ?_⟩
    · rw [(hbay b).phase, (hbay b).frame]; exact hs.faulted b
    · rw [(hbay b).frame]; exact hs.counted b
    · rw [h.platform]; exact hs.platform
    · rw [(hbay b).frame]; exact hs.starting (h.starting.mp hm) b

theorem Obeys.but (h : Obeys l s) : ObeysBut l p s := ⟨h.running, h.train, h.platform, fun c _ => h.bays c id⟩

/-- A bay that the law holds of completes what it holds of beside the bay. -/
theorem ObeysBut.whole {b : BayIx} (h : ObeysBut l (· = b) s) (hb : (s.bay b).Obeys l (s.kind b) (s.isMember b)) :
    Obeys l s :=
  ⟨h.running, h.train, h.platform, fun c _ => by
    by_cases hc : c = b
    · exact hc ▸ hb
    · exact h.bays c hc⟩

theorem ObeysBut.setBay {b : BayIx} (h : ObeysBut l (· = b) s) {x : Bay} (hx : x.Obeys l (s.kind b) (s.isMember b)) :
    Obeys l (s.setBay b x) :=
  (h.of_stand (.of_setBay b x rfl)).whole (by rw [State.bay_setBay_self]; exact hx)

end

/-! ### Entering a phase -/

section

variable {l : Law} {k : BayKind} {m : Bool} {x y : Bay} {q : Phase}

/-- What a law asks of a bay that enters a phase. -/
theorem Bay.obeys_enter (r : BayRecord) (p : Platform) (hmember : l ≠ .frame → m = true → y.hold = false ∧ q ≠ .isolated)
    (hkind : l = .phase → k.HasPhase q) (hframe : l = .frame → (q = .faulted ↔ y.frame.state = .active) ∧ y.frame.Counted) :
    (y.enter r p q).Obeys l k m := by
  refine ⟨hmember, hkind, fun hl hk => ?_, fun _ hs => ?_, fun hl => (hframe hl).1, fun hl => (hframe hl).2⟩
  · rcases (hkind hl).door hk with rfl | rfl | rfl <;> rfl
  · simp [Bay.enter] at hs

/-- The phases that claims, proofs, timers and stops lead to: every one but ISOLATED, FAULTED and NOT_FITTED. -/
def Phase.ordinary : Phase → Bool
  | .closedLocked | .unlocking | .opening | .opened | .warning | .closing | .reopening | .closedUnlocked | .stopped
  | .released => true
  | .isolated | .faulted | .notFitted => false

theorem BayKind.hasPhase_sliding (h : q ≠ .notFitted) : BayKind.sliding.HasPhase q := ⟨nofun, fun _ => h, nofun⟩

/-- A SLIDING bay that is not FAULTED enters an ordinary phase. -/
theorem Bay.Obeys.enter_ordinary (hx : x.Obeys l k m) (r : BayRecord) (p : Platform) (hk : l = .phase → k = .sliding)
    (hfrom : x.phase ≠ .faulted) (hto : q.ordinary = true) : (x.enter r p q).Obeys l k m := by
  have hne : q ≠ .isolated ∧ q ≠ .faulted ∧ q ≠ .notFitted := by
    refine ⟨?_, ?_, ?_⟩ <;> rintro rfl <;> exact absurd hto (by decide)
  obtain ⟨hisolated, hfaulted, hfitted⟩ := hne
  refine Bay.obeys_enter r p (fun hl hm => ⟨(hx.member hl hm).1, hisolated⟩)
    (fun hl => hk hl ▸ BayKind.hasPhase_sliding hfitted) (fun hl => ⟨?_, hx.counted hl⟩)
  rw [← hx.faulted hl]
  exact ⟨fun h => absurd h hfaulted, fun h => absurd h hfrom⟩

/-- A phase that is none of those of the other kinds is one of a SLIDING bay. -/
theorem Bay.Obeys.kind_sliding (hx : x.Obeys .phase k m) (hfitted : x.phase ≠ .notFitted) (hlocked : x.phase ≠ .closedLocked)
    (hreleased : x.phase ≠ .released) (hfaulted : x.phase ≠ .faulted) : k = .sliding := by
  have hkind := hx.kind rfl
  cases k with
  | sliding => rfl
  | absent => exact absurd (hkind.absent rfl) hfitted
  | escape => rcases hkind.door (.inl rfl) with h | h | h <;> contradiction
  | endDoor => rcases hkind.door (.inr rfl) with h | h | h <;> contradiction

/-- The movement, the counts and the timers of a SLIDING bay are no law's to read. -/
theorem Bay.Obeys.of_sliding (hx : x.Obeys l k m) (hk : l = .phase → k = .sliding) (hphase : y.phase = x.phase)
    (hhold : y.hold = x.hold) (hframe : y.frame = x.frame) (hgap : y.gapStuckTimer = x.gapStuckTimer)
    (hcurtain : y.curtainStuckTimer = x.curtainStuckTimer) : y.Obeys l k m := by
  refine ⟨?_, ?_, fun hl hd => ?_, ?_, ?_, ?_⟩
  · rw [hphase, hhold]; exact hx.member
  · rw [hphase]; exact hx.kind
  · rw [hk hl] at hd; exact absurd hd (by decide)
  · rw [hphase, hgap, hcurtain]; exact hx.stuck
  · rw [hphase, hframe]; exact hx.faulted
  · rw [hframe]; exact hx.counted

end

section

variable {l : Law} {e : Ev} {b : BayIx}

theorem ObeysBut.enter (h : ObeysBut l (· = b) e.s) (q : Phase)
    (hmember : l ≠ .frame → e.s.isMember b = true → (e.s.bay b).hold = false ∧ q ≠ .isolated)
    (hkind : l = .phase → (e.s.kind b).HasPhase q)
    (hframe : l = .frame → (q = .faulted ↔ (e.s.bay b).frame.state = .active) ∧ (e.s.bay b).frame.Counted) :
    Obeys l (e.enter b q).s := by
  have hst : LawStands (· = b) e.s (e.enter b q).s := .enter b q rfl
  refine (h.of_stand hst).whole ?_
  rw [hst.kind, hst.isMember, Ev.enter_bay_self]
  exact Bay.obeys_enter _ _ hmember hkind hframe

theorem Obeys.enter_ordinary (h : Obeys l e.s) (hk : l = .phase → e.s.sliding b = true) (q : Phase)
    (hfrom : (e.s.bay b).phase ≠ .faulted) (hto : q.ordinary = true) : Obeys l (e.enter b q).s := by
  have hst : LawStands (· = b) e.s (e.enter b q).s := .enter b q rfl
  refine (h.but.of_stand hst).whole ?_
  rw [hst.kind, hst.isMember, Ev.enter_bay_self]
  exact (h.bays b id).enter_ordinary _ _ (fun hl => (sliding_iff _ _).mp (hk hl)) hfrom hto

/-- A change of a SLIDING bay that no law reads. -/
theorem Obeys.onBay (h : Obeys l e.s) (hk : l = .phase → e.s.sliding b = true) (f : Bay → Bay)
    (hphase : (f (e.s.bay b)).phase = (e.s.bay b).phase) (hhold : (f (e.s.bay b)).hold = (e.s.bay b).hold)
    (hframe : (f (e.s.bay b)).frame = (e.s.bay b).frame)
    (hgap : (f (e.s.bay b)).gapStuckTimer = (e.s.bay b).gapStuckTimer)
    (hcurtain : (f (e.s.bay b)).curtainStuckTimer = (e.s.bay b).curtainStuckTimer) : Obeys l (e.onBay b f).s :=
  h.but.setBay ((h.bays b id).of_sliding (fun hl => (sliding_iff _ _).mp (hk hl)) hphase hhold hframe hgap hcurtain)

end

end Sys2Proof.Machine
end

section
/-! Every task of an event keeps the opening map law, the law of the phases and the law of the fault frames, and puts before
the rest only tasks that fit the kinds of their bays. -/

namespace Sys2Proof.Machine

/-! ### Tasks that fit the kinds of their bays -/

/-- A task of a claim, an obstruction or a check at entry names a SLIDING bay, and one that raises a code names a SLIDING bay, or
a fitted bay and a code that brings no stop (spec/07 R128). The law of the phases rests on this. -/
def Task.Fits (l : Law) (s : State) : Task → Prop
  | .obstruct _ b | .conflict b | .raiseAtEntry b _ _ | .openMember _ b | .closeMember _ b => l = .phase → s.sliding b = true
  | .raise b c _ => l = .phase → s.sliding b = true ∨ s.kind b ≠ .absent ∧ c.ofMovement = false
  | _ => True

theorem Task.Fits.of_kind {l : Law} {s t : State} {u : Task} (h : u.Fits l s) (hk : ∀ b, t.kind b = s.kind b) : u.Fits l t := by
  have hs (b : BayIx) : t.sliding b = s.sliding b := by simp only [State.sliding, hk]
  cases u <;> simp only [Task.Fits, hs, hk] at h ⊢ <;> exact h

/-- What a part of an event leaves: the law holds, and its tasks fit the kinds that stood. -/
structure Lawful (l : Law) (s : State) (p : Ev × List Task) : Prop where
  obeys : Obeys l p.1.s
  fits : ∀ u ∈ p.2, u.Fits l s

section

variable {l : Law} {s : State} {e : Ev} {b : BayIx}

theorem Lawful.done (h : Obeys l e.s) : Lawful l s (e, []) := ⟨h, nofun⟩

theorem fits_entered (l : Law) (s : State) (b : BayIx) : ∀ u ∈ entered b, u.Fits l s := by
  simp [entered, Task.Fits]

theorem Lawful.entered (h : Obeys l e.s) : Lawful l s (e, Sys2Proof.Machine.entered b) := ⟨h, fits_entered l s b⟩

theorem Task.fits_map {f : BayIx → Task} (h : ∀ c, (f c).Fits l s) (bs : List BayIx) : ∀ u ∈ bs.map f, u.Fits l s := by
  intro u hu
  obtain ⟨c, _, rfl⟩ := List.mem_map.mp hu
  exact h c

/-! ### Presence and gap results -/

theorem Lawful.formGap (h : Obeys l e.s) : Lawful l s e.formGap := by
  unfold Ev.formGap
  split
  · exact .done h
  · exact ⟨h.of_stand (.setGap _), Task.fits_map (f := .presence) (fun _ => trivial) _⟩

/-- In a phase with outputs that move, a bay is a SLIDING one. -/
theorem Obeys.sliding_of_phase (h : Obeys l s) (hl : l = .phase) {q : Phase} (hq : (s.bay b).phase = q)
    (hfitted : q ≠ .notFitted) (hlocked : q ≠ .closedLocked) (hreleased : q ≠ .released) (hfaulted : q ≠ .faulted) :
    s.sliding b = true := by
  subst hl
  subst hq
  exact (sliding_iff s b).mpr ((h.bays b id).kind_sliding hfitted hlocked hreleased hfaulted)

theorem Lawful.presence (h : Obeys l e.s) : Lawful l e.s (e.presence b) := by
  have hformed : LawStands (fun _ => False) e.s (e.s.formPresence b) := .formPresence b
  refine ⟨h.of_stand hformed, fun u hu => ?_⟩
  simp only [Ev.presence] at hu
  split at hu
  · next hhold =>
    simp only [List.mem_singleton] at hu
    subst hu
    simp only [reopenHold, Ev.on_s, Bool.and_eq_true, beq_iff_eq] at hhold
    obtain ⟨⟨⟨_, hclosing⟩, _⟩, _⟩ := hhold
    rw [(hformed.bays b id).phase] at hclosing
    exact fun hl => h.sliding_of_phase hl hclosing nofun nofun nofun nofun
  · exact absurd hu (by simp)

/-! ### Claims, stops and obstructions -/

theorem State.judgeOpen_moves {q : Phase} (h : s.judgeOpen b = .moves q) : (s.bay b).phase ≠ .faulted ∧ q.ordinary = true := by
  unfold State.judgeOpen at h
  split at h
  · exact absurd h nofun
  · cases hphase : (s.bay b).phase <;> simp_all [Phase.ordinary]
    all_goals subst h; rfl

theorem State.judgeClose_moves {q : Phase} (h : s.judgeClose b = .moves q) : (s.bay b).phase ≠ .faulted ∧ q.ordinary = true := by
  unfold State.judgeClose at h
  repeat' split at h
  all_goals simp_all [Phase.ordinary]
  all_goals subst h; rfl

theorem Lawful.openClaim (h : Obeys l e.s) (hk : l = .phase → e.s.sliding b = true) : Lawful l s (e.openClaim b) := by
  unfold Ev.openClaim
  split
  · next q hq =>
    obtain ⟨hfrom, hto⟩ := State.judgeOpen_moves hq
    have hmoved := h.onBay hk (.move .opens) rfl rfl rfl rfl rfl
    have hzero := Obeys.onBay hmoved hk (fun x => { x with reclose := 0 }) rfl rfl rfl rfl rfl
    exact .entered (Obeys.enter_ordinary hzero hk q (by simpa [Bay.move] using hfrom) hto)
  · exact .done h
  · exact .done h

theorem Lawful.closeClaim (h : Obeys l e.s) (hk : l = .phase → e.s.sliding b = true) : Lawful l s (e.closeClaim b) := by
  unfold Ev.closeClaim
  split
  · next q hq =>
    obtain ⟨hfrom, hto⟩ := State.judgeClose_moves hq
    have hmoved := h.onBay hk (.move .closes) rfl rfl rfl rfl rfl
    have hentered : Obeys l ((e.onBay b (.move .closes)).enter b q).s :=
      Obeys.enter_ordinary hmoved hk q (by simpa [Bay.move] using hfrom) hto
    have hkind : l = .phase → ((e.onBay b (.move .closes)).enter b q).s.sliding b = true := fun hl => by
      rw [(LawStands.enter (p := (· = b)) b q rfl).sliding]; exact hk hl
    dsimp only
    split
    · have hne : q ≠ .faulted := by rintro rfl; exact absurd hto (by decide)
      exact .entered (hentered.enter_ordinary hkind .closing (by simpa [Bay.enter] using hne) rfl)
    · exact .entered hentered
  · exact .done h
  · exact .done h

theorem Lawful.handOpen (h : Obeys l e.s) (hk : l = .phase → e.s.sliding b = true) : Lawful l s (e.handOpen b) := by
  unfold Ev.handOpen
  split
  · exact .done h
  · split
    · exact .done h
    · exact .openClaim h hk

theorem Lawful.openMember (h : Obeys l e.s) (hk : l = .phase → e.s.sliding b = true) (again : Bool) :
    Lawful l s (e.openMember again b) := by
  unfold Ev.openMember
  split
  · split <;> first | exact .done h | exact .handOpen h hk
  · exact .handOpen h hk

theorem Lawful.closeMember (h : Obeys l e.s) (hk : l = .phase → e.s.sliding b = true) (reported : Bool) :
    Lawful l s (e.closeMember reported b) := by
  simp only [Ev.closeMember]
  repeat' split
  all_goals first | exact .closeClaim h hk | exact .done h

theorem Phase.ne_faulted_of_moving {q : Phase} (h : q.isMoving = true) : q ≠ .faulted := by rintro rfl; exact absurd h nofun

theorem Lawful.stopBay (h : Obeys l e.s) : Lawful l s (e.stopBay b) := by
  unfold Ev.stopBay
  split
  · next hstop =>
    simp only [Bool.and_eq_true] at hstop
    exact .entered (h.enter_ordinary (fun _ => hstop.1) .stopped (Phase.ne_faulted_of_moving hstop.2) rfl)
  · exact .done h

theorem Lawful.obstruct (h : Obeys l e.s) (hk : l = .phase → e.s.sliding b = true) (atEntry : Bool) :
    Lawful l e.s (e.obstruct atEntry b) := by
  simp only [Ev.obstruct]
  split
  · exact .done h
  · next hclosing =>
    have hphase : (e.s.bay b).phase = .closing := by simpa using hclosing
    split
    · have hcounted := h.onBay hk (fun y => { y with reclose := y.reclose + 1 }) rfl rfl rfl rfl rfl
      have hentered := Obeys.enter_ordinary hcounted hk .reopening (by simp [hphase]) rfl
      split
      · exact .entered (hentered.of_stand (.post _ _ _))
      · exact .entered hentered
    · refine ⟨h, ?_⟩
      split
      · simpa [Task.Fits] using hk
      · simpa [Task.Fits] using fun hl => .inl (hk hl)

/-! ### Checks at entry -/

theorem Bay.proofNext_ordinary {x : Bay} {q : Phase} (h : x.proofNext = some q) : x.phase ≠ .faulted ∧ q.ordinary = true := by
  unfold Bay.proofNext at h
  repeat' split at h
  all_goals simp_all [Phase.ordinary]
  all_goals subst h; rfl

theorem Obeys.startPause (h : Obeys l e.s) : Obeys l (e.startPause b).s :=
  h.of_stand (.of_sameBay b _ ⟨rfl, rfl, rfl, rfl, id, id⟩)

theorem Lawful.entryChecks (h : Obeys l e.s) (hk : e.s.sliding b = true) : Lawful l e.s (e.entryChecks b) := by
  have hpaused : Obeys l (e.pauseAtEntry b).s := by
    simp only [Ev.pauseAtEntry]
    split
    · exact h.startPause
    · exact h
  simp only [Ev.entryChecks]
  split
  · next q hq =>
    obtain ⟨hfrom, hto⟩ := Bay.proofNext_ordinary hq
    exact .entered (h.enter_ordinary (fun _ => hk) q hfrom hto)
  · repeat' split
    all_goals refine ⟨hpaused, ?_⟩
    all_goals simp [Task.Fits, hk]

theorem Lawful.arrive (h : Obeys l e.s) : Lawful l e.s (e.arrive b) := by
  have judged {s' : State} (hs : AllLawStands e.s s') :
      Lawful l e.s (if s'.sliding b then { e with s := s', awaiting := e.awaiting.filter (· != b) }.entryChecks b
        else ({ e with s := s', awaiting := e.awaiting.filter (· != b) }, [])) := by
    split
    · next hsliding =>
      have hchecks := Lawful.entryChecks (e := { e with s := s', awaiting := e.awaiting.filter (· != b) })
        (h.of_stand hs) hsliding
      exact ⟨hchecks.obeys, fun u hu => (hchecks.fits u hu).of_kind (fun c => (hs.kind c).symm)⟩
    · exact .done (h.of_stand hs)
  by_cases hawaiting : b ∈ e.awaiting
  · cases hstarting : e.starting with
    | true =>
      rw [Ev.arrive_of_starting e b hawaiting hstarting]
      exact judged (.refl _ _)
    | false =>
      rw [Ev.arrive_of_running e b hawaiting hstarting]
      exact judged (.formPresence b)
  · rw [Ev.arrive_of_not_awaiting e b hawaiting]
    exact .done h

theorem Lawful.raiseConflict (h : Obeys l e.s) (hk : l = .phase → e.s.sliding b = true) : Lawful l e.s (e.raiseConflict b) := by
  simp only [Ev.raiseConflict]
  split
  · exact ⟨h, by simpa [Task.Fits] using fun hl => .inl (hk hl)⟩
  · exact .done h

/-! ### Faults -/

/-- A frame is written: one that tells FAULTED from the other phases, and that is counted. -/
theorem Bay.Obeys.setFrame {k : BayKind} {m : Bool} {x : Bay} (hx : x.Obeys l k m) {f : Frame}
    (hf : l = .frame → (x.phase = .faulted ↔ f.state = .active) ∧ f.Counted) :
    Bay.Obeys l k m { x with frame := f } :=
  ⟨hx.member, hx.kind, hx.movement, hx.stuck, fun hl => (hf hl).1, fun hl => (hf hl).2⟩

theorem Obeys.setFrame (h : Obeys l e.s) {f : Frame}
    (hf : l = .frame → ((e.s.bay b).phase = .faulted ↔ f.state = .active) ∧ f.Counted) : Obeys l (e.s.setFrame b f) :=
  h.but.setBay ((h.bays b id).setFrame hf)

theorem State.newFrame_counted (s : State) (st : FrameState) (c : FaultCode) (d : Nat) (q : Phase) (m : Movement) (n : Nat) :
    (s.newFrame st c d q m n).Counted := fun _ => ⟨_, rfl, Nat.le_refl 1⟩

theorem FrameInfo.one_le_counted (i : FrameInfo) : 1 ≤ i.counted.count := by
  simp only [FrameInfo.counted]; omega

theorem Lawful.raiseNested (h : Obeys l e.s) (c : FaultCode) : Lawful l s (e.raiseNested b c) := by
  have hinfo {i : FrameInfo} (hi : 1 ≤ i.count) : Obeys l (e.s.setFrame b { (e.s.bay b).frame with info := some i }) :=
    h.setFrame (fun hl => ⟨(h.bays b id).faulted hl, fun _ => ⟨i, rfl, hi⟩⟩)
  simp only [Ev.raiseNested]
  split
  · exact .done (h.of_stand (.post _ _ _))
  · next i _ =>
    split
    · exact ⟨ObeysBut.of_stand (hinfo (i := { i.counted with later := some c }) i.one_le_counted) (.post _ _ _),
        by simp [Task.Fits]⟩
    · exact .done (ObeysBut.of_stand (hinfo i.one_le_counted) (.post _ _ _))

theorem Bay.restartPhase_ordinary (x : Bay) : x.restartPhase.ordinary = true := by
  unfold Bay.restartPhase
  repeat' split
  all_goals rfl

theorem BayKind.hasPhase_faulted {k : BayKind} (h : k ≠ .absent) : k.HasPhase .faulted :=
  ⟨fun ha => absurd ha h, fun _ => nofun, fun _ => .inr (.inr rfl)⟩

theorem BayKind.hasPhase_released {k : BayKind} (h : k ≠ .absent) : k.HasPhase .released :=
  ⟨fun ha => absurd ha h, fun _ => nofun, fun _ => .inr (.inl rfl)⟩

theorem BayKind.hasPhase_closedLocked {k : BayKind} (h : k ≠ .absent) : k.HasPhase .closedLocked :=
  ⟨fun ha => absurd ha h, fun _ => nofun, fun _ => .inl rfl⟩

theorem kind_ne_absent_of_sliding (h : s.sliding b = true) : s.kind b ≠ .absent := by
  rw [(sliding_iff s b).mp h]; exact nofun

/-- A retry is granted to a movement, and a SLIDING bay alone has one (spec/07 R132). -/
theorem Obeys.retry (h : Obeys l e.s) (hfitted : l = .phase → e.s.kind b ≠ .absent) (c : FaultCode)
    (hgranted : e.s.retryGranted b c = true) (hfrom : (e.s.bay b).phase ≠ .faulted) : Obeys l (e.retry b c).s := by
  have hmovement : (e.s.bay b).movement ≠ .none := by
    simp only [State.retryGranted, Bool.and_eq_true, bne_iff_ne, ne_eq] at hgranted
    exact hgranted.1.1
  have hk : l = .phase → e.s.sliding b = true := fun hl => by
    rw [sliding_iff]
    cases hkind : e.s.kind b with
    | sliding => rfl
    | absent => exact absurd hkind (hfitted hl)
    | escape => exact absurd ((h.bays b id).movement hl (.inl hkind)) hmovement
    | endDoor => exact absurd ((h.bays b id).movement hl (.inr hkind)) hmovement
  have hcounted := h.onBay hk (fun y => { y with retry := y.retry + 1, reclose := 0 }) rfl rfl rfl rfl rfl
  have hposted := ObeysBut.of_stand hcounted
    (.post .faultRetry (some b) (highLow c.number ((e.s.bay b).retry + 1)))
  exact Obeys.enter_ordinary (e := (e.onBay b (fun y => { y with retry := y.retry + 1, reclose := 0 })).on
      (fun s => s.post .faultRetry (some b) (highLow c.number ((e.s.bay b).retry + 1)))) hposted hk _
    (by simpa [State.bay, State.setBay, State.post] using hfrom) (Bay.restartPhase_ordinary _)

theorem Obeys.writeFrame (h : Obeys l e.s) (c : FaultCode) (d : Nat) (hfrom : (e.s.bay b).phase ≠ .faulted) :
    Obeys l (e.writeFrame b c d .advised .advised).s :=
  ObeysBut.of_stand (h.setFrame (b := b) (fun _ => ⟨⟨fun hp => absurd hp hfrom, by simp [State.newFrame]⟩, State.newFrame_counted _ _ _ _ _ _ _⟩))
    (.post _ _ _)

theorem Obeys.fault (h : Obeys l e.s) (hfitted : l = .phase → e.s.kind b ≠ .absent) (c : FaultCode) (d : Nat) :
    Obeys l ((e.writeFrame b c d .active .faulted).enter b .faulted).s := by
  have hwritten : LawStands (· = b) e.s (e.writeFrame b c d .active .faulted).s :=
    (LawStands.of_setBay (p := (· = b)) b _ rfl).trans (.post _ _ _)
  have hbay : ((e.writeFrame b c d .active .faulted).s.bay b)
      = { e.s.bay b with
          frame := e.s.newFrame .active c d (e.s.bay b).phase (e.s.bay b).movement (e.s.bay b).retry } := by
    simp [Ev.writeFrame, State.setFrame, State.postTaken, State.bay, State.setBay, State.post]
  refine ObeysBut.enter (h.but.of_stand hwritten) .faulted ?_ ?_ ?_
  · rw [hwritten.isMember, hbay]
    exact fun hl hm => ⟨((h.bays b id).member hl hm).1, nofun⟩
  · rw [hwritten.kind]
    exact fun hl => BayKind.hasPhase_faulted (hfitted hl)
  · rw [hbay]
    exact fun _ => ⟨⟨fun _ => rfl, fun _ => rfl⟩, State.newFrame_counted _ _ _ _ _ _ _⟩

theorem Lawful.raise (h : Obeys l e.s) (c : FaultCode) (d : Nat)
    (hfits : l = .phase → e.s.sliding b = true ∨ e.s.kind b ≠ .absent ∧ c.ofMovement = false) :
    Lawful l s (e.raise b c d) := by
  have hfitted : l = .phase → e.s.kind b ≠ .absent := fun hl =>
    (hfits hl).elim kind_ne_absent_of_sliding And.left
  have htasks (p : PlatformEffect) : ∀ u ∈ Task.effect p c :: Sys2Proof.Machine.entered b, u.Fits l s := by
    simp [Sys2Proof.Machine.entered, Task.Fits]
  simp only [Ev.raise]
  split
  · exact .raiseNested h c
  · next hfaulted =>
    have hfrom : (e.s.bay b).phase ≠ .faulted := by simpa using hfaulted
    split
    · next hgranted => exact ⟨Obeys.retry h hfitted c hgranted hfrom, htasks _⟩
    · split
      · have hwritten := h.writeFrame c d hfrom
        split
        · next hmovement =>
          have hk : l = .phase → (e.writeFrame b c d .advised .advised).s.sliding b = true := fun hl =>
            (hfits hl).elim id (fun hne => absurd hmovement (by simp [hne.2]))
          refine ⟨hwritten.enter_ordinary hk .stopped ?_ rfl, htasks _⟩
          simpa [Ev.writeFrame, State.setFrame, State.postTaken, State.bay, State.setBay, State.post] using hfrom
        · exact ⟨hwritten, by simp [Task.Fits]⟩
      · exact ⟨h.fault hfitted c d, htasks _⟩

/-- The law of the phases has a conflict task name a SLIDING bay: a fault at entry is one of a SLIDING bay. -/
theorem Lawful.raiseAtEntry (h : Obeys l e.s) (c : FaultCode) (d : Nat) (hk : l = .phase → e.s.sliding b = true) :
    Lawful l e.s (e.raiseAtEntry b c d) := by
  have hraise : Lawful l e.s (e.raise b c d) := .raise h c d (fun hl => .inl (hk hl))
  refine ⟨hraise.obeys, fun u hu => ?_⟩
  simp only [Ev.raiseAtEntry, List.mem_append] at hu
  rcases hu with hu | hu
  · exact hraise.fits u hu
  · split at hu
    · rw [List.mem_singleton.mp hu]; exact hk
    · exact absurd hu (by simp)

end

end Sys2Proof.Machine
end

section
/-! The tasks of platform effects, of releases, of the fire latch and of BAY_COMMAND, under the same three laws; then every task,
and a run of them. -/

namespace Sys2Proof.Machine

section

variable {l : Law} {s : State} {e : Ev} {b : BayIx}

/-! ### The train, the mode and the platform frame -/

/-- The train changes, and the mode is not STARTING after it; every bay of the new map was in the old one. -/
theorem Obeys.of_train (h : Obeys l s) {t : State} (hrunning : t.mode.mode ≠ .starting)
    (htrain : l ≠ .frame → t.train.Obeys t.sliding) (hmap : ∀ b, t.isMember b = true → s.isMember b = true)
    (hplatform : t.platformFrame = s.platformFrame) (hworking : t.store.working = s.store.working)
    (hbays : t.bays = s.bays) : Obeys l t := by
  refine ⟨hrunning, htrain, fun hl => by rw [hplatform]; exact h.platform hl, fun c hc => ?_⟩
  have hkind : t.kind c = s.kind c := by simp only [State.kind, State.bayRecord, hworking]
  have hbay : t.bay c = s.bay c := by simp only [State.bay, hbays]
  have hx := h.bays c hc
  rw [hkind, hbay]
  exact ⟨fun hl hm => hx.member hl (hmap c hm), hx.kind, hx.movement, hx.stuck, hx.faulted, hx.counted⟩

/-- Every map member is SLIDING (spec/02 R36, R43). -/
theorem Obeys.sliding_of_member (h : Obeys l s) (hl : l ≠ .frame) (hb : b ∈ s.train.map) : s.sliding b = true := by
  have htrain := h.train hl
  obtain ⟨a, ha⟩ := Option.isSome_iff_exists.mp (htrain.matched b hb)
  have hab : a.bay = b := by simpa using List.find?_some ha
  exact hab ▸ htrain.aligned a (List.mem_of_find?_eq_some ha)

theorem State.recordPlatform_counted (s : State) (c : FaultCode) (d : Nat) :
    (s.recordPlatform c d).platformFrame.Counted := by
  simp only [State.recordPlatform]
  split
  · next i _ _ =>
    split
    · exact fun _ => ⟨{ i.counted with later := some c }, rfl, i.one_le_counted⟩
    · exact fun _ => ⟨i.counted, rfl, i.one_le_counted⟩
  · exact fun _ => ⟨_, rfl, Nat.le_refl 1⟩

theorem State.recordPlatform_kind (s : State) (c : FaultCode) (d : Nat) (b : BayIx) :
    (s.recordPlatform c d).kind b = s.kind b := State.kept_kind (State.kept_same (s.kept_recordPlatform c d)) b

theorem State.recordPlatform_sliding (s : State) (c : FaultCode) (d : Nat) :
    (s.recordPlatform c d).sliding = s.sliding := by
  funext b; simp only [State.sliding, State.recordPlatform_kind]

theorem Obeys.recordPlatform (h : Obeys l s) (c : FaultCode) (d : Nat) : Obeys l (s.recordPlatform c d) := by
  refine ⟨by rw [State.recordPlatform_mode]; exact h.running, fun hl => ?_, fun _ => s.recordPlatform_counted c d,
    fun b hb => ?_⟩
  · rw [State.recordPlatform_sliding, State.recordPlatform_train]; exact h.train hl
  · simp only [State.recordPlatform_kind, State.isMember, State.bay, State.recordPlatform_train, State.recordPlatform_bays]
    exact h.bays b hb

theorem Lawful.raiseFace (h : Obeys l e.s) (c : FaultCode) (d : Nat) : Lawful l s (e.raiseFace c d) :=
  ⟨h.recordPlatform c d, by simp [Ev.raiseFace, Task.Fits]⟩

theorem Obeys.changeMode (h : Obeys l s) {m : Mode} (hm : m ≠ .starting) : Obeys l (s.changeMode m) :=
  h.of_train hm h.train (fun _ => id) rfl rfl rfl

theorem Lawful.enterHalted (h : Obeys l e.s) (cause : HaltCause) : Lawful l s (e.enterHalted cause) := by
  unfold Ev.enterHalted
  split
  · exact .done h
  · have hcaused : Obeys l { e.s with mode := { e.s.mode with haltCause := cause } } :=
      h.of_train h.running h.train (fun _ => id) rfl rfl rfl
    refine ⟨hcaused.changeMode nofun, fun u hu => ?_⟩
    rcases List.mem_append.mp hu with hu | hu
    · exact Task.fits_map (f := .haltStop) (fun _ => trivial) _ u hu
    · split at hu
      · exact Task.fits_map (f := .fireRelease) (fun _ => trivial) _ u hu
      · exact absurd hu (by simp)

/-- The train's state becomes one in which a map may stand. -/
theorem Obeys.setTrainState (h : Obeys l s) {q : TrainState} (hq : q ≠ .empty ∧ q ≠ .announced ∧ q ≠ .berthed) :
    Obeys l { s with train := { s.train with state := q } } := by
  obtain ⟨hempty, hannounced, hberthed⟩ := hq
  refine h.of_train h.running (fun hl => ?_) (fun _ => id) rfl rfl rfl
  have htrain := h.train hl
  exact ⟨fun hearly => by rcases hearly with h | h | h <;> contradiction, htrain.aligned, htrain.matched, htrain.distinct⟩

theorem Lawful.closeTrain (h : Obeys l e.s) (origin : Nat) (reported : Bool) : Lawful l e.s (e.closeTrain origin reported) := by
  refine ⟨ObeysBut.of_stand (h.setTrainState (q := .closing) ⟨nofun, nofun, nofun⟩) (.post _ _ _), fun u hu => ?_⟩
  rcases List.mem_cons.mp hu with rfl | hu
  · trivial
  · obtain ⟨c, hc, rfl⟩ := List.mem_map.mp hu
    exact fun hl => h.sliding_of_member (by simp [hl]) hc

theorem Lawful.effect (h : Obeys l e.s) (p : PlatformEffect) (c : FaultCode) : Lawful l e.s (e.effect p c) := by
  cases p with
  | none => exact .done h
  | closeMap =>
    simp only [Ev.effect, Ev.closeMapEffect]
    split
    · exact .closeTrain h _ _
    · exact .done h
  | halt => exact .enterHalted h _

theorem Train.reset_obeys (sliding : BayIx → Bool) : Train.reset.Obeys sliding :=
  ⟨fun _ => rfl, fun _ => nofun, fun _ => nofun, .nil, .nil⟩

theorem Lawful.returnEmpty (h : Obeys l e.s) (k : EventKind) (v : Nat) : Lawful l s (e.returnEmpty k v) := by
  have hreset : Obeys l { e.s with train := Train.reset } :=
    h.of_train h.running (fun _ => Train.reset_obeys _) (by simp [State.isMember, Train.reset]) rfl rfl rfl
  exact ⟨ObeysBut.of_stand hreset (LawStands.trans (.post k none v) (.setGap .none)),
    Task.fits_map (f := .presence) (fun _ => trivial) _⟩

theorem Lawful.departWatch (h : Obeys l e.s) : Lawful l s e.departWatch := by
  unfold Ev.departWatch
  split
  · exact .returnEmpty h _ _
  · exact .done h

/-! ### Releases and derived phases -/

/-- A bay that is not FAULTED, or whose frame has been cleared, enters a phase other than FAULTED. -/
theorem Bay.Obeys.enter_clearing {k : BayKind} {m : Bool} {x : Bay} (hx : x.Obeys l k m) (r : BayRecord) (p : Platform)
    {q : Phase} (hq : q ≠ .faulted) (hmember : l ≠ .frame → m = true → q ≠ .isolated) (hkind : l = .phase → k.HasPhase q) :
    (({ x with frame := x.frameAgain } : Bay).enter r p q).Obeys l k m := by
  refine Bay.obeys_enter r p (fun hl hm => ⟨(hx.member hl hm).1, hmember hl hm⟩) hkind (fun hl => ?_)
  have hactive := hx.faulted hl
  have hcounted := hx.counted hl
  by_cases hfaulted : x.phase = .faulted
  · have hframe : x.frameAgain = x.frame.clear := if_pos hfaulted
    dsimp only
    rw [hframe]
    exact ⟨⟨fun h => absurd h hq, nofun⟩, fun _ => hcounted (by rw [hactive.mp hfaulted]; exact nofun)⟩
  · have hframe : x.frameAgain = x.frame := if_neg hfaulted
    dsimp only
    rw [hframe, ← hactive]
    exact ⟨⟨fun h => absurd h hq, fun h => absurd h hfaulted⟩, hcounted⟩

theorem Obeys.enterReleased (h : Obeys l e.s) (hfitted : l = .phase → e.s.kind b ≠ .absent) (k : ReleaseKind) :
    Obeys l (e.enterReleased b k).s := by
  have hst : LawStands (· = b) e.s (e.enterReleased b k).s := by
    have hopened : LawStands (· = b) e.s ((e.enter b .released).on (fun s => s.openRecord k (some b) none)).s :=
      (LawStands.enter (p := (· = b)) b .released rfl).trans (.openRecord k (some b) none)
    simp only [Ev.enterReleased]
    split
    · exact hopened.trans (.clearFrame _ b rfl)
    · exact hopened
  have hbay : (e.enterReleased b k).s.bay b
      = ({ e.s.bay b with frame := (e.s.bay b).frameAgain } : Bay).enter (e.s.bayRecord b) e.s.platform .released := by
    have hopened : ((e.enter b .released).s.openRecord k (some b) none).bay b
        = (e.s.bay b).enter (e.s.bayRecord b) e.s.platform .released := by
      rw [← Ev.enter_bay_self]; simp only [State.bay, State.openRecord_bays]
    simp only [Ev.enterReleased, Bay.frameAgain, beq_iff_eq]
    split
    · rw [Ev.on_s, State.clearFrame_bay_self, Ev.on_s, hopened]; rfl
    · rw [Ev.on_s, hopened]
  refine (h.but.of_stand hst).whole ?_
  rw [hst.kind, hst.isMember, hbay]
  exact (h.bays b id).enter_clearing _ _ nofun (fun _ _ => nofun) (fun hl => BayKind.hasPhase_released (hfitted hl))

theorem Lawful.enterReleased (h : Obeys l e.s) (hfitted : l = .phase → e.s.kind b ≠ .absent) (k : ReleaseKind) :
    Lawful l s (e.enterReleased b k, Sys2Proof.Machine.entered b) := .entered (h.enterReleased hfitted k)

theorem BayKind.hasPhase_derived (k : BayKind) (i : BayLines) : k.HasPhase (derivedPhase k i) := by
  have hdoor {d : BayKind} (hd : d = .escape ∨ d = .endDoor) :
      derivedPhase d i = .closedLocked ∨ derivedPhase d i = .released ∨ derivedPhase d i = .faulted := by
    rcases hd with rfl | rfl <;> simp only [derivedPhase] <;> repeat' split
    all_goals simp
  refine ⟨?_, ?_, fun hk => hdoor hk⟩
  · rintro rfl; rfl
  · rintro rfl
    simp only [derivedPhase]
    repeat' split
    all_goals simp

theorem derivedPhase_ne_isolated (k : BayKind) (i : BayLines) : derivedPhase k i ≠ .isolated := by
  unfold derivedPhase
  repeat' split
  all_goals simp

/-- A FAULTED bay is given an ACTIVE frame. -/
theorem Bay.obeys_faulted {k : BayKind} {m : Bool} {x : Bay} {f : Frame} (hphase : x.phase = .faulted)
    (hx : l ≠ .frame → x.Obeys l k m) (hactive : f.state = .active) (hcounted : f.Counted) :
    Bay.Obeys l k m { x with frame := f } :=
  ⟨fun hl => (hx hl).member hl, fun hl => (hx (by simp [hl])).kind hl, fun hl => (hx (by simp [hl])).movement hl,
    fun hl => (hx (by simp [hl])).stuck hl, fun _ => ⟨fun _ => hactive, fun _ => hphase⟩, fun _ => hcounted⟩

/-- A bay derived FAULTED has its conflict taken (spec/07 R142): its frame becomes ACTIVE. -/
theorem ObeysBut.takeDerivedConflict (h : ObeysBut l (· = b) e.s) (hphase : (e.s.bay b).phase = .faulted)
    (hx : l ≠ .frame → (e.s.bay b).Obeys l (e.s.kind b) (e.s.isMember b)) : Obeys l (e.takeDerivedConflict b).s := by
  have written {f : Frame} (hactive : f.state = .active) (hcounted : f.Counted) : Obeys l (e.s.setFrame b f) :=
    h.setBay (Bay.obeys_faulted hphase hx hactive hcounted)
  exact ObeysBut.of_stand (written rfl (State.newFrame_counted _ _ _ _ _ _ _)) (.post _ _ _)

/-- A bay takes its derived phase (spec/01 R23), its frame not being ACTIVE before. -/
theorem Lawful.derive (h : ObeysBut l (· = b) e.s) (hhold : l ≠ .frame → e.s.isMember b = true → (e.s.bay b).hold = false)
    (hframe : l = .frame → (e.s.bay b).frame.state ≠ .active ∧ (e.s.bay b).frame.Counted) : Lawful l s (e.derive b) := by
  let rest : Ev := e.onBay b (fun x => { x with movement := .none, retry := 0, reclose := 0 })
  let q : Phase := derivedPhase (e.s.kind b) (e.s.bay b).lines
  have hrest : LawStands (· = b) e.s rest.s := .of_setBay b _ rfl
  have hst : LawStands (· = b) rest.s (rest.enter b q).s := .enter b q rfl
  have hbay : rest.s.bay b = { e.s.bay b with movement := .none, retry := 0, reclose := 0 } := State.bay_setBay_self _ _ _
  have hmember : l ≠ .frame → rest.s.isMember b = true → (rest.s.bay b).hold = false ∧ q ≠ .isolated := by
    rw [hbay, hrest.isMember]
    exact fun hl hm => ⟨hhold hl hm, derivedPhase_ne_isolated _ _⟩
  have hkind : l = .phase → (rest.s.kind b).HasPhase q := fun _ => BayKind.hasPhase_derived _ _
  have hentered (hq : q ≠ .faulted) : Obeys l (rest.enter b q).s := by
    refine ObeysBut.enter (h.of_stand hrest) q hmember hkind (fun hl => ?_)
    rw [hbay]
    exact ⟨⟨fun h => absurd h hq, fun h => absurd h (hframe hl).1⟩, (hframe hl).2⟩
  have htasks : ∀ u ∈ Sys2Proof.Machine.entered b ++ [.fireBack b], u.Fits l s := by
    simp [Sys2Proof.Machine.entered, Task.Fits]
  simp only [Ev.derive]
  split
  · next hq =>
    have hopen : Obeys l (rest.enter b q).s := hentered (hq.trans_ne nofun)
    refine ⟨?_, htasks⟩
    split
    · exact hopen
    · exact hopen.of_stand (.openRecord _ _ _)
  · next hq =>
    refine ⟨ObeysBut.takeDerivedConflict (e := rest.enter b q) ((h.of_stand hrest).of_stand hst) ?_ (fun hl => ?_),
      by simpa [Task.Fits] using htasks⟩
    · rw [Ev.enter_bay_self]; exact hq
    · rw [hst.kind, hst.isMember, Ev.enter_bay_self]
      exact Bay.obeys_enter _ _ hmember hkind (fun hf => absurd hf hl)
  all_goals
    next hq => exact ⟨hentered (hq.trans_ne nofun), htasks⟩

/-- A RELEASED bay takes its derived phase once its record is restored (spec/05 R101, R112). -/
theorem Lawful.deriveBack (h : Obeys l e.s) (hphase : (e.s.bay b).phase = .released) :
    Lawful l s ((e.on (fun s => s.restoreBay b)).derive b) := by
  have hst : AllLawStands e.s (e.s.restoreBay b) := .restoreRecord _
  have hback : Obeys l (e.s.restoreBay b) := h.of_stand hst
  have hx := hback.bays b id
  refine .derive hback.but (fun hl hm => (hx.member hl hm).1) (fun hl => ⟨fun hactive => ?_, hx.counted hl⟩)
  have hfaulted := (hx.faulted hl).mpr hactive
  rw [(hst.bays b id).phase, hphase] at hfaulted
  exact absurd hfaulted nofun

theorem State.releasedBy_phase {k : ReleaseKind} (h : s.releasedBy k b = true) : (s.bay b).phase = .released := by
  simp only [State.releasedBy, Bool.and_eq_true, beq_iff_eq] at h
  exact h.1

theorem Lawful.keyActive (h : Obeys l e.s) (hk : e.s.sliding b = true) : Lawful l s (e.keyActive b) := by
  unfold Ev.keyActive
  split
  · exact .done h
  · exact .done h
  · exact .done h
  all_goals exact .enterReleased h (fun _ => kind_ne_absent_of_sliding hk) _

theorem Lawful.keyInactive (h : Obeys l e.s) : Lawful l s (e.keyInactive b) := by
  unfold Ev.keyInactive
  split
  · next hreleased => exact .deriveBack h (State.releasedBy_phase hreleased)
  · exact .done h

/-- An input of a door takes it between CLOSED_LOCKED and RELEASED, or raises its conflict (spec/01 R19). -/
theorem Lawful.doorInput (h : Obeys l e.s) (hdoor : e.s.kind b = .escape ∨ e.s.kind b = .endDoor) :
    Lawful l e.s (e.doorInput b) := by
  have hfitted : e.s.kind b ≠ .absent := by rcases hdoor with hk | hk <;> rw [hk] <;> exact nofun
  simp only [Ev.doorInput]
  split
  · split
    · exact .done h
    · split
      · exact ⟨h, by simp [Task.Fits, hfitted, FaultCode.ofMovement]⟩
      · exact .enterReleased h (fun _ => hfitted) _
  · next hreleased =>
    split
    · refine .entered (ObeysBut.of_stand (ObeysBut.enter h.but .closedLocked ?_ ?_ ?_) (.restoreRecord _))
      · exact fun hl hm => ⟨((h.bays b id).member hl hm).1, nofun⟩
      · exact fun _ => BayKind.hasPhase_closedLocked hfitted
      · refine fun hl => ⟨?_, (h.bays b id).counted hl⟩
        rw [← (h.bays b id).faulted hl, hreleased]
        exact ⟨nofun, nofun⟩
    · exact .done h
  all_goals exact .done h

/-! ### The fire latch, the loss of the link and the end of maintenance -/

theorem Lawful.fireSet (h : Obeys l e.s) (f : FireSource) : Lawful l s (e.fireSet f) := by
  unfold Ev.fireSet
  split
  · exact .done h
  · have hlatched : AllLawStands e.s { e.s with release := { e.s.release with latch := some f } } :=
      .of_fields rfl rfl rfl rfl rfl
    refine ⟨h.of_stand (hlatched.trans (.openRecord .fireLatch none (some f))), ?_⟩
    split
    · exact Task.fits_map (f := .fireRelease) (fun _ => trivial) _
    · exact Task.fits_map (f := .fireOpen) (fun _ => trivial) _

theorem Lawful.fireOpen (h : Obeys l e.s) : Lawful l s (e.fireOpen b) := by
  simp only [Ev.fireOpen]
  split
  · next hopen =>
    simp only [Bool.and_eq_true] at hopen
    exact .openClaim h (fun _ => hopen.1.1.1)
  · exact .done h

theorem Lawful.fireRelease (h : Obeys l e.s) : Lawful l s (e.fireRelease b) := by
  simp only [Ev.fireRelease]
  split
  · next hrelease =>
    simp only [Bool.and_eq_true] at hrelease
    exact .enterReleased h (fun _ => kind_ne_absent_of_sliding hrelease.1.1) _
  · exact .done h

theorem Lawful.fireBack (h : Obeys l e.s) : Lawful l s (e.fireBack b) := by
  simp only [Ev.fireBack]
  split
  · exact .done h
  · next hback =>
    have hk : e.s.sliding b = true := by
      simp only [Bool.or_eq_true, not_or, Bool.not_eq_true, Bool.not_eq_false'] at hback
      exact hback.1.1.1.2
    split
    · exact .enterReleased h (fun _ => kind_ne_absent_of_sliding hk) _
    · exact .openClaim h (fun _ => hk)

theorem Lawful.fireClose (h : Obeys l e.s) : Lawful l s (e.fireClose b) := by
  simp only [Ev.fireClose]
  split
  · next hclose =>
    simp only [Bool.and_eq_true] at hclose
    exact .closeClaim h (fun _ => hclose.1.1)
  · exact .done h

theorem Lawful.fireUndo (h : Obeys l e.s) : Lawful l s (e.fireUndo b) := by
  unfold Ev.fireUndo
  split
  · next hreleased => exact .deriveBack h (State.releasedBy_phase hreleased)
  · exact .done h

theorem Lawful.fireReset (h : Obeys l e.s) : Lawful l s e.fireReset := by
  simp only [Ev.fireReset]
  split
  · exact .done h
  · split
    · exact .done (h.of_stand (.post _ _ _))
    · have hcleared : AllLawStands e.s { e.s with release := { e.s.release with latch := none } } :=
        .of_fields rfl rfl rfl rfl rfl
      refine ⟨h.of_stand (hcleared.trans (.restoreRecord _)), ?_⟩
      split
      · exact Task.fits_map (f := .fireUndo) (fun _ => trivial) _
      · intro u hu
        rcases List.mem_append.mp hu with hu | hu
        · exact Task.fits_map (f := .fireClose) (fun _ => trivial) _ u hu
        · split at hu
          · exact Task.fits_map (f := .linkLoss) (fun _ => trivial) _ u hu
          · exact absurd hu (by simp)

theorem Lawful.linkLoss (h : Obeys l e.s) : Lawful l s (e.linkLoss b) := by
  simp only [Ev.linkLoss]
  split
  · exact .done h
  · next hsliding =>
    have hk : l = .phase → e.s.sliding b = true := fun _ => by simpa using hsliding
    repeat' split
    all_goals first | exact .closeClaim h hk | exact .stopBay h | exact .done h

theorem Lawful.exitClose (h : Obeys l e.s) : Lawful l s (e.exitClose b) := by
  simp only [Ev.exitClose]
  split
  · next hexit =>
    simp only [Bool.and_eq_true] at hexit
    exact .closeClaim h (fun _ => hexit.1.1.1.1)
  · exact .done h

theorem Lawful.leaveMaintenance (h : Obeys l e.s) : Lawful l s e.leaveMaintenance :=
  ⟨h.changeMode nofun, Task.fits_map (f := .exitClose) (fun _ => trivial) _⟩

/-! ### BAY_COMMAND on one bay -/

/-- What an accepted action has been judged by (spec/01 R26). -/
theorem State.commandRefusal_none {a : BayAction} (h : s.commandRefusal a b = none) :
    s.kind b ≠ .absent ∧ a.takes (s.kind b) = true ∧ (a = .hold ∨ a = .isolate → s.isMember b = false)
      ∧ a.admitsPhase (s.bay b).phase = true := by
  simp only [State.commandRefusal] at h
  repeat' split at h
  all_goals simp_all

theorem Lawful.isolate (h : Obeys l e.s) (hk : e.s.sliding b = true) (hm : e.s.isMember b = false) :
    Lawful l s (e.isolate b) := by
  have hst : LawStands (· = b) e.s (e.isolate b).1.s := by
    simp only [Ev.isolate]
    split
    · exact (LawStands.enter (p := (· = b)) b .isolated rfl).trans (.clearFrame .isolate b rfl)
    · exact .enter b .isolated rfl
  have hbay : (e.isolate b).1.s.bay b
      = ({ e.s.bay b with frame := (e.s.bay b).frameAgain } : Bay).enter (e.s.bayRecord b) e.s.platform .isolated := by
    simp only [Ev.isolate, Bay.frameAgain, beq_iff_eq]
    split
    · rw [Ev.on_s, State.clearFrame_bay_self, Ev.enter_bay_self]; rfl
    · rw [Ev.enter_bay_self]
  refine ⟨(h.but.of_stand hst).whole ?_, fits_entered l s b⟩
  rw [hst.kind, hst.isMember, hbay]
  exact (h.bays b id).enter_clearing _ _ nofun (fun _ h => by simp [hm] at h)
    (fun _ => (sliding_iff _ _).mp hk ▸ BayKind.hasPhase_sliding nofun)

/-- A map member is not ISOLATED, so RESTORE sets the hold of no member. -/
theorem Lawful.restore (h : Obeys l e.s) (hk : e.s.sliding b = true) (hphase : (e.s.bay b).phase = .isolated) :
    Lawful l s (e.restore b) := by
  have hx := h.bays b id
  let held : Ev := (e.enter b .closedLocked).onBay b (fun x => { x with hold := true })
  have hst : LawStands (· = b) e.s (e.enter b .closedLocked).s := .enter b _ rfl
  have hfitted : e.s.kind b ≠ .absent := kind_ne_absent_of_sliding hk
  have hheld : Obeys l held.s := by
    refine (h.but.of_stand hst).setBay ?_
    rw [hst.kind, hst.isMember, Ev.enter_bay_self]
    refine Bay.obeys_enter (y := { e.s.bay b with hold := true }) (e.s.bayRecord b) e.s.platform (fun hl hm => ?_)
      (fun _ => BayKind.hasPhase_closedLocked hfitted) (fun hl => ⟨?_, hx.counted hl⟩)
    · exact absurd hphase (hx.member hl hm).2
    · rw [← hx.faulted hl, hphase]
      exact ⟨nofun, nofun⟩
  refine ⟨?_, by simp [Ev.restore, Sys2Proof.Machine.entered, Task.Fits]⟩
  simp only [Ev.restore]
  split
  · exact hheld.enterReleased (fun _ => by rw [Ev.onBay_s, State.setBay_kind, hst.kind]; exact hfitted) _
  · exact hheld

theorem Lawful.clearFault (h : Obeys l e.s) (hphase : (e.s.bay b).phase = .faulted) : Lawful l s (e.clearFault b) := by
  have hx := h.bays b id
  have hst : LawStands (· = b) e.s (e.s.clearFrame .clearFault b) := .clearFrame _ b rfl
  have hbay := e.s.clearFrame_bay_self .clearFault b
  refine .derive (h.but.of_stand hst) (fun hl hm => ?_) (fun hl => ?_)
  · rw [Ev.on_s, hbay]; exact (hx.member hl (hst.isMember b ▸ hm)).1
  · rw [Ev.on_s, hbay]
    exact ⟨nofun, fun _ => hx.counted hl (by rw [(hx.faulted hl).mp hphase]; exact nofun)⟩

theorem Obeys.setHold (h : Obeys l e.s) (v : Bool) (hv : l ≠ .frame → e.s.isMember b = true → v = false) :
    Obeys l (e.onBay b (fun x => { x with hold := v })).s :=
  have hx := h.bays b id
  h.but.setBay ⟨fun hl hm => ⟨hv hl hm, (hx.member hl hm).2⟩, hx.kind, hx.movement, hx.stuck, hx.faulted, hx.counted⟩

theorem Lawful.act (h : Obeys l e.s) {a : BayAction} (htakes : a.takes (e.s.kind b) = true)
    (hmember : a = .hold ∨ a = .isolate → e.s.isMember b = false) (hphase : a.admitsPhase (e.s.bay b).phase = true) :
    Lawful l s (e.act a b) := by
  have hk (ha : a ≠ .clearFault) : e.s.sliding b = true := by cases a <;> first | exact htakes | exact absurd rfl ha
  cases a with
  | opens => exact .openClaim h (fun _ => hk nofun)
  | closes => exact .closeClaim h (fun _ => hk nofun)
  | stop => exact .stopBay h
  | hold => exact .done (h.setHold true (fun _ hm => by simp [hmember (.inl rfl)] at hm))
  | free => exact .done (h.setHold false (fun _ _ => rfl))
  | isolate => exact .isolate h (hk nofun) (hmember (.inr rfl))
  | restore => exact .restore h (hk nofun) (by simpa [BayAction.admitsPhase] using hphase)
  | clearFault => exact .clearFault h (by simpa [BayAction.admitsPhase] using hphase)

theorem Lawful.command (h : Obeys l e.s) (a : BayAction) : Lawful l s (e.command a b) := by
  unfold Ev.command
  split
  · exact .done h
  · next hnone =>
    obtain ⟨_, htakes, hmember, hphase⟩ := State.commandRefusal_none hnone
    exact .act (e := { e with accepted := e.accepted ++ [b] }) h htakes hmember hphase

/-! ### Every task -/

theorem Task.lawful_perform {t : Task} (ht : t.Fits l e.s) (h : Obeys l e.s) : Lawful l e.s (t.perform e) := by
  cases t with
  | formGap => exact .formGap h
  | presence b => exact .presence h
  | arrive b => exact .arrive h
  | obstruct atEntry b => exact .obstruct h ht atEntry
  | conflict b => exact .raiseConflict h ht
  | raise b c d => exact .raise h c d ht
  | raiseAtEntry b c d => exact .raiseAtEntry h c d ht
  | raiseFace c d => exact .raiseFace h c d
  | effect p c => exact .effect h p c
  | openMember again b => exact .openMember h ht again
  | closeMember reported b => exact .closeMember h ht reported
  | haltStop b => exact .stopBay h
  | fireSet f => exact .fireSet h f
  | fireOpen b => exact .fireOpen h
  | fireRelease b => exact .fireRelease h
  | fireBack b => exact .fireBack h
  | fireClose b => exact .fireClose h
  | fireUndo b => exact .fireUndo h
  | linkLoss b => exact .linkLoss h
  | postExpired period => exact .done (h.of_stand (.post _ _ _))
  | departWatch => exact .departWatch h
  | exitClose b => exact .exitClose h
  | command a b => exact .command h a

/-- Tasks that fit keep the law, whether or not they come to their end within the bound. -/
theorem Obeys.run (n : Nat) (ts : List Task) (e : Ev) (h : Obeys l e.s) (hts : ∀ u ∈ ts, u.Fits l e.s) :
    Obeys l (run n ts e).s := by
  induction n generalizing ts e with
  | zero =>
    cases ts with
    | nil => exact h
    | cons t ts => exact h.of_stand (.of_fields rfl rfl rfl rfl rfl)
  | succ n ih =>
    cases ts with
    | nil => exact h
    | cons t ts =>
      have hnext := Task.lawful_perform (hts t (by simp)) h
      refine ih _ _ hnext.obeys (fun u hu => ?_)
      have hfits : u.Fits l e.s := by
        rcases List.mem_append.mp hu with hu | hu
        · exact hnext.fits u hu
        · exact hts u (List.mem_cons_of_mem t hu)
      exact hfits.of_kind (fun b => State.kept_kind (State.kept_same (Task.kept_perform t e)) b)

end

end Sys2Proof.Machine
end

section
/-! The end of an event, the end of STARTING and the beginnings of events, under the same three laws. -/

namespace Sys2Proof.Machine

section

variable {l : Law} {s t : State} {e : Ev} {b : BayIx}

/-! ### The end of an event -/

/-- A stuck timer runs after an event where its conditions hold, and they ask for a SLIDING bay in CLOSED_LOCKED
(spec/03 R73). -/
theorem State.stuckConditions_locked {level marked : Bool} {period : Nat} {t : Option Timer}
    (h : (stuckTimer (s.stuckConditions b level marked) period t).isSome = true) :
    s.kind b = .sliding ∧ (s.bay b).phase = .closedLocked := by
  have hholds : s.stuckConditions b level marked = true := by
    by_contra hne
    simp [stuckTimer, hne] at h
  simp only [State.stuckConditions, Bool.and_eq_true, beq_iff_eq] at hholds
  exact ⟨(sliding_iff s b).mp hholds.1.1.1.1, hholds.1.2⟩

theorem Obeys.stuckWatch (h : Obeys l s) (b : BayIx) : Obeys l (s.stuckWatch b) := by
  have hx := h.bays b id
  simp only [State.stuckWatch]
  split
  · exact h
  · refine h.but.setBay ⟨hx.member, hx.kind, hx.movement, fun _ hs => ?_, hx.faulted, hx.counted⟩
    rcases hs with hs | hs <;> exact State.stuckConditions_locked hs

theorem Obeys.watchStuck (h : Obeys l s) : Obeys l s.watchStuck := by
  have hfold (bs : List BayIx) (u : State) (hu : Obeys l u) : Obeys l (bs.foldl State.stuckWatch u) := by
    induction bs generalizing u with
    | nil => exact hu
    | cons c bs ih => exact ih _ (hu.stuckWatch c)
  exact hfold allBays s h

theorem LawStands.resumeStore (s : State) : AllLawStands s s.resumeStore := by
  unfold State.resumeStore
  split
  · exact .of_fields rfl rfl rfl rfl rfl
  · exact .refl _ s

theorem LawStands.formProof (s : State) : AllLawStands s s.formProof := by
  simp only [State.formProof]
  split
  · exact .of_fields rfl rfl rfl rfl rfl
  · exact .of_fields rfl rfl rfl rfl rfl

theorem Obeys.settle (h : Obeys l s) : Obeys l s.settle := by
  have halarm (u : State) : AllLawStands u u.formAlarm := .of_fields rfl rfl rfl rfl rfl
  have hpins (u : State) : AllLawStands u u.formPins := .of_fields rfl rfl rfl rfl rfl
  have hwatched : Obeys l s.resumeStore.watchStuck := Obeys.watchStuck (h.of_stand (.resumeStore s))
  rw [State.settle_eq]
  exact hwatched.of_stand (((halarm _).trans (.formProof _)).trans (hpins _))

/-- An event that begins lawfully keeps the law. -/
theorem Lawful.finish {p : Ev × List Task} (h : Lawful l p.1.s p) : Obeys l (p.1.finish p.2).s := by
  rw [Ev.finish, Ev.on_s]
  exact Obeys.settle (Obeys.run Config.eventBound p.2 p.1 h.obeys h.fits)

theorem Lawful.event {f : Ev → Ev × List Task} (h : Lawful l (f (Ev.start s)).1.s (f (Ev.start s))) : Obeys l (s.event f) := by
  rw [State.event]
  exact h.finish

/-- Tasks that fit the kinds that stood fit the same kinds after a part of the event. -/
theorem Lawful.of_kind {u : State} {p : Ev × List Task} (h : Lawful l s p) (hkind : ∀ b, u.kind b = s.kind b) :
    Lawful l u p := ⟨h.obeys, fun v hv => (h.fits v hv).of_kind hkind⟩

/-! ### Filtered changes -/

theorem LawStands.setInputLine (n : InputLine) (x : Line) : AllLawStands s (s.setInputLine n x) := by
  cases n with
  | bay b i => exact .of_sameBay b _ ⟨rfl, rfl, rfl, rfl, id, id⟩
  | general n => exact .of_fields rfl rfl rfl rfl rfl

theorem Bay.inputAction_enters {x : Bay} {i : BayInput} {q : Phase} (h : x.inputAction i = .enters q) :
    x.phase ≠ .faulted ∧ q.ordinary = true := by
  simp only [Bay.inputAction] at h
  repeat' split at h
  all_goals simp_all [Phase.ordinary]
  all_goals subst h; rfl

theorem Lawful.slidingInput (h : Obeys l e.s) (hk : e.s.sliding b = true) (i : BayInput) :
    Lawful l e.s (e.slidingInput b i) := by
  have hafter : ∀ u ∈ (if (e.s.bay b).lines.conflictBegins i then [Task.conflict b] else []), u.Fits l e.s := by
    split
    · simp [Task.Fits, hk]
    · simp
  simp only [Ev.slidingInput]
  split
  · exact ⟨h, hafter⟩
  · next q hq =>
    obtain ⟨hfrom, hto⟩ := Bay.inputAction_enters hq
    exact .entered (h.enter_ordinary (fun _ => hk) q hfrom hto)
  · exact ⟨h, List.forall_mem_cons.mpr ⟨fun _ => .inl hk, hafter⟩⟩
  · exact ⟨h.startPause, hafter⟩
  · exact ⟨h, List.forall_mem_cons.mpr ⟨fun _ => hk, hafter⟩⟩

/-- A stuck mark is set or cleared, and its timer dropped. -/
theorem Obeys.setStuck (h : Obeys l e.s) (f : Bay → Bay) (hf : (e.s.bay b).LawStands (f (e.s.bay b))) :
    Obeys l (e.onBay b f).s := h.of_stand (.of_sameBay b _ hf)

theorem Lawful.sensorInput (h : Obeys l e.s) (sensor : Sensor) : Lawful l s (e.sensorInput b sensor) := by
  cases sensor with
  | gap =>
    refine ⟨h.setStuck _ ?_, by simp [Ev.sensorInput, Task.Fits]⟩
    split
    · exact .refl _
    · exact ⟨rfl, rfl, rfl, rfl, nofun, id⟩
  | curtain =>
    refine ⟨h.setStuck _ ?_, by simp [Ev.sensorInput, Task.Fits]⟩
    split
    · exact .refl _
    · exact ⟨rfl, rfl, rfl, rfl, id, nofun⟩

theorem Lawful.bayInput (h : Obeys l e.s) (i : BayInput) : Lawful l e.s (e.bayInput b i) := by
  unfold Ev.bayInput
  split
  · exact .done h
  · next hkind =>
    have hk : e.s.sliding b = true := (sliding_iff _ _).mpr hkind
    cases i with
    | curtain => exact .sensorInput h _
    | gap => exact .sensorInput h _
    | releaseKey =>
      dsimp only
      split
      · exact .keyActive h hk
      · exact .keyInactive h
    | _ => exact .slidingInput h hk _
  · next hkind => cases i <;> first | exact .done h | exact .doorInput h (.inl hkind)
  · next hkind => cases i <;> first | exact .done h | exact .doorInput h (.inr hkind)

theorem Lawful.functionChange (h : Obeys l e.s) (f : LineFunction) (level : Bool) (n : LineIx) :
    Lawful l s (e.functionChange f level n) := by
  unfold Ev.functionChange
  split
  · exact ⟨h, by split <;> simp [Task.Fits]⟩
  · exact ⟨h, by split <;> simp [Task.Fits]⟩
  · split
    · exact .fireReset h
    · exact .done h
  · exact .done (h.of_stand (.of_fields rfl rfl rfl rfl rfl))
  · split
    · exact .leaveMaintenance h
    · exact .done h
  · exact ⟨h, by split <;> simp [Task.Fits]⟩
  all_goals exact .done h

theorem Lawful.berthSensor (h : Obeys l e.s) (n : LineIx) : Lawful l s (e.berthSensor n) := by
  unfold Ev.berthSensor
  split
  · exact .done h
  · split
    · exact .done h
    · exact .done h
    · split
      · exact .done h
      · exact .done (h.of_stand ⟨Iff.rfl, rfl, rfl, rfl, rfl, fun _ => rfl, fun _ _ => .refl _⟩)
    · exact ⟨h, by simp [Task.Fits]⟩
    · exact ⟨h, by simp [Task.Fits]⟩
    · exact .departWatch h

theorem Lawful.generalChange (h : Obeys l e.s) (n : LineIx) : Lawful l s (e.generalChange n) := by
  unfold Ev.generalChange
  split
  · exact .berthSensor h n
  · refine .done (h.of_stand ?_)
    simp only [Ev.on_s, State.generalEdge]
    repeat' split
    all_goals exact .of_fields rfl rfl rfl rfl rfl
  · exact .functionChange h _ _ n

theorem Ev.kept_bayInput (e : Ev) (b : BayIx) (i : BayInput) : (e.bayInput b i).1.s.kept = e.s.kept := by
  have hsensor (sensor : Sensor) : (e.sensorInput b sensor).1.s.kept = e.s.kept := by
    cases sensor
    · exact Ev.kept_onBay e b _ (fun x => by split <;> rfl)
    · exact Ev.kept_onBay e b _ (fun x => by split <;> rfl)
  unfold Ev.bayInput
  split
  · rfl
  · cases i with
    | releaseKey => dsimp only; split <;> simp
    | curtain => exact hsensor _
    | gap => exact hsensor _
    | _ => simp
  · cases i <;> simp
  · cases i <;> simp

theorem Lawful.filteredChange (h : Obeys l e.s) (n : InputLine) : Lawful l (e.filteredChange n).1.s (e.filteredChange n) := by
  have hchanged : Obeys l (e.on (fun s => s.changeLevel n)).s := h.of_stand (.setInputLine n _)
  cases n with
  | bay b i => exact (Lawful.bayInput hchanged i).of_kind (State.kept_kind (State.kept_same (Ev.kept_bayInput _ b i)))
  | general n => exact .generalChange hchanged n

/-! ### Timers -/

theorem Lawful.limitExpires (h : Obeys l e.s) (c : FaultCode) (x : Timer) {q : Phase} (hphase : (e.s.bay b).phase = q)
    (hfitted : q ≠ .notFitted) (hlocked : q ≠ .closedLocked) (hreleased : q ≠ .released) (hfaulted : q ≠ .faulted) :
    Lawful l e.s (e.limitExpires b c x) := by
  refine ⟨h.of_stand (.of_sameBay b _ ⟨rfl, rfl, rfl, rfl, id, id⟩), ?_⟩
  have hk : l = .phase → e.s.sliding b = true := fun hl => h.sliding_of_phase hl hphase hfitted hlocked hreleased hfaulted
  simpa [Ev.limitExpires, Task.Fits] using fun hl => .inl (hk hl)

theorem Lawful.toClosing (h : Obeys l e.s) {q : Phase} (hphase : (e.s.bay b).phase = q) (hfitted : q ≠ .notFitted)
    (hlocked : q ≠ .closedLocked) (hreleased : q ≠ .released) (hfaulted : q ≠ .faulted) : Lawful l s (e.toClosing b) :=
  .entered (h.enter_ordinary (fun hl => h.sliding_of_phase hl hphase hfitted hlocked hreleased hfaulted) .closing
    (hphase.trans_ne hfaulted) rfl)

theorem Lawful.forceClosing (h : Obeys l e.s) (hphase : (e.s.bay b).phase = .warning) (x : Timer) :
    Lawful l s (e.forceClosing b x) := by
  have hentered := h.enter_ordinary (fun hl => h.sliding_of_phase hl hphase nofun nofun nofun nofun) .closing
    (hphase.trans_ne nofun) rfl
  have hforced : AllLawStands (e.enter b .closing).s (e.forceClosing b x).1.s :=
    (LawStands.of_sameBay b { (e.enter b .closing).s.bay b with forced := true } ⟨rfl, rfl, rfl, rfl, id, id⟩).trans
      (.post .closeForced (some b) x.limit)
  exact .entered (hentered.of_stand hforced)

theorem Lawful.markStuck (h : Obeys l e.s) (sensor : Sensor) (hrunning : ((e.s.bay b).stuckTimerOf sensor).isSome = true) :
    Lawful l e.s (e.markStuck b sensor) := by
  have hk : l = .phase → e.s.sliding b = true := fun hl => by
    refine (sliding_iff _ _).mpr ((h.bays b id).stuck hl ?_).1
    cases sensor with
    | gap => exact .inl hrunning
    | curtain => exact .inr hrunning
  have hfits (d : Nat) : ∀ u ∈ [Task.presence b, .raise b .sensorStuck d], u.Fits l e.s := by
    simpa [Task.Fits] using fun hl => .inl (hk hl)
  cases sensor with
  | gap => exact ⟨h.setStuck _ ⟨rfl, rfl, rfl, rfl, nofun, id⟩, hfits 1⟩
  | curtain => exact ⟨h.setStuck _ ⟨rfl, rfl, rfl, rfl, id, nofun⟩, hfits 2⟩

theorem Lawful.supervisionExpires (h : Obeys l e.s) (x : Timer) : Lawful l s (e.supervisionExpires x) := by
  refine ⟨h.of_stand (.of_fields rfl rfl rfl rfl rfl), fun u hu => ?_⟩
  rcases List.mem_append.mp hu with hu | hu
  · simp only [List.mem_cons, List.not_mem_nil, or_false] at hu
    rcases hu with rfl | rfl <;> trivial
  · exact Task.fits_map (f := .linkLoss) (fun _ => trivial) _ u hu

/-- The first half of the dwell comparison (spec/02 R52). -/
def State.compareDue (s : State) : State := if !s.train.due && s.train.dueAt ≤ s.train.dwellElapsed then s.setDue else s

/-- The second half of the dwell comparison (spec/02 R52). -/
def State.compareOverstay (s : State) : State :=
  if !s.train.overstay && s.overstayAt ≤ s.train.dwellElapsed then s.setOverstay else s

theorem State.compareDwell_eq (s : State) :
    s.compareDwell = if s.train.dwellLimit == 0 then s else s.compareDue.compareOverstay := rfl

/-- The dwell and its flags are no law's to read. -/
theorem LawStands.compareDwell (s : State) : AllLawStands s s.compareDwell := by
  have hdue : AllLawStands s s.compareDue := by
    unfold State.compareDue
    split
    · exact ⟨Iff.rfl, rfl, rfl, rfl, rfl, fun _ => rfl, fun _ _ => .refl _⟩
    · exact .refl _ s
  have hoverstay (u : State) : AllLawStands u u.compareOverstay := by
    unfold State.compareOverstay
    split
    · exact ⟨Iff.rfl, rfl, rfl, rfl, rfl, fun _ => rfl, fun _ _ => .refl _⟩
    · exact .refl _ u
  rw [State.compareDwell_eq]
  split
  · exact .refl _ s
  · exact hdue.trans (hoverstay _)

theorem LawStands.reachDwell (s : State) (threshold : Nat) : AllLawStands s (s.reachDwell threshold) := by
  have hreached : AllLawStands s
      { s with train := { s.train with dwellElapsed := max s.train.dwellElapsed threshold } } :=
    ⟨Iff.rfl, rfl, rfl, rfl, rfl, fun _ => rfl, fun _ _ => .refl _⟩
  exact hreached.trans (.compareDwell _)

theorem LawStands.recordPassed (s : State) : AllLawStands s s.recordPassed := by
  simp only [State.recordPassed]
  repeat' split
  all_goals exact .of_fields rfl rfl rfl rfl rfl

theorem Lawful.recordFailed (h : Obeys l e.s) : Lawful l s e.recordFailed :=
  ⟨h.of_stand (.of_fields rfl rfl rfl rfl rfl), by simp [Ev.recordFailed, Task.Fits]⟩

/-! ### The end of STARTING -/

/-- What a law that holds during STARTING says of a bay: no member is held, and every frame is EMPTY. -/
structure Bay.Waits (l : Law) (member : Bool) (x : Bay) : Prop where
  member : l ≠ .frame → member = true → x.hold = false
  frame : l = .frame → x.frame.state = .empty

/-- A bay has taken its derived phase, and its frame is still EMPTY. -/
structure Bay.Derived (l : Law) (k : BayKind) (member : Bool) (x : Bay) : Prop where
  obeys : l ≠ .frame → x.Obeys l k member
  frame : l = .frame → x.frame.state = .empty

theorem Bay.Waits.derive {k : BayKind} {m : Bool} {x : Bay} (h : x.Waits l m) (r : BayRecord) (p : Platform) :
    (x.enter r p (derivedPhase k x.lines)).Derived l k m := by
  refine ⟨fun hl => ?_, h.frame⟩
  exact Bay.obeys_enter r p (fun _ hm => ⟨h.member hl hm, derivedPhase_ne_isolated _ _⟩)
    (fun _ => BayKind.hasPhase_derived _ _) (fun hf => absurd hf hl)

theorem Bay.Derived.obeys_of_not_faulted {k : BayKind} {m : Bool} {x : Bay} (h : x.Derived l k m) (hx : x.phase ≠ .faulted) :
    x.Obeys l k m := by
  by_cases hl : l = .frame
  · have hempty := h.frame hl
    subst hl
    exact ⟨fun hl => absurd rfl hl, nofun, nofun, nofun,
      fun _ => ⟨fun hf => absurd hf hx, fun ha => by rw [hempty] at ha; exact absurd ha nofun⟩,
      fun _ hne => absurd hempty hne⟩
  · exact h.obeys hl

/-- Bays taken one after the other: each of them comes to what its own turn gives, since no other turn touches it. -/
theorem foldl_each {α : Type} (f : α → BayIx → α) (pre post : BayIx → α → Prop) (hself : ∀ c a, pre c a → post c (f a c))
    (hpre : ∀ c d a, c ≠ d → pre c a → pre c (f a d)) (hpost : ∀ c d a, c ≠ d → post c a → post c (f a d)) {bs : List BayIx}
    (hbs : bs.Nodup) (a : α) (h : ∀ c ∈ bs, pre c a) : ∀ c ∈ bs, post c (bs.foldl f a) := by
  have hkept (bs : List BayIx) (c : BayIx) (hc : c ∉ bs) (a : α) (ha : post c a) : post c (bs.foldl f a) := by
    induction bs generalizing a with
    | nil => exact ha
    | cons d bs ih =>
      exact ih (fun hm => hc (List.mem_cons_of_mem d hm)) _ (hpost c d a (fun hcd => hc (by simp [hcd])) ha)
  induction bs generalizing a with
  | nil => simp
  | cons d bs ih =>
    obtain ⟨hd, hbs'⟩ := List.nodup_cons.mp hbs
    intro c hc
    rcases List.mem_cons.mp hc with rfl | hc
    · exact hkept bs c hd _ (hself c a (h c (by simp)))
    · refine ih hbs' _ (fun c hc => ?_) c hc
      exact hpre c d a (fun hcd => hd (hcd ▸ hc)) (h c (List.mem_cons_of_mem d hc))

theorem mem_allBays (b : BayIx) : b ∈ allBays := by simp [allBays]

theorem nodup_allBays : allBays.Nodup := List.nodup_finRange 24

theorem LawStands.readLines (s : State) : AllLawStands s s.readLines := by
  have hbays : AllLawStands s
      { s with bays := mapVector (fun x => { x with lines := x.lines.map (fun l => { l with level := l.raw }) }) s.bays } := by
    refine ⟨Iff.rfl, rfl, rfl, rfl, rfl, fun _ => rfl, fun c _ => ?_⟩
    simp only [State.bay, mapVector_get]
    exact ⟨rfl, rfl, rfl, rfl, id, id⟩
  exact hbays.trans (.foldl (fun u n => LawStands.setInputLine (.general n) _) _ _)

/-- Every bay is taken to its derived phase. -/
def State.deriveAll (s : State) : State := allBays.foldl State.deriveAtStart s

theorem State.deriveAtStart_stands (s : State) (b : BayIx) : LawStands (· = b) s (s.deriveAtStart b) := .of_setBay b _ rfl

theorem State.deriveAll_stands (s : State) : LawStands (fun _ => True) s s.deriveAll :=
  .foldl (fun u b => (u.deriveAtStart_stands b).mono (fun _ _ => trivial)) _ s

theorem State.deriveAll_derived (h : ∀ c, (s.bay c).Waits l (s.isMember c)) (c : BayIx) :
    (s.deriveAll.bay c).Derived l (s.deriveAll.kind c) (s.deriveAll.isMember c) := by
  refine foldl_each State.deriveAtStart (fun c u => (u.bay c).Waits l (u.isMember c))
    (fun c u => (u.bay c).Derived l (u.kind c) (u.isMember c)) (fun c u hu => ?_) (fun c d u hne hu => ?_)
    (fun c d u hne hu => ?_) nodup_allBays s (fun c _ => h c) c (mem_allBays c)
  · have hst := u.deriveAtStart_stands c
    have hbay : (u.deriveAtStart c).bay c
        = (u.bay c).enter (u.bayRecord c) u.platform (derivedPhase (u.kind c) (u.bay c).lines) := State.bay_setBay_self _ _ _
    rw [hst.kind, hst.isMember, hbay]
    exact hu.derive _ _
  · have hst := u.deriveAtStart_stands d
    have hbay : (u.deriveAtStart d).bay c = u.bay c := State.bay_setBay_ne _ _ _ _ hne
    rw [hst.isMember, hbay]
    exact hu
  · have hst := u.deriveAtStart_stands d
    have hbay : (u.deriveAtStart d).bay c = u.bay c := State.bay_setBay_ne _ _ _ _ hne
    rw [hst.kind, hst.isMember, hbay]
    exact hu

end

end Sys2Proof.Machine
end

section
/-! The aligned set, the selection and the opening map (spec/02 R36, R42, R43), and the end of STARTING under the three laws. -/

namespace Sys2Proof.Machine

/-! ### The aligned set and the map -/

section

variable {s : State}

theorem State.alignBay_bay {ds : List PlacedDoorway} {b : BayIx} {a : AlignedBay} (h : s.alignBay ds b = some a) :
    a.bay = b ∧ s.sliding b = true := by
  simp only [State.alignBay] at h
  repeat' split at h
  all_goals simp_all
  all_goals subst h; rfl

theorem pairwise_allBays : allBays.Pairwise (· < ·) := List.pairwise_lt_finRange 24

/-- The aligned set lists its bays as the bays are listed, each at most once (spec/02 R36). -/
theorem State.alignedSet_bays (s : State) (ds : List PlacedDoorway) :
    (s.alignedSet ds).map AlignedBay.bay = allBays.filter (fun b => (s.alignBay ds b).isSome) := by
  have hlist (bs : List BayIx) :
      (bs.filterMap (s.alignBay ds)).map AlignedBay.bay = bs.filter (fun b => (s.alignBay ds b).isSome) := by
    induction bs with
    | nil => rfl
    | cons b bs ih =>
      rcases hb : s.alignBay ds b with _ | a
      · simpa [hb] using ih
      · simp [hb, (State.alignBay_bay hb).1, ih]
  exact hlist allBays

theorem State.alignedSet_pairwise (s : State) (ds : List PlacedDoorway) :
    ((s.alignedSet ds).map AlignedBay.bay).Pairwise (· < ·) := by
  rw [State.alignedSet_bays]
  exact pairwise_allBays.filter _

theorem State.mem_alignedSet {ds : List PlacedDoorway} {a : AlignedBay} :
    a ∈ s.alignedSet ds ↔ s.alignBay ds a.bay = some a := by
  simp only [State.alignedSet, List.mem_filterMap]
  refine ⟨fun ⟨b, _, hb⟩ => ?_, fun h => ⟨a.bay, mem_allBays _, h⟩⟩
  rw [(State.alignBay_bay hb).1]
  exact hb

theorem Selection.select_sublist (x : Selection) (bs : List BayIx) : (x.select bs).Sublist bs := by
  unfold Selection.select
  split
  · exact List.filter_sublist
  · unfold Selection.named
    split
    · exact .refl _
    · exact List.take_sublist _ _
    · exact List.drop_sublist _ _

/-- The map lists aligned bays as the aligned set does (spec/02 R43). -/
theorem State.mapOf_sublist (s : State) (x : Selection) : (s.mapOf x).Sublist s.train.alignedBays :=
  List.filter_sublist.trans (x.select_sublist _)

/-- What keeps a selected bay out of the map (spec/02 R43): its phase, and where the phase does not, its hold. -/
theorem State.exclusion_eq_some {b : BayIx} {r : Reason} :
    s.exclusion b = some r ↔
      (s.bay b).phase = .released ∧ r = .released ∨ (s.bay b).phase = .faulted ∧ r = .faulted
        ∨ (s.bay b).phase = .isolated ∧ r = .isolated
        ∨ (s.bay b).phase ≠ .released ∧ (s.bay b).phase ≠ .faulted ∧ (s.bay b).phase ≠ .isolated
          ∧ (s.bay b).hold = true ∧ r = .held := by
  unfold State.exclusion
  cases (s.bay b).phase <;> cases (s.bay b).hold <;> simp [eq_comm]

theorem State.exclusion_eq_none {b : BayIx} :
    s.exclusion b = none ↔ (s.bay b).phase ≠ .released ∧ (s.bay b).phase ≠ .faulted ∧ (s.bay b).phase ≠ .isolated
      ∧ (s.bay b).hold = false := by
  unfold State.exclusion
  cases (s.bay b).phase <;> cases (s.bay b).hold <;> simp

theorem State.mem_mapOf {x : Selection} {b : BayIx} :
    b ∈ s.mapOf x ↔ b ∈ s.selected x ∧ (s.bay b).phase ≠ .released ∧ (s.bay b).phase ≠ .faulted
      ∧ (s.bay b).phase ≠ .isolated ∧ (s.bay b).hold = false := by
  rw [State.mapOf, List.mem_filter, Option.isNone_iff_eq_none, State.exclusion_eq_none]

end

/-! ### The end of STARTING -/

section

variable {l : Law} {s : State} {e : Ev} {b : BayIx}

/-- A law as it holds during STARTING, where the bays have no phases of their own yet. -/
structure Awaits (l : Law) (s : State) : Prop where
  train : l ≠ .frame → s.train.Obeys s.sliding
  bays : ∀ c, (s.bay c).Waits l (s.isMember c)

theorem MapLaw.awaits (h : MapLaw s) (hl : l ≠ .frame) : Awaits l s :=
  ⟨fun _ => h.train, fun c => ⟨fun _ hm => (h.member c hm).1, fun hf => absurd hf hl⟩⟩

theorem FrameLaw.awaits (h : FrameLaw s) (hs : s.mode.mode = .starting) : Awaits .frame s :=
  ⟨fun hl => absurd rfl hl, fun c => ⟨fun hl => absurd rfl hl, fun _ => h.starting hs c⟩⟩

theorem Awaits.of_stand {t : State} (h : Awaits l s) (hst : AllLawStands s t) : Awaits l t := by
  refine ⟨fun hl => hst.train (h.train hl), fun c => ?_⟩
  have hbay := hst.bays c id
  have hx := h.bays c
  rw [hst.isMember]
  exact ⟨by rw [hbay.hold]; exact hx.member, by rw [hbay.frame]; exact hx.frame⟩

/-- The start-up fault of one bay (spec/07 R142) makes its frame ACTIVE where it is FAULTED, and touches no other bay. -/
theorem Ev.startConflict_stands (e : Ev) (b : BayIx) : LawStands (· = b) e.s (e.startConflict b).s := by
  unfold Ev.startConflict
  split
  · exact (LawStands.of_setBay (p := (· = b)) b _ rfl).trans (.post .faultTaken (some b) _)
  · exact .refl _ _

theorem Ev.startConflict_bay_ne (e : Ev) {b c : BayIx} (h : c ≠ b) : (e.startConflict b).s.bay c = e.s.bay c := by
  unfold Ev.startConflict
  split
  · exact State.bay_setBay_ne _ _ _ _ h
  · rfl

theorem Ev.startConflict_obeys (h : (e.s.bay b).Derived l (e.s.kind b) (e.s.isMember b)) :
    ((e.startConflict b).s.bay b).Obeys l (e.s.kind b) (e.s.isMember b) := by
  unfold Ev.startConflict
  split
  · next hfaulted =>
    have hphase : (e.s.bay b).phase = .faulted := beq_iff_eq.mp hfaulted
    have hbay {f : Frame} {a : FaultAnswer} :
        ((e.s.setFrame b f).postTaken (some b) .proofConflict a).bay b = { e.s.bay b with frame := f } :=
      State.bay_setBay_self _ _ _
    simp only [Ev.takeDerivedConflict, Ev.on_s]
    rw [hbay]
    exact Bay.obeys_faulted hphase h.obeys rfl (State.newFrame_counted _ _ _ _ _ _ _)
  · next hfaulted => exact h.obeys_of_not_faulted (by simpa using hfaulted)

theorem Ev.startConflicts_stands (bs : List BayIx) (e : Ev) :
    LawStands (fun _ => True) e.s (bs.foldl Ev.startConflict e).s := by
  induction bs generalizing e with
  | nil => exact .refl _ _
  | cons b bs ih => exact ((e.startConflict_stands b).mono (fun _ _ => trivial)).trans (ih _)

theorem Ev.startConflicts_obey (h : ∀ c, (e.s.bay c).Derived l (e.s.kind c) (e.s.isMember c)) (c : BayIx) :
    ((allBays.foldl Ev.startConflict e).s.bay c).Obeys l ((allBays.foldl Ev.startConflict e).s.kind c)
      ((allBays.foldl Ev.startConflict e).s.isMember c) := by
  refine foldl_each Ev.startConflict (fun c u => (u.s.bay c).Derived l (u.s.kind c) (u.s.isMember c))
    (fun c u => (u.s.bay c).Obeys l (u.s.kind c) (u.s.isMember c)) (fun c u hu => ?_) (fun c d u hne hu => ?_)
    (fun c d u hne hu => ?_) nodup_allBays e (fun c _ => h c) c (mem_allBays c)
  · have hst := u.startConflict_stands c
    rw [hst.kind, hst.isMember]
    exact Ev.startConflict_obeys hu
  · have hst := u.startConflict_stands d
    rw [hst.kind, hst.isMember, u.startConflict_bay_ne hne]
    exact hu
  · have hst := u.startConflict_stands d
    rw [hst.kind, hst.isMember, u.startConflict_bay_ne hne]
    exact hu

/-- STORE_INVALID is recorded where the store is INVALID (spec/08 R147). -/
def State.startStoreFault (s : State) : State :=
  if s.store.state == .invalid then s.recordPlatform .storeInvalid 0 else s

theorem Ev.startFaults_eq (e : Ev) : e.startFaults = allBays.foldl Ev.startConflict (e.on State.startStoreFault) := by
  simp only [Ev.startFaults, Ev.on, State.startStoreFault]
  split <;> rfl

theorem State.startStoreFault_counted (h : s.platformFrame.Counted) : s.startStoreFault.platformFrame.Counted := by
  unfold State.startStoreFault
  split
  · exact s.recordPlatform_counted _ _
  · exact h

theorem State.startStoreFault_same (s : State) :
    s.startStoreFault.train = s.train ∧ s.startStoreFault.bays = s.bays ∧ ∀ c, s.startStoreFault.kind c = s.kind c := by
  unfold State.startStoreFault
  split
  · exact ⟨State.recordPlatform_train _ _ _, State.recordPlatform_bays _ _ _, State.recordPlatform_kind _ _ _⟩
  · exact ⟨rfl, rfl, fun _ => rfl⟩

theorem State.startMode_running (s : State) : s.startMode.mode.mode ≠ .starting := by
  simp only [State.startMode, State.changeMode]
  split <;> exact nofun

theorem Obeys.startMode {u : State} (htrain : l ≠ .frame → u.train.Obeys u.sliding)
    (hplatform : l = .frame → u.platformFrame.Counted) (hbays : ∀ c, (u.bay c).Obeys l (u.kind c) (u.isMember c)) :
    Obeys l u.startMode := ⟨u.startMode_running, htrain, hplatform, fun c _ => hbays c⟩

/-- What STARTING leaves when it ends: the derived phases, the start-up faults and the mode (spec/08 R147). -/
theorem Awaits.startFaults (h : Awaits l s) (hplatform : l = .frame → s.platformFrame.Counted) {e : Ev} (he : e.s = s.deriveAll) :
    Obeys l e.startFaults.s.startMode := by
  have hderived := State.deriveAll_derived h.bays
  have hstands := s.deriveAll_stands
  obtain ⟨htrain, hbays, hkind⟩ := e.s.startStoreFault_same
  have hconflicts := Ev.startConflicts_stands allBays (e.on State.startStoreFault)
  have hobey := Ev.startConflicts_obey (l := l) (e := e.on State.startStoreFault) (fun c => by
    have hc := hderived c
    rw [← he] at hc
    simpa only [Ev.on_s, State.bay, State.isMember, htrain, hbays, hkind] using hc)
  rw [← he] at hstands
  rw [← Ev.startFaults_eq] at hconflicts hobey
  refine Obeys.startMode (fun hl => ?_) (fun hl => ?_) hobey
  · refine hconflicts.train ?_
    have hbefore := hstands.train (h.train hl)
    have hsliding : e.s.startStoreFault.sliding = e.s.sliding := by
      funext c; simp only [State.sliding, hkind]
    rw [Ev.on_s, htrain, hsliding]
    exact hbefore
  · have hcounted : e.s.startStoreFault.platformFrame.Counted :=
      State.startStoreFault_counted (by rw [hstands.platform]; exact hplatform hl)
    rw [hconflicts.platform]
    exact hcounted

theorem LawStands.startRelease (s : State) (b : BayIx) : AllLawStands s (s.startRelease b) := by
  unfold State.startRelease
  split
  · exact .openRecord _ _ _
  · exact .refl _ s

/-- The release records and the standing key level are no law's to read (spec/05 R113, spec/04 R91). -/
theorem Obeys.startReleases (h : Obeys l e.s.startMode) :
    Obeys l (e.on (fun s => (allBays.foldl State.startRelease s.startMode).standingKey)).s := by
  have hkey (u : State) : AllLawStands u u.standingKey := .of_fields rfl rfl rfl rfl rfl
  rw [Ev.on_s]
  exact h.of_stand ((LawStands.foldl LawStands.startRelease allBays _).trans (hkey _))

theorem Lawful.endStarting (h : Awaits l s) (hplatform : l = .frame → s.platformFrame.Counted) :
    Lawful l (Ev.endStarting (Ev.start s)).1.s (Ev.endStarting (Ev.start s)) := by
  have hread : AllLawStands s s.readLines := .readLines s
  have hfaults := (h.of_stand hread).startFaults (fun hl => by rw [hread.platform]; exact hplatform hl)
    (e := { Ev.start s with starting := true }.on (fun s => allBays.foldl State.deriveAtStart s.readLines)) rfl
  refine ⟨hfaults.startReleases, fun u hu => ?_⟩
  rcases List.mem_append.mp hu with hu | hu
  · split at hu
    · rw [List.mem_singleton.mp hu]; trivial
    · exact absurd hu (by simp)
  · exact Task.fits_map (f := .presence) (fun _ => trivial) _ u hu

/-- STARTING ends with the three laws, if they held during it (spec/08 R147). -/
theorem endStarting_keepsLaws (hs : s.mode.mode = .starting) : KeepsLaws s (s.event Ev.endStarting) := by
  have hobeys {l : Law} (hl : l ≠ .frame) (hmap : MapLaw s) : Obeys l (s.event Ev.endStarting) :=
    Lawful.event (.endStarting (hmap.awaits hl) (fun hf => absurd hf hl))
  refine ⟨fun h => (hobeys (l := .map) nofun h).mapLaw nofun, fun h => ?_, fun h => ?_⟩
  · have ht := hobeys (l := .phase) nofun h.mapLaw
    exact (obeys_phase_iff ht.running).mp ht
  · have ht : Obeys .frame (s.event Ev.endStarting) := Lawful.event (.endStarting (h.awaits hs) (fun _ => h.platform))
    exact (obeys_frame_iff ht.running).mp ht

end

end Sys2Proof.Machine
end

section
/-! Requests, every command and the passing of time keep the opening map law, the law of the phases and the law of the fault
frames. -/

namespace Sys2Proof.Machine

section

variable {l : Law} {s t : State} {e : Ev} {b : BayIx}

/-! ### Trains -/

theorem Obeys.announce (h : Obeys l s) (units : List TrainUnit) (target : Mm) : Obeys l (s.announce units target) := by
  have hannounced : Obeys l
      { s with train := { Train.reset with state := .announced, units := units, target := some target } } :=
    h.of_train h.running (fun _ => ⟨fun _ => rfl, fun _ => nofun, fun _ => nofun, .nil, .nil⟩)
      (by simp [State.isMember, Train.reset]) rfl rfl rfl
  exact ObeysBut.of_stand hannounced (.post _ _ _)

theorem State.alignedSet_sliding {ds : List PlacedDoorway} {a : AlignedBay} (h : a ∈ s.alignedSet ds) :
    s.sliding a.bay = true := (State.alignBay_bay (State.mem_alignedSet.mp h)).2

/-- A train that is berthed has no map yet, so a new aligned set leaves no member without a matched doorway. -/
theorem Obeys.berthAt (h : Obeys l s) (measured : Mm) (ds : List PlacedDoorway)
    (hstate : s.train.state = .announced ∨ s.train.state = .berthed) : Obeys l (s.berthAt measured ds) := by
  have hberthed : Obeys l { s with train := { s.train with
      state := .berthed, measured := some measured, stopError := some (measured - s.train.target.getD 0)
      alignment := s.alignmentOf measured (measured - s.train.target.getD 0), checked := !s.placed.isEmpty
      aligned := s.alignedSet ds } } := by
    refine h.of_train h.running (fun hl => ?_) (fun _ => id) rfl rfl rfl
    have hmap : s.train.map = [] := (h.train hl).early (.inr hstate)
    refine ⟨fun _ => hmap, fun a ha => State.alignedSet_sliding ha, fun c hc => ?_, ?_, ?_⟩
    · rw [hmap] at hc; exact absurd hc (by simp)
    · exact (s.alignedSet_pairwise ds).imp (fun hlt => Fin.ne_of_lt hlt)
    · rw [hmap]; exact .nil
  exact ObeysBut.of_stand hberthed (.post _ _ _)

theorem State.matched_of_aligned {bs : List AlignedBay} (h : b ∈ bs.map AlignedBay.bay) :
    (bs.find? (fun a => a.bay == b)).isSome = true := by
  obtain ⟨a, ha, rfl⟩ := List.mem_map.mp h
  rw [List.find?_isSome]
  exact ⟨a, ha, beq_self_eq_true _⟩

theorem LawStands.formMembers (s : State) : AllLawStands s s.formMembers :=
  .foldl (fun _ b => .formPresence b) _ s

/-- A formation takes into the map aligned bays alone that are neither held nor ISOLATED (spec/02 R43). -/
theorem Obeys.formMap (h : Obeys l s) (x : Selection) (dwell : Nat) : Obeys l (s.formMap (s.mapOf x) dwell) := by
  have hformed : Obeys l { s with train := { s.train with
      map := s.mapOf x, state := .enabled, dwellLimit := dwell, dwellElapsed := 0, due := false, overstay := false } } := by
    have hsub := s.mapOf_sublist x
    refine ⟨h.running, fun hl => ?_, h.platform, fun c hc => ?_⟩
    · have htrain := h.train hl
      exact ⟨by simp, htrain.aligned, fun c hc => State.matched_of_aligned (hsub.subset hc), htrain.distinct.1,
        htrain.distinct.1.sublist hsub⟩
    · have hx := h.bays c hc
      refine ⟨fun _ hm => ?_, hx.kind, hx.movement, hx.stuck, hx.faulted, hx.counted⟩
      obtain ⟨_, _, _, hisolated, hhold⟩ := State.mem_mapOf.mp ((isMember_iff _ c).mp hm)
      exact ⟨hhold, hisolated⟩
  exact ObeysBut.of_stand hformed ((LawStands.setGap .pending).trans
    ((LawStands.formMembers _).trans (.post .mapFormed none (highLow 0 (s.mapOf x).length))))

theorem State.formMap_map (s : State) (map : List BayIx) (dwell : Nat) : (s.formMap map dwell).train.map = map := by
  have hmembers (u : State) : u.formMembers.train.map = u.train.map := (LawStands.formMembers u).map
  simp only [State.formMap, State.post_train, hmembers, State.setGap_train]

/-- The claims of a map's members name SLIDING bays. -/
theorem Obeys.fits_openMembers (h : Obeys l t) (again : Bool) {bs : List BayIx} (hbs : bs = t.train.map) :
    ∀ u ∈ bs.map (Task.openMember again), u.Fits l t := by
  intro u hu
  obtain ⟨c, hc, rfl⟩ := List.mem_map.mp hu
  exact fun hl => h.sliding_of_member (by simp [hl]) (hbs ▸ hc)

theorem Lawful.openMap (h : Obeys l e.s) (x : Selection) (excluded : List (BayIx × Reason)) (dwell : Nat) :
    Lawful l (e.openMap (e.s.mapOf x) excluded dwell).1.s (e.openMap (e.s.mapOf x) excluded dwell) := by
  have hformed := h.formMap x dwell
  exact ⟨hformed, Obeys.fits_openMembers hformed false (State.formMap_map _ _ _).symm⟩

theorem Lawful.reopenMap (h : Obeys l e.s) : Lawful l e.reopenMap.1.s e.reopenMap := by
  have henabled := h.setTrainState (q := .enabled) ⟨nofun, nofun, nofun⟩
  have hst : AllLawStands _ e.reopenMap.1.s := (LawStands.setGap .pending).trans
    ((LawStands.formMembers _).trans (.post .mapFormed none (highLow 1 e.s.reopenCount)))
  have hobeys : Obeys l e.reopenMap.1.s := henabled.of_stand hst
  exact ⟨hobeys, Obeys.fits_openMembers hobeys true hst.map.symm⟩

theorem Lawful.depart (h : Obeys l e.s) : Lawful l s e.depart := by
  have hdeparting := h.setTrainState (q := .departing) ⟨nofun, nofun, nofun⟩
  exact .departWatch (ObeysBut.of_stand hdeparting (.post .departed none e.s.proof.value.code))

/-! ### The store -/

theorem State.matched_isSome_of_mem {a : AlignedBay} (h : a ∈ s.train.aligned) : (s.matched a.bay).isSome = true :=
  State.matched_of_aligned (List.mem_map_of_mem h)

/-- The record of a bay that the aligned set does not name is replaced: the law holds of every other bay, and no member is
touched (spec/01 R2). -/
theorem Obeys.setBayRecord (h : Obeys l s) (r : BayRecord) (hmatched : (s.matched b).isSome = false) :
    ObeysBut l (· = b) (s.setBayRecord b r) ∧ (l ≠ .frame → s.isMember b = false) := by
  have hkind {c : BayIx} (hc : c ≠ b) : (s.setBayRecord b r).kind c = s.kind c := by
    have hv : b.val ≠ c.val := fun hv => hc (Fin.ext hv.symm)
    simp [State.kind, State.bayRecord, State.setBayRecord, State.setWorking, Vector.getElem_set_ne, hv]
  refine ⟨⟨h.running, fun hl => ?_, h.platform, fun c hc => ?_⟩, fun hl => ?_⟩
  · have htrain := h.train hl
    refine ⟨htrain.early, fun a ha => ?_, htrain.matched, htrain.distinct⟩
    have hne : a.bay ≠ b := by
      rintro rfl
      exact absurd ((State.matched_isSome_of_mem (s := s) ha).symm.trans hmatched) nofun
    rw [sliding_iff, hkind hne, ← sliding_iff]
    exact htrain.aligned a ha
  · rw [hkind hc]; exact h.bays c id
  · by_contra hm
    have hb := (h.train hl).matched b ((isMember_iff s b).mp (by simpa using hm))
    rw [State.matched] at hmatched
    rw [hmatched] at hb
    exact absurd hb nofun

/-- A bay of a new kind starts again, with its frame cleared where it was FAULTED (spec/01 R2). -/
theorem Lawful.restartBay (h : ObeysBut l (· = b) e.s) (hmember : l ≠ .frame → e.s.isMember b = false)
    (hframe : l = .frame → (e.s.bay b).frameAgain.state ≠ .active ∧ (e.s.bay b).frameAgain.Counted) :
    Lawful l s (e.restartBay b) := by
  have hcleared : LawStands (· = b) e.s (e.clearForKind b).s := by
    unfold Ev.clearForKind
    split
    · exact .clearFrame .kindChange b rfl
    · exact .refl _ _
  have hst : LawStands (· = b) e.s ((e.clearForKind b).onBay b Bay.startedAgain).s := hcleared.trans (.of_setBay b _ rfl)
  have hbay : (((e.clearForKind b).onBay b Bay.startedAgain).s.bay b).frame = (e.s.bay b).frameAgain :=
    congrArg Bay.frame ((BayBecomes.refl b e.s).clearForKind.onBay Bay.startedAgain).bay
  have hmember' : l ≠ .frame → ((e.clearForKind b).onBay b Bay.startedAgain).s.isMember b = false := fun hl => by
    rw [hst.isMember]; exact hmember hl
  rw [Ev.restartBay_eq]
  split
  · exact .derive (h.of_stand hst) (fun hl hm => by rw [hmember' hl] at hm; exact absurd hm nofun)
      (fun hl => by rw [hbay]; exact hframe hl)
  · next hfitted =>
    have habsent : ((e.clearForKind b).onBay b Bay.startedAgain).s.kind b = .absent := by simpa using hfitted
    refine .entered (ObeysBut.enter (h.of_stand hst) .notFitted (fun hl hm => ?_) (fun _ => ?_) (fun hl => ?_))
    · rw [hmember' hl] at hm; exact absurd hm nofun
    · rw [habsent]; exact ⟨fun _ => rfl, nofun, nofun⟩
    · rw [hbay]
      exact ⟨⟨nofun, fun ha => absurd ha (hframe hl).1⟩, (hframe hl).2⟩

theorem Bay.Obeys.frameAgain {k : BayKind} {m : Bool} {x : Bay} (hx : x.Obeys .frame k m) :
    x.frameAgain.state ≠ .active ∧ x.frameAgain.Counted := by
  unfold Bay.frameAgain
  split
  · next hfaulted => exact ⟨nofun, fun _ => hx.counted rfl (by rw [(hx.faulted rfl).mp hfaulted]; exact nofun)⟩
  · next hfaulted => exact ⟨fun ha => hfaulted ((hx.faulted rfl).mpr ha), hx.counted rfl⟩

theorem Lawful.writeBay (h : Obeys l e.s) (r : BayRecord) (hmatched : (e.s.matched b).isSome = false) :
    Lawful l (e.writeBay b r).1.s (e.writeBay b r) := by
  obtain ⟨hbut, hmember⟩ := h.setBayRecord r hmatched
  simp only [Ev.writeBay]
  split
  · exact .restartBay hbut hmember (fun hl => by subst hl; exact (h.bays b id).frameAgain)
  · next hkind =>
    have hsame : r.kind = e.s.kind b := by simpa using hkind
    refine .done (hbut.whole ?_)
    have hwritten : (e.s.setBayRecord b r).kind b = e.s.kind b := by
      rw [← hsame]; simp [State.kind, State.bayRecord, State.setBayRecord, State.setWorking]
    rw [hwritten]
    exact h.bays b id

/-- A record other than a bay's is replaced. -/
theorem LawStands.setWorking {w : Records} (hw : w.bays = s.store.working.bays) : AllLawStands s (s.setWorking w) :=
  .of_fields rfl rfl rfl hw rfl

theorem LawStands.writeLine (s : State) (n : LineIx) (r : LineRecord) : AllLawStands s (s.writeLine n r) := by
  have hset : AllLawStands s (s.setLineRecord n r) := .setWorking rfl
  simp only [State.writeLine]
  split
  · exact hset.trans (.of_fields rfl rfl rfl rfl rfl)
  · exact hset

theorem Lawful.andThen {p : Ev × List Task} {f : Ev → Ev × List Task} (hp : Lawful l s p)
    (hf : ∀ e, Obeys l e.s → Lawful l s (f e)) : Lawful l s (Ev.andThen p f) :=
  have hnext := hf p.1 hp.obeys
  ⟨hnext.obeys, fun u hu => (List.mem_append.mp hu).elim (hp.fits u) (hnext.fits u)⟩

theorem Lawful.compareOwner (h : Obeys l e.s) (before : State) (f : LineFunction) (n : LineIx) :
    Lawful l s (e.compareOwner before f n) := by
  simp only [Ev.compareOwner]
  split
  · exact .functionChange h _ _ _
  · exact .done h

theorem Lawful.placedChange (h : Obeys l e.s) (before : State) : Lawful l s (e.placedChange before) :=
  ⟨h, by simp only [Ev.placedChange]; split <;> simp [Task.Fits]⟩

theorem Lawful.writeLine (h : Obeys l e.s) (n : LineIx) (r : LineRecord) : Lawful l s (e.writeLine n r) := by
  have hwritten : Obeys l (e.on (fun s => s.writeLine n r)).s := h.of_stand (.writeLine _ n r)
  refine .andThen ?_ (fun e2 h2 => .placedChange h2 _)
  split
  · unfold Ev.receiveStanding
    split
    · exact .done (hwritten.of_stand (.of_fields rfl rfl rfl rfl rfl))
    · exact .done hwritten
  · exact .andThen (.compareOwner hwritten _ _ _) (fun e2 h2 => .compareOwner h2 _ _ _)

theorem LawStands.commit (s : State) : AllLawStands s s.commit := by
  simp only [State.commit]
  split
  · exact .of_fields rfl rfl rfl rfl rfl
  · exact .of_fields rfl rfl rfl rfl rfl

/-! ### Frames read and cleared, and flags -/

theorem Obeys.clearTarget (h : Obeys l s) (target : Option BayIx) (hclear : clearable target (s.frameOf target) = true) :
    Obeys l (s.clearTarget target) := by
  cases target with
  | none =>
    have hactive : s.platformFrame.state = .active := beq_iff_eq.mp hclear
    have hcleared : Obeys l { s with platformFrame := s.platformFrame.clear } :=
      ⟨h.running, h.train, fun hl _ => h.platform hl (by rw [hactive]; exact nofun), h.bays⟩
    exact ObeysBut.of_stand hcleared (.post _ _ _)
  | some b =>
    have hadvised : (s.bay b).frame.state = .advised := beq_iff_eq.mp hclear
    have hx := h.bays b id
    have hcleared : Obeys l (s.setFrame b (s.bay b).frame.clear) := by
      refine Obeys.setFrame (e := Ev.start s) h (fun hl => ⟨?_, fun _ => hx.counted hl (by rw [hadvised]; exact nofun)⟩)
      rw [Ev.start_s, hx.faulted hl, hadvised]
      exact ⟨nofun, nofun⟩
    exact ObeysBut.of_stand hcleared (.post _ _ _)

theorem LawStands.setTrace (s : State) (bays : Nat) (on : Bool) : AllLawStands s (s.setTrace bays on) := by
  refine ⟨Iff.rfl, rfl, rfl, rfl, rfl, fun _ => rfl, fun c _ => ?_⟩
  have hbay : (s.setTrace bays on).bay c = if inSet bays c then { s.bay c with trace := on } else s.bay c := by
    simp [State.bay, State.setTrace]
  rw [hbay]
  split
  · exact ⟨rfl, rfl, rfl, rfl, id, id⟩
  · exact .refl _

theorem LawStands.extendDwell (s : State) (step : Nat) : AllLawStands s (s.extendDwell step) := by
  have hextended : AllLawStands s (({ s with train := { s.train with
      dwellLimit := s.train.extended step, due := (s.extendFlags (s.train.extended step)).1
      overstay := (s.extendFlags (s.train.extended step)).2 } } : State).post .dwellExtended none (s.train.extended step)) :=
    ⟨Iff.rfl, rfl, rfl, rfl, rfl, fun _ => rfl, fun _ _ => .refl _⟩
  exact hextended.trans (.compareDwell _)

/-! ### Owners -/

/-- What an owner answers keeps the law: the state its event begins with, and the tasks it begins. -/
def Answer.Lawful (l : Law) (a : Answer) : Prop := Machine.Lawful l a.ev.s (a.ev, a.tasks)

theorem Answer.lawful_refuse (h : Obeys l s) (r : Result) : (Answer.refuse s r).Lawful l := .done h

theorem Answer.lawful_settled (h : Obeys l t) (content : List Byte) : (Answer.settled t content).Lawful l := .done h

theorem Answer.lawful_event {f : Ev → Ev × List Task} (h : Machine.Lawful l (f (Ev.start s)).1.s (f (Ev.start s)))
    (reply : Ev → Result × List Byte) : (Answer.event s f reply).Lawful l := h

/-- An owner that changes nothing the laws read. -/
theorem Answer.lawful_stand (h : Obeys l s) {f : State → State} (hf : AllLawStands s (f s)) (reply : Ev → Result × List Byte) :
    (Answer.event s (fun e => (e.on f, [])) reply).Lawful l := .done (h.of_stand hf)

theorem ownerOf_lawful (k : RequestKind) (body : List Byte) (h : Obeys l s) : (ownerOf k body s).Lawful l := by
  have refuse {r : Result} : (Answer.refuse s r).Lawful l := Answer.lawful_refuse h r
  have settled {t : State} {content : List Byte} (ht : AllLawStands s t) : (Answer.settled t content).Lawful l :=
    Answer.lawful_settled (h.of_stand ht) content
  cases k with
  | poll | readTrain | readMap => exact settled (.refl _ s)
  | readStatus | freezeConfig => exact settled (.of_fields rfl rfl rfl rfl rfl)
  | prepareRestart => exact .done h
  | readBays | readReleases | readConfig =>
    simp only [ownerOf, ownerReadBays, ownerReadReleases, ownerReadConfig]
    split
    · exact refuse
    · exact settled (.refl _ s)
  | readLines | takeEvents =>
    simp only [ownerOf, ownerReadLines, ownerTakeEvents]
    split
    · exact refuse
    · exact settled (.of_fields rfl rfl rfl rfl rfl)
  | setAttention =>
    simp only [ownerOf, ownerSetAttention]
    split
    · exact settled (.of_fields rfl rfl rfl rfl rfl)
    · exact refuse
  | readFault =>
    simp only [ownerOf, ownerReadFault]
    split
    · exact refuse
    · split
      · next hclear =>
        simp only [Bool.and_eq_true] at hclear
        exact Answer.lawful_settled (h.clearTarget _ hclear.2) _
      · exact settled (.refl _ s)
  | setTrace =>
    simp only [ownerOf, ownerSetTrace]
    split
    · exact refuse
    · exact settled (.setTrace s _ _)
  | ackRelease =>
    simp only [ownerOf, ownerAckRelease]
    repeat' split
    · exact refuse
    · exact refuse
    · exact settled (.of_fields rfl rfl rfl rfl rfl)
  | setOutput =>
    simp only [ownerOf, ownerSetOutput]
    repeat' split
    · exact refuse
    · exact refuse
    · exact settled (.of_fields rfl rfl rfl rfl rfl)
  | restart =>
    simp only [ownerOf, ownerRestart]
    split
    · exact settled (.of_fields rfl rfl rfl rfl rfl)
    · exact refuse
  | fixGeometry =>
    simp only [ownerOf, ownerFixGeometry]
    repeat' split
    · exact refuse
    · exact refuse
    · exact settled (.of_fields rfl rfl rfl rfl rfl)
    · exact Answer.lawful_refuse (s := s.useFree) (h.of_stand (.of_fields rfl rfl rfl rfl rfl)) _
  | announce =>
    simp only [ownerOf, ownerAnnounce]
    repeat' split
    · exact refuse
    · exact refuse
    · exact refuse
    · exact Answer.lawful_event (.done (h.announce _ _)) _
  | cancel =>
    simp only [ownerOf, ownerCancel]
    split
    · exact Answer.lawful_event (.returnEmpty h _ _) _
    · exact refuse
  | berth =>
    simp only [ownerOf, ownerBerth]
    split
    · exact refuse
    · split
      · next hstate =>
        split
        · exact refuse
        · exact Answer.lawful_event (.done (h.berthAt _ _ (by simpa using hstate))) _
      · exact refuse
  | openMap =>
    simp only [ownerOf, ownerOpenMap]
    repeat' split
    all_goals first
      | exact refuse
      | exact Answer.lawful_event (.openMap h _ _ _) _
      | exact Answer.lawful_event (.reopenMap h) _
      | exact Machine.Lawful.done h
  | closeMap =>
    simp only [ownerOf, ownerCloseMap]
    repeat' split
    · exact refuse
    · exact refuse
    · have hclosed := Machine.Lawful.closeTrain (e := Ev.start s) h 0 true
      exact Answer.lawful_event (f := fun e => e.closeTrain 0 true) (hclosed.of_kind fun _ => rfl) _
  | depart =>
    simp only [ownerOf, ownerDepart]
    repeat' split
    · exact refuse
    · exact refuse
    · exact Answer.lawful_event (.depart h) _
    · exact refuse
  | resume =>
    simp only [ownerOf, ownerResume]
    split
    · exact Answer.lawful_stand h (.of_fields rfl rfl rfl rfl rfl) _
    · exact refuse
  | bayCommand =>
    simp only [ownerOf, ownerBayCommand]
    repeat' split
    · exact refuse
    · exact refuse
    · exact Answer.lawful_event ⟨h, Task.fits_map (fun _ => by trivial) _⟩ _
  | emergencyOpen => exact Answer.lawful_event ⟨h, by simp [Task.Fits]⟩ _
  | halt => exact Answer.lawful_event (.enterHalted h _) _
  | extendDwell =>
    simp only [ownerOf, ownerExtendDwell]
    repeat' split
    · exact refuse
    · exact Answer.lawful_stand h (.extendDwell s _) _
    · exact refuse
  | enterMaintenance =>
    simp only [ownerOf, ownerEnterMaintenance]
    repeat' split
    · exact refuse
    · exact refuse
    · exact refuse
    · refine Answer.lawful_event (.done ?_) _
      exact ObeysBut.of_stand (h.changeMode (m := .maintenance) nofun) (.of_fields rfl rfl rfl rfl rfl)
  | leaveMaintenance =>
    simp only [ownerOf, ownerLeaveMaintenance]
    split
    · exact Answer.lawful_event (.leaveMaintenance h) _
    · exact refuse
  | writeBay =>
    simp only [ownerOf, ownerWriteBay]
    split
    · exact refuse
    · exact refuse
    · split
      · exact refuse
      · next hconflict =>
        simp only [State.bayConflict, Bool.or_eq_true, not_or, Bool.not_eq_true] at hconflict
        exact Answer.lawful_event (.writeBay h _ hconflict.1.2) _
  | writeProfile | writeResponse =>
    simp only [ownerOf, ownerWriteProfile, ownerWriteResponse]
    split
    · exact refuse
    · exact refuse
    · split
      · exact refuse
      · exact Answer.lawful_stand h (.of_fields rfl rfl rfl rfl rfl) _
  | eraseProfile =>
    simp only [ownerOf, ownerEraseProfile]
    split
    · exact refuse
    · exact refuse
    · exact Answer.lawful_stand h (.of_fields rfl rfl rfl rfl rfl) _
  | writeLine =>
    simp only [ownerOf, ownerWriteLine]
    split
    · exact refuse
    · exact refuse
    · split
      · exact refuse
      · exact Answer.lawful_event (.writeLine h _ _) _
  | writePlatform =>
    simp only [ownerOf, ownerWritePlatform]
    split
    · exact refuse
    · exact refuse
    · exact Answer.lawful_event (.placedChange (h.of_stand (.of_fields rfl rfl rfl rfl rfl)) _) _
  | commit =>
    simp only [ownerOf, ownerCommit]
    split
    · exact refuse
    · exact Answer.lawful_stand h (.commit s) _

/-! ### Requests -/

theorem Answer.Lawful.outcome {a : Answer} (h : a.Lawful l) : Obeys l a.outcome.s := by
  have hrun := Obeys.run Config.eventBound a.tasks a.ev h.obeys h.fits
  unfold Answer.outcome
  dsimp only
  split
  · exact hrun.settle
  · exact hrun

theorem LawStands.setPort (n : Link) (p : Port) : AllLawStands s (s.setPort n p) := by
  cases n <;> exact .of_fields rfl rfl rfl rfl rfl

theorem LawStands.countFrame (s : State) : AllLawStands s s.countFrame := by
  simp only [State.countFrame]
  repeat' split
  all_goals exact .of_fields rfl rfl rfl rfl rfl

theorem LawStands.takeFrame (s : State) (n : Link) : AllLawStands s (s.takeFrame n) := by
  cases n with
  | station => exact .setPort .station _
  | signalling => exact (LawStands.setPort .signalling _).trans (.countFrame _)

/-- What is done after the answer's event is no law's to read. -/
theorem LawStands.carryOut (a : Answer) (n : Link) (k : Byte) : AllLawStands a.outcome.s (a.carryOut n k) := by
  have hrecorded (u : State) (r : Result) : AllLawStands u (u.recordAuthority n k r) := by
    unfold State.recordAuthority
    split
    · exact .of_fields rfl rfl rfl rfl rfl
    · exact .refl _ u
  have howed (u : State) (p : Bool) (r : Result) (c : List Byte) : AllLawStands u ((u.formPins.prepare n p).owe n k r c) := by
    cases n <;> exact .of_fields rfl rfl rfl rfl rfl
  exact (hrecorded _ _).trans (howed _ _ _ _)

theorem Answer.refuse_keepsLaws (s : State) (r : Result) (n : Link) (k : Byte) :
    KeepsLaws s ((Answer.refuse s r).carryOut n k) := by
  have hst := LawStands.carryOut (Answer.refuse s r) n k
  rw [Answer.outcome_refuse] at hst
  exact hst.keepsLaws

/-- During STARTING every request is refused BUSY; once it is over its owner answers (spec/08 R154). -/
theorem judge_keepsLaws (n : Link) (k : RequestKind) (body : List Byte) (s : State) (c : Byte) :
    KeepsLaws s ((judge n k body (ownerOf k) s).carryOut n c) := by
  unfold judge
  split
  · exact Answer.refuse_keepsLaws s _ n c
  · next hnone =>
    have hrunning : s.mode.mode ≠ .starting := by
      intro hstarting
      simp [State.linkRefusal, hstarting] at hnone
    exact .of_obeys hrunning (fun l h => (ownerOf_lawful k body h).outcome.of_stand (.carryOut _ n c))

theorem State.receive_keepsLaws (s : State) (n : Link) (c : Byte) {answer : State → Answer}
    (h : ∀ u, KeepsLaws u ((answer u).carryOut n c)) : KeepsLaws s (s.receive n c answer) := by
  unfold State.receive
  repeat' split
  · exact .refl s
  · exact (LawStands.setPort n _).keepsLaws
  · exact (LawStands.setPort .signalling _).keepsLaws
  · exact (LawStands.takeFrame s n).keepsLaws.trans (h _)

theorem State.request_keepsLaws (s : State) (n : Link) (k : RequestKind) (body : List Byte) :
    KeepsLaws s (s.request n k body (ownerOf k)) := s.receive_keepsLaws n _ (fun u => judge_keepsLaws n k body u _)

theorem State.receiveFrame_keepsLaws (s : State) (n : Link) (k : Byte) (body : List Byte) :
    KeepsLaws s (s.receiveFrame n k body) := by
  unfold State.receiveFrame
  split
  · exact s.request_keepsLaws n _ body
  · exact s.receive_keepsLaws n k (fun u => Answer.refuse_keepsLaws u _ n k)

theorem State.completeFrame_keepsLaws (s : State) (n : Link) (length : Byte) (bytes : List Byte) :
    KeepsLaws s (s.completeFrame n length bytes) := by
  unfold State.completeFrame
  repeat' split
  · exact s.receiveFrame_keepsLaws n _ _
  · exact (LawStands.setPort n _).keepsLaws
  · exact (LawStands.setPort n _).keepsLaws

/-! ### Every command, and the passing of time -/

theorem State.active_running (h : s.active = true) : s.mode.mode ≠ .starting := by
  simp only [State.active, Bool.and_eq_true, bne_iff_ne] at h
  exact h.2

/-- An event of a part whose blocks take events. -/
theorem State.event_keepsLaws (hs : s.mode.mode ≠ .starting) {f : Ev → Ev × List Task}
    (hf : ∀ l, Obeys l s → Lawful l (f (Ev.start s)).1.s (f (Ev.start s))) : KeepsLaws s (s.event f) :=
  .of_obeys hs (fun l h => Lawful.event (hf l h))

theorem State.event_if_keepsLaws {p : Bool} (hs : p = true → s.active = true) {f : Ev → Ev × List Task}
    (hf : p = true → ∀ l, Obeys l s → Lawful l (f (Ev.start s)).1.s (f (Ev.start s))) :
    KeepsLaws s (if p then s.event f else s) := by
  split
  · next hp => exact State.event_keepsLaws (State.active_running (hs hp)) (hf hp)
  · exact .refl s

theorem State.beginRestart_keepsLaws (s : State) (p : Power) : KeepsLaws s ({ s with power := p }).beginRestart := by
  have hpower : AllLawStands s { s with power := p } := .of_fields rfl rfl rfl rfl rfl
  unfold State.beginRestart
  split
  · exact State.restart_keepsLaws s _ _
  · exact hpower.keepsLaws

theorem execRawLevelChange_keepsLaws (s : State) (n : InputLine) (high : Bool) :
    ∃ t, execRawLevelChange n high s = .next t ∧ KeepsLaws s t := by
  refine ⟨_, rfl, ?_⟩
  have hraw : AllLawStands s (s.setRaw n high) := .setInputLine n _
  split
  · exact .refl s
  · split
    · next hactive =>
      simp only [Bool.and_eq_true] at hactive
      refine hraw.keepsLaws.trans ?_
      unfold State.filterTakes
      repeat' split
      · exact (LawStands.setInputLine n _).keepsLaws
      · have hrunning := State.active_running hactive.1
        exact State.event_keepsLaws (fun hm => hrunning (hraw.starting.mp hm)) (fun l h => .filteredChange h n)
      · exact (LawStands.setInputLine n _).keepsLaws
    · exact hraw.keepsLaws

theorem State.phaseTimerIn_some {p : Bay → Bool} {x : Timer} (h : s.phaseTimerIn b p = some x) :
    s.active = true ∧ p (s.bay b) = true := by
  unfold State.phaseTimerIn at h
  split at h
  · next hp => exact Bool.and_eq_true_iff.mp hp
  · exact absurd h nofun

/-- A phase that a phase limit runs in is one of a SLIDING bay. -/
theorem State.limitRow_keepsLaws (s : State) (b : BayIx) (p : Bay → Bool) (c : FaultCode)
    (hp : ∀ x : Bay, p x = true → x.phase ≠ .notFitted ∧ x.phase ≠ .closedLocked ∧ x.phase ≠ .released ∧ x.phase ≠ .faulted) :
    KeepsLaws s (s.limitRow b p c) := by
  unfold State.limitRow
  split
  · next x htimer =>
    obtain ⟨hactive, hphase⟩ := State.phaseTimerIn_some htimer
    obtain ⟨hfitted, hlocked, hreleased, hfaulted⟩ := hp _ hphase
    exact State.event_keepsLaws (State.active_running hactive) (fun l h =>
      (Lawful.limitExpires (e := Ev.start s) h c x rfl hfitted hlocked hreleased hfaulted).of_kind (fun _ => rfl))
  · exact .refl s

/-- The commands that are no requests, one by one. -/
theorem exec_other_keepsLaws {i : Instr} (h : requestOf i = none) (s : State) :
    ∃ t, exec i s = .next t ∧ KeepsLaws s t := by
  cases i with
  | powerOn =>
    refine ⟨_, rfl, ?_⟩
    split
    · exact .refl s
    · exact s.beginRestart_keepsLaws _
  | resetNReleased =>
    refine ⟨_, rfl, ?_⟩
    split
    · exact s.beginRestart_keepsLaws _
    · exact .refl s
  | supplyOutOfRange | resetNAsserted =>
    refine ⟨_, rfl, ?_⟩
    split <;> exact AllLawStands.keepsLaws (.of_fields rfl rfl rfl rfl rfl)
  | loadingEnds =>
    refine ⟨_, rfl, ?_⟩
    split
    · next hs =>
      simp only [Bool.and_eq_true, beq_iff_eq] at hs
      exact endStarting_keepsLaws hs.2
    · exact .refl s
  | rawLevelChange n high => exact execRawLevelChange_keepsLaws s n high
  | filterHoldExpires n =>
    exact ⟨_, rfl, State.event_if_keepsLaws (by simp +contextual) (fun _ l h => .filteredChange h n)⟩
  | unlockLimitExpires b | openLimitExpires b | closeLimitExpires b | lockLimitExpires b =>
    refine ⟨_, rfl, s.limitRow_keepsLaws b _ _ (fun x hx => ?_)⟩
    cases hphase : x.phase <;> simp_all [Bay.openLimitRuns]
  | warningPeriodExpires b | reopenPauseExpires b =>
    refine ⟨_, rfl, ?_⟩
    split
    · next htimer =>
      obtain ⟨hactive, hphase⟩ := State.phaseTimerIn_some htimer
      simp only [Bool.and_eq_true, beq_iff_eq] at hphase
      exact State.event_keepsLaws (State.active_running hactive) (fun l h =>
        Lawful.toClosing (e := Ev.start s) h hphase.1 nofun nofun nofun nofun)
    · exact .refl s
  | curtainHoldLimitExpires b =>
    refine ⟨_, rfl, ?_⟩
    split
    · next x hcap =>
      have hwarning : s.active = true ∧ (s.bay b).phase = .warning := by
        unfold State.capRunning at hcap
        split at hcap
        · next hw => simpa using hw
        · exact absurd hcap nofun
      exact State.event_keepsLaws (State.active_running hwarning.1) (fun l h =>
        Lawful.forceClosing (e := Ev.start s) h hwarning.2 x)
    · exact .refl s
  | stuckTimerExpires b sensor =>
    refine ⟨_, rfl, State.event_if_keepsLaws (by simp +contextual) (fun hp l h => ?_)⟩
    simp only [Bool.and_eq_true] at hp
    have hmarked := Lawful.markStuck (e := Ev.start s) h sensor hp.2
    exact hmarked.of_kind (fun c => by cases sensor <;> rfl)
  | gapScanTimerExpires =>
    exact ⟨_, rfl, State.event_if_keepsLaws (by simp +contextual) (fun _ l h =>
      ⟨h.of_stand (.setGap .clear), Task.fits_map (f := .presence) (fun _ => trivial) _⟩)⟩
  | supervisionTimerExpires =>
    refine ⟨_, rfl, ?_⟩
    split
    · next x hrunning =>
      have hactive : s.active = true := by
        unfold State.supervisionRunning at hrunning
        split at hrunning
        · next ha => exact (Bool.and_eq_true_iff.mp ha).1
        · exact absurd hrunning nofun
      exact State.event_keepsLaws (State.active_running hactive) (fun l h => .supervisionExpires (e := Ev.start s) h x)
    · exact .refl s
  | dwellDue | dwellOverstay =>
    exact ⟨_, rfl, State.event_if_keepsLaws (by simp +contextual [State.dwellSupervised]) (fun _ l h =>
      .done (h.of_stand (.reachDwell s _)))⟩
  | recordWriteCompletes verified =>
    refine ⟨_, rfl, State.event_if_keepsLaws (by simp +contextual) (fun _ l hobeys => ?_)⟩
    cases verified with
    | true => exact .done (hobeys.of_stand (.recordPassed s))
    | false => exact .recordFailed (e := Ev.start s) hobeys
  | interByteGap n =>
    refine ⟨_, rfl, ?_⟩
    split
    · exact (LawStands.setPort n _).keepsLaws
    · exact .refl s
  | frameCrcMismatch n =>
    refine ⟨_, rfl, ?_⟩
    repeat' split
    · exact .refl s
    · exact (LawStands.setPort n _).keepsLaws
    · exact (LawStands.setPort n _).keepsLaws
  | byteWhileReplyOwed n =>
    refine ⟨_, rfl, ?_⟩
    split
    · exact (LawStands.setPort n _).keepsLaws
    · exact .refl s
  | replySent n =>
    refine ⟨_, rfl, ?_⟩
    split
    · dsimp only
      split
      · exact State.restart_keepsLaws s _ _
      · exact (LawStands.setPort n _).keepsLaws
    · exact .refl s
  | unknownKind n k body => exact ⟨_, rfl, s.receiveFrame_keepsLaws n k body⟩
  | byteReceived n x =>
    refine ⟨_, rfl, ?_⟩
    repeat' split
    · exact .refl s
    · exact (LawStands.setPort n _).keepsLaws
    · exact (LawStands.setPort n _).keepsLaws
    · exact s.completeFrame_keepsLaws n _ _
  | _ => exact absurd h (by simp [requestOf])

theorem exec_keepsLaws (i : Instr) (s : State) : ∃ t, exec i s = .next t ∧ KeepsLaws s t := by
  rcases h : requestOf i with _ | ⟨n, k, body⟩
  · exact exec_other_keepsLaws h s
  · exact ⟨_, exec_request h s, s.request_keepsLaws n k body⟩

/-- Time moves timers alone, and starts no stuck timer. -/
theorem State.tick_keepsLaws (s : State) : KeepsLaws s s.tick := by
  unfold State.tick
  split
  · refine AllLawStands.keepsLaws ⟨Iff.rfl, ?_, ?_, ?_, rfl, fun _ => rfl, fun c _ => ?_⟩
    · simp only [State.count, Train.tick]; split <;> rfl
    · simp only [State.count, Train.tick]; split <;> rfl
    · simp only [State.count, Train.tick]; split <;> rfl
    · rw [State.count_bay]
      exact ⟨rfl, rfl, rfl, rfl, by simp [Bay.tick, tickTimer], by simp [Bay.tick, tickTimer]⟩
  · exact .refl s

/-- Settles O56: each command restarts the part, begins an event whose tasks all keep the three laws, or leaves alone what
they read. -/
theorem phaseAndMapLawsKept : Obligations.PhaseAndMapLawsKept := by
  intro s t hstep
  have hexec (i : Instr) (u : State) (h : exec i u = .next t) : KeepsLaws u t := by
    obtain ⟨t', ht, hk⟩ := exec_keepsLaws i u
    cases h.symm.trans ht
    exact hk
  have hkeeps : KeepsLaws s t := by
    rcases hp : s.pending with _ | ⟨c, rest⟩
    · rcases hd : s.dueCommand with _ | c
      · cases hstep.symm.trans (step_of_none_due hp hd)
        exact s.tick_keepsLaws
      · exact hexec c s (step_of_due hp hd ▸ hstep)
    · have hpending : AllLawStands s { s with pending := rest } := .of_fields rfl rfl rfl rfl rfl
      exact hpending.keepsLaws.trans (hexec c _ (step_of_pending hp ▸ hstep))
  exact ⟨hkeeps.map, hkeeps.phase, hkeeps.frame⟩

end

end Sys2Proof.Machine
end

section
/-! The aligned set and the map from it (spec/02 R36, R42, R43). -/

namespace Sys2Proof.Machine

/-! ### The best doorway of a bay -/

section

variable {r : BayRecord} {ds : List PlacedDoorway} {d : PlacedDoorway}

theorem bestDoorway_cons (r : BayRecord) (d : PlacedDoorway) (ds : List PlacedDoorway) :
    bestDoorway r (d :: ds) = some d ∧ (∀ e ∈ bestDoorway r ds, bayOverlap2 r e ≤ bayOverlap2 r d)
    ∨ ∃ e, bestDoorway r ds = some e ∧ bestDoorway r (d :: ds) = some e ∧ bayOverlap2 r d < bayOverlap2 r e := by
  rcases hbest : bestDoorway r ds with _ | e
  · exact .inl ⟨by simp [bestDoorway, hbest], by simp⟩
  · by_cases hlt : bayOverlap2 r d < bayOverlap2 r e
    · exact .inr ⟨e, rfl, by simp [bestDoorway, hbest, hlt], hlt⟩
    · exact .inl ⟨by simp [bestDoorway, hbest, hlt], by simpa using hlt⟩

theorem bestDoorway_eq_none : bestDoorway r ds = none ↔ ds = [] := by
  cases ds with
  | nil => simp [bestDoorway]
  | cons d ds => rcases bestDoorway_cons r d ds with ⟨h, _⟩ | ⟨e, _, h, _⟩ <;> simp [h]

/-- No doorway overlaps a bay by more than the best one. -/
theorem bestDoorway_max (h : bestDoorway r ds = some d) : ∀ e ∈ ds, bayOverlap2 r e ≤ bayOverlap2 r d := by
  induction ds generalizing d with
  | nil => exact fun _ he => absurd he List.not_mem_nil
  | cons c ds ih =>
    intro e he
    rcases bestDoorway_cons r c ds with ⟨hc, hrest⟩ | ⟨b, hb, hc, hlt⟩ <;> obtain rfl := Option.some.inj (hc.symm.trans h)
    · rcases List.mem_cons.mp he with rfl | he
      · exact le_rfl
      · rcases hb : bestDoorway r ds with _ | b
        · rw [bestDoorway_eq_none.mp hb] at he
          exact absurd he List.not_mem_nil
        · exact (ih hb e he).trans (hrest b hb)
    · rcases List.mem_cons.mp he with rfl | he
      · exact hlt.le
      · exact ih hb e he

/-- The best doorway is the first one of its overlap. -/
theorem bestDoorway_first (h : bestDoorway r ds = some d) :
    ∃ before after, ds = before ++ d :: after ∧ ∀ e ∈ before, bayOverlap2 r e < bayOverlap2 r d := by
  induction ds generalizing d with
  | nil => exact absurd h nofun
  | cons c ds ih =>
    rcases bestDoorway_cons r c ds with ⟨hc, _⟩ | ⟨b, hb, hc, hlt⟩ <;> obtain rfl := Option.some.inj (hc.symm.trans h)
    · exact ⟨[], ds, rfl, nofun⟩
    · obtain ⟨before, after, hds, hfirst⟩ := ih hb
      refine ⟨c :: before, after, by rw [hds, List.cons_append], fun e he => ?_⟩
      rcases List.mem_cons.mp he with rfl | he
      · exact hlt
      · exact hfirst e he

end

/-! ### The aligned set -/

section

variable {s : State} {ds : List PlacedDoorway} {b : BayIx}

/-- A bay is aligned by its best doorway (spec/02 R36). -/
theorem State.alignBay_eq_some {a : AlignedBay} :
    s.alignBay ds b = some a ↔ s.kind b = .sliding ∧ ∃ d, bestDoorway (s.bayRecord b) ds = some d
      ∧ 2 * (s.bayRecord b).minOverlap ≤ bayOverlap2 (s.bayRecord b) d
      ∧ a = { bay := b, unitNo := d.unitNo, doorway := d.doorway, overlap := bayOverlap2 (s.bayRecord b) d / 2 } := by
  rw [← sliding_iff]
  simp only [State.alignBay]
  by_cases hs : s.sliding b = true
  · rcases hbest : bestDoorway (s.bayRecord b) ds with _ | d
    · simp [hs]
    · by_cases hmin : 2 * (s.bayRecord b).minOverlap ≤ bayOverlap2 (s.bayRecord b) d
      · simp [hs, hmin, eq_comm]
      · simp [hs, hmin]
  · simp [hs]

/-- A bay that some doorway overlaps enough is aligned, by its best doorway. -/
theorem State.alignBay_isSome :
    (s.alignBay ds b).isSome = true ↔
      s.kind b = .sliding ∧ ∃ d ∈ ds, 2 * (s.bayRecord b).minOverlap ≤ bayOverlap2 (s.bayRecord b) d := by
  rw [Option.isSome_iff_exists]
  constructor
  · rintro ⟨a, ha⟩
    obtain ⟨hs, d, hbest, hmin, -⟩ := State.alignBay_eq_some.mp ha
    obtain ⟨before, after, rfl, -⟩ := bestDoorway_first hbest
    exact ⟨hs, d, by simp, hmin⟩
  · rintro ⟨hs, d, hd, hmin⟩
    rcases hbest : bestDoorway (s.bayRecord b) ds with _ | e
    · rw [bestDoorway_eq_none.mp hbest] at hd
      exact absurd hd List.not_mem_nil
    · exact ⟨_, State.alignBay_eq_some.mpr ⟨hs, e, hbest, hmin.trans (bestDoorway_max hbest d hd), rfl⟩⟩

/-- Settles O30: the best doorway is the first of the largest overlap. -/
theorem alignedSetFollowsTheOverlaps : Obligations.AlignedSetFollowsTheOverlaps := by
  intro s ds
  refine ⟨s.alignedSet_pairwise ds, fun b => ?_, fun a ha => ?_⟩
  · have hmem : (∃ a ∈ s.alignedSet ds, a.bay = b) ↔ b ∈ (s.alignedSet ds).map AlignedBay.bay := List.mem_map.symm
    rw [hmem, State.alignedSet_bays, List.mem_filter, State.alignBay_isSome]
    exact and_iff_right (mem_allBays b)
  · obtain ⟨-, d, hbest, -, heq⟩ := State.alignBay_eq_some.mp (State.mem_alignedSet.mp ha)
    obtain ⟨before, after, hds, hfirst⟩ := bestDoorway_first hbest
    have hmax : ∀ e ∈ after, bayOverlap2 (s.bayRecord a.bay) e ≤ bayOverlap2 (s.bayRecord a.bay) d :=
      fun e he => bestDoorway_max hbest e (by simp [hds, he])
    exact ⟨before, d, after, hds, congrArg AlignedBay.unitNo heq, congrArg AlignedBay.doorway heq,
      congrArg AlignedBay.overlap heq, hfirst, hmax⟩

end

/-! ### The selection and the map -/

section

variable {bs cs : List BayIx} {s : State}

theorem filter_not_first (h : (bs ++ cs).Nodup) : (bs ++ cs).filter (fun b => !bs.contains b) = cs := by
  have hdisjoint := List.disjoint_of_nodup_append h
  have hfirst : bs.filter (fun b => !bs.contains b) = [] := by simp
  have hlast : cs.filter (fun b => !bs.contains b) = cs :=
    List.filter_eq_self.mpr fun b hb => by simpa using fun hb' => hdisjoint hb' hb
  rw [List.filter_append, hfirst, hlast, List.nil_append]

theorem filter_not_last (h : (bs ++ cs).Nodup) : (bs ++ cs).filter (fun b => !cs.contains b) = bs := by
  have hdisjoint := List.disjoint_of_nodup_append h
  have hfirst : bs.filter (fun b => !cs.contains b) = bs :=
    List.filter_eq_self.mpr fun b hb => by simpa using fun hb' => hdisjoint hb hb'
  have hlast : cs.filter (fun b => !cs.contains b) = [] := by simp
  rw [List.filter_append, hfirst, hlast, List.append_nil]

theorem filter_not_take (h : bs.Nodup) (n : Nat) : bs.filter (fun b => !(bs.take n).contains b) = bs.drop n := by
  have hfilter := filter_not_first (bs := bs.take n) (cs := bs.drop n) (by rwa [List.take_append_drop])
  rwa [List.take_append_drop] at hfilter

theorem filter_not_drop (h : bs.Nodup) (n : Nat) : bs.filter (fun b => !(bs.drop n).contains b) = bs.take n := by
  have hfilter := filter_not_last (bs := bs.take n) (cs := bs.drop n) (by rwa [List.take_append_drop])
  rwa [List.take_append_drop] at hfilter

theorem State.mem_excludedOf {x : Selection} {b : BayIx} {r : Reason} :
    (b, r) ∈ s.excludedOf x ↔ b ∈ s.selected x ∧ s.exclusion b = some r := by
  simp only [State.excludedOf, List.mem_filterMap, Option.map_eq_some_iff, Prod.mk.injEq]
  exact ⟨fun ⟨_, hc, _, hr, hb, heq⟩ => by subst hb heq; exact ⟨hc, hr⟩, fun ⟨hb, hr⟩ => ⟨b, hb, r, hr, rfl, rfl⟩⟩

/-- Settles O31: in an aligned set without a repeated bay the first n and the rest, and the last n and the rest, are each
other's complement. -/
theorem mapIsSelectedFromTheAlignedSet : Obligations.MapIsSelectedFromTheAlignedSet := by
  intro s x hsorted
  have hnodup : s.train.alignedBays.Nodup := hsorted.imp (fun h => ne_of_lt h)
  have named (hi : x.invert = false) : s.selected x = x.named s.train.alignedBays := by
    simp [State.selected, Selection.select, hi]
  have rest (hi : x.invert = true) : s.selected x =
      s.train.alignedBays.filter (fun b => !(x.named s.train.alignedBays).contains b) := by
    simp [State.selected, Selection.select, hi]
  refine ⟨fun hi hk => ?_, fun hi hk => ?_, fun hi hk => ?_, fun hi hk => ?_, fun hi hk => ?_, fun hi hk => ?_,
    hsorted.sublist (s.mapOf_sublist x), fun b => State.mem_mapOf, fun b r => ?_⟩
  · rw [named hi, Selection.named, hk]
  · rw [named hi, Selection.named, hk]
  · rw [named hi, Selection.named, hk]
  · rw [rest hi, Selection.named, hk]; simp
  · rw [rest hi, Selection.named, hk]; exact filter_not_take hnodup _
  · rw [rest hi, Selection.named, hk]; exact filter_not_drop hnodup _
  · rw [State.mem_excludedOf, State.exclusion_eq_some]

end

end Sys2Proof.Machine
end

section
/-! Events that change the train, the gap result and the event queue alone, and the dwell (spec/02 R52, R53). -/

namespace Sys2Proof.Machine

/-! ### What an event of the train has changed so far -/

/-- Of the state s only the train, the gap result, supervision, the links and the event queue have changed. -/
structure TrainOnly (s t : State) : Prop where
  rest : { t with train := s.train, gap := s.gap, supervision := s.supervision, station := s.station
                  signalling := s.signalling, events := s.events } = s
  mask : t.events.mask = s.events.mask
  authority : t.events.authority = s.events.authority

namespace TrainOnly

variable {s t u : State}

theorem refl (s : State) : TrainOnly s s := ⟨rfl, rfl, rfl⟩

theorem trans (h : TrainOnly s t) (hu : TrainOnly t u) : TrainOnly s u := by
  have hrest := congrArg (fun v : State => { v with
    train := s.train, gap := s.gap, supervision := s.supervision, station := s.station
    signalling := s.signalling, events := s.events }) hu.rest
  exact ⟨hrest.trans h.rest, hu.mask.trans h.mask, hu.authority.trans h.authority⟩

theorem read (h : TrainOnly s t) {α : Type} (f : State → α)
    (hf : f { t with train := s.train, gap := s.gap, supervision := s.supervision, station := s.station
                     signalling := s.signalling, events := s.events } = f t) : f t = f s :=
  hf.symm.trans (congrArg f h.rest)

theorem post (h : TrainOnly s t) (k : EventKind) (c : Option BayIx) (v : Nat) : TrainOnly s (t.post k c v) :=
  ⟨h.rest, (State.post_mask t k c v).trans h.mask, (State.post_authority t k c v).trans h.authority⟩

theorem setTrain (s : State) (x : Train) : TrainOnly s { s with train := x } := ⟨rfl, rfl, rfl⟩

theorem clearGap (h : TrainOnly s t) : TrainOnly s (t.setGap .none) := ⟨h.rest, h.mask, h.authority⟩

/-- Counting a frame moves supervision alone (spec/06 R118). -/
theorem countFrame (s : State) : TrainOnly s s.countFrame := by
  have read {α : Type} (f : State → α) := congrArg f s.countFrame_same
  have hrest := read (fun u => { u with
    train := s.train, gap := s.gap, supervision := s.supervision, station := s.station
    signalling := s.signalling, events := s.events })
  exact ⟨hrest, read (fun u => u.events.mask), read (fun u => u.events.authority)⟩

theorem takeFrame (s : State) (l : Link) : TrainOnly s (s.takeFrame l) := by
  have hbuffer : TrainOnly s (s.setBuffer l .hunting) := by cases l <;> exact ⟨rfl, rfl, rfl⟩
  cases l with
  | station => exact hbuffer
  | signalling => exact hbuffer.trans (countFrame _)

section

variable (h : TrainOnly s t)
include h

theorem stands : Stands s t :=
  { power := h.read State.power rfl
    uptime := h.read State.uptime rfl
    area := h.read (fun u => u.store.area) rfl
    frozen := h.read (fun u => u.store.frozen) rfl
    pending := h.read State.pending rfl
    restartCause := h.read (fun u => u.mode.restartCause) rfl
    restartAccepted := h.read (fun u => u.mode.restartAccepted) rfl
    mask := h.mask
    authority := h.authority
    trace := fun c => h.read (fun u => (u.bay c).trace) rfl
    freeCount := h.read State.freeCount rfl }

theorem storeStands : StoreStands s t := h.read (fun u => { u.store with state := s.store.state }) rfl
theorem linesStand : LinesStand s t := ⟨h.read State.lines rfl, fun b => h.read (fun u => (u.bay b).lines) rfl⟩
theorem releaseStands : ReleaseStands s t := h.read (fun u => { u.release with alarm := s.release.alarm }) rfl

theorem faceStands : FaceStands s t :=
  ⟨h.read (fun u => { u.mode with preparation := s.mode.preparation }) rfl, h.read State.platformFrame rfl,
    h.read (fun u => u.proof.keyLevel) rfl, h.read State.stalled rfl⟩

theorem settle_baysStand : BaysStand s t.settle := fun b =>
  (t.settle_core b).trans (h.read (fun u => (u.bay b).core) rfl)

end

/-- What the end of the event leaves, where the event has answered no link and counted no frame. -/
theorem settled (h : TrainOnly s t) (hlinks : t.station = s.station ∧ t.signalling = s.signalling)
    (hsupervision : t.supervision = s.supervision) :
    BaysStand s t.settle ∧ Stands s t.settle ∧ StoreStands s t.settle ∧ LinksStand s t.settle ∧ LinesStand s t.settle
      ∧ ReleaseStands s t.settle ∧ FaceStands s t.settle ∧ t.settle.supervision = s.supervision :=
  ⟨h.settle_baysStand, h.stands.settle, h.storeStands.settle,
    LinksStand.settle ⟨hlinks.1, hlinks.2, h.read (fun u => u.mode.preparation) rfl⟩, LinesStand.settle h.linesStand,
    ReleaseStands.settle h.releaseStands, h.faceStands.settle, t.settle_supervision.trans hsupervision⟩

end TrainOnly

/-- An event without tasks is what it has changed, settled. -/
theorem State.event_on (s : State) (f : State → State) : s.event (fun e => (e.on f, [])) = (f s).settle := by
  rw [State.event, Ev.finish, run_nil]
  rfl

/-! ### The dwell -/

section

variable {s : State}

theorem State.compareDue_only (s : State) : TrainOnly s s.compareDue := by
  unfold State.compareDue
  split
  · exact (TrainOnly.setTrain s _).post _ _ _
  · exact .refl s

theorem State.compareOverstay_only (s : State) : TrainOnly s s.compareOverstay := by
  unfold State.compareOverstay
  split
  · exact (TrainOnly.setTrain s _).post _ _ _
  · exact .refl s

theorem State.compareDwell_only (s : State) : TrainOnly s s.compareDwell := by
  rw [State.compareDwell_eq]
  split
  · exact .refl s
  · exact s.compareDue_only.trans (State.compareOverstay_only _)

theorem State.compareDue_train (s : State) :
    s.compareDue.train = { s.train with due := s.train.due || decide (s.train.dueAt ≤ s.train.dwellElapsed) } := by
  unfold State.compareDue
  split
  · next hset =>
    have hflag : (s.train.due || decide (s.train.dueAt ≤ s.train.dwellElapsed)) = true := by simp_all
    rw [hflag]
    rfl
  · next hset =>
    have hflag : (s.train.due || decide (s.train.dueAt ≤ s.train.dwellElapsed)) = s.train.due := by
      revert hset; cases s.train.due <;> simp
    rw [hflag]

theorem State.compareOverstay_train (s : State) :
    s.compareOverstay.train
      = { s.train with overstay := s.train.overstay || decide (s.overstayAt ≤ s.train.dwellElapsed) } := by
  unfold State.compareOverstay
  split
  · next hset =>
    have hflag : (s.train.overstay || decide (s.overstayAt ≤ s.train.dwellElapsed)) = true := by simp_all
    rw [hflag]
    rfl
  · next hset =>
    have hflag : (s.train.overstay || decide (s.overstayAt ≤ s.train.dwellElapsed)) = s.train.overstay := by
      revert hset; cases s.train.overstay <;> simp
    rw [hflag]

/-- The dwell comparison sets the flags whose thresholds elapsed has reached, and clears none (spec/02 R52). -/
theorem State.compareDwell_train (h : s.train.dwellLimit ≠ 0) :
    s.compareDwell.train = { s.train with
      due := s.train.due || decide (s.train.dueAt ≤ s.train.dwellElapsed)
      overstay := s.train.overstay || decide (s.overstayAt ≤ s.train.dwellElapsed) } := by
  have hplatform : s.compareDue.platform = s.platform := s.compareDue_only.read State.platform rfl
  rw [State.compareDwell_eq, if_neg (by simpa using h), State.compareOverstay_train, State.overstayAt, hplatform,
    State.compareDue_train]
  rfl

theorem State.reachDwell_train (h : s.train.dwellLimit ≠ 0) (n : Nat) :
    (s.reachDwell n).train = { s.train with
      dwellElapsed := max s.train.dwellElapsed n
      due := s.train.due || decide (s.train.dueAt ≤ max s.train.dwellElapsed n)
      overstay := s.train.overstay || decide (s.overstayAt ≤ max s.train.dwellElapsed n) } :=
  State.compareDwell_train (s := { s with train := { s.train with dwellElapsed := max s.train.dwellElapsed n } }) h

theorem State.compareDwell_gap (s : State) : s.compareDwell.gap = s.gap := by
  simp only [State.compareDwell]
  repeat' split
  all_goals rfl

theorem State.compareDwell_links (s : State) :
    s.compareDwell.station = s.station ∧ s.compareDwell.signalling = s.signalling := by
  simp only [State.compareDwell]
  repeat' split
  all_goals exact ⟨rfl, rfl⟩

theorem State.compareDwell_supervision (s : State) : s.compareDwell.supervision = s.supervision := by
  simp only [State.compareDwell]
  repeat' split
  all_goals rfl

/-- The event of a dwell timer: elapsed is at its threshold, and all but the train stands. -/
theorem State.event_reachDwell (s : State) (threshold : State → Nat) (x : Train)
    (hx : (s.reachDwell (threshold s)).train = x) :
    let t := s.event (fun e => (e.on (fun t => t.reachDwell (threshold t)), []))
    t.train = x ∧ t.gap = s.gap ∧ BaysStand s t ∧ Stands s t ∧ StoreStands s t ∧ LinksStand s t ∧ LinesStand s t
      ∧ ReleaseStands s t ∧ FaceStands s t ∧ t.supervision = s.supervision := by
  have honly : TrainOnly s (s.reachDwell (threshold s)) := (TrainOnly.setTrain s _).trans (State.compareDwell_only _)
  rw [State.event_on]
  exact ⟨(State.settle_train _).trans hx, (State.settle_gap _).trans (State.compareDwell_gap _),
    honly.settled (State.compareDwell_links _) (State.compareDwell_supervision _)⟩

/-- The dwell is supervised while the train is ENABLED or CLOSING and has a limit (spec/02 R52). -/
theorem State.dwellSupervised_of (hactive : s.active = true) (hstate : s.train.state = .enabled ∨ s.train.state = .closing)
    (hlimit : s.train.dwellLimit ≠ 0) : s.dwellSupervised = true := by
  simp [State.dwellSupervised, Train.dwellRuns, hactive, hstate, hlimit]

/-- Settles O20: elapsed is brought to the threshold, and the dwell comparison does the rest. -/
theorem dwellFlagsAreSet : Obligations.DwellFlagsAreSet := by
  intro s hactive hstate hlimit
  have hsupervised := State.dwellSupervised_of hactive hstate hlimit
  refine ⟨fun hdue => ?_, fun hoverstay => ?_⟩
  · have hexec : exec .dwellDue s
        = .next (s.event (fun e => (e.on (fun t => t.reachDwell t.train.dueAt), []))) := by
      simp [exec, execDwellDue, hsupervised, hdue]
    refine ⟨_, hexec, s.event_reachDwell (fun t => t.train.dueAt) _ ?_⟩
    have hreached : s.train.dueAt ≤ max s.train.dwellElapsed s.train.dueAt := le_max_right _ _
    rw [State.reachDwell_train hlimit, decide_eq_true hreached, Bool.or_true]
    rfl
  · have hexec : exec .dwellOverstay s
        = .next (s.event (fun e => (e.on (fun t => t.reachDwell t.overstayAt), []))) := by
      simp [exec, execDwellOverstay, hsupervised, hoverstay]
    refine ⟨_, hexec, s.event_reachDwell State.overstayAt _ ?_⟩
    have hreached : s.overstayAt ≤ max s.train.dwellElapsed s.overstayAt := le_max_right _ _
    have hdue : s.train.dueAt ≤ max s.train.dwellElapsed s.overstayAt := by
      simp only [Train.dueAt, State.overstayAt]; omega
    rw [State.reachDwell_train hlimit, decide_eq_true hreached, decide_eq_true hdue, Bool.or_true, Bool.or_true]
    rfl

end

end Sys2Proof.Machine
end

section
/-! How the links answer: refusals, reads, and events of the train (spec/04 R94, spec/08 R154, spec/10 R172 to R174). -/

namespace Sys2Proof.Machine

/-! ### The station link -/

section

variable {s v : State} {q : RequestKind} {body : List Byte} {i : Instr} {r : Result} {content : List Byte}

/-- Taking the frame changes the station link alone, and the reply does not read what it changes. -/
theorem stationDone_takeFrame (hstation : v.station = s.station) (k : Byte) (r : Result) (content : List Byte) :
    stationDone s (v.takeFrame .station) k r content = stationAnswer v k r content := by
  have hport : stationPort s k r content = stationPort v k r content := by simp [stationPort, hstation]
  rw [stationDone, hport]
  rfl

/-- A station request that its owner refuses. -/
theorem exec_station_refused (hi : requestOf i = some (.station, q, body)) (h : Admits .station q body s)
    (howner : ownerOf q body (s.takeFrame .station) = .refuse (s.takeFrame .station) r) (hr : r.isAuthority = false) :
    exec i s = .next (stationAnswer s q.code r []) := by
  have hcarried := Answer.carryOut_station s (.refuse (s.takeFrame .station) r) q.code
    (by rw [Answer.outcome_refuse]; rfl) hr rfl
  rw [exec_request hi, State.request_admits _ _ _ _ _ h, howner, hcarried, Answer.outcome_refuse]
  exact congrArg _ (stationDone_takeFrame rfl _ _ _)

/-- A station request that its owner settles, in a state that differs from v by the frame taken. -/
theorem exec_station_settled (hi : requestOf i = some (.station, q, body)) (h : Admits .station q body s)
    (hstation : v.station = s.station)
    (howner : ownerOf q body (s.takeFrame .station) = .settled (v.takeFrame .station) content) :
    exec i s = .next (stationAnswer v q.code .done content) := by
  have hcarried := Answer.carryOut_station s (.settled (v.takeFrame .station) content) q.code
    (by rw [Answer.outcome_settled]; simp [State.takeFrame, State.setBuffer, State.setPort, State.port, Ev.start, hstation])
    rfl rfl
  rw [exec_request hi, State.request_admits _ _ _ _ _ h, howner, hcarried, Answer.outcome_settled]
  exact congrArg _ (stationDone_takeFrame hstation _ _ _)

end

/-! ### The signalling link -/

/-- The state once a signalling request, taken from the state s, has its event behind it and its reply owed. -/
def signallingDone (s w : State) (k : Byte) (r : Result) (content : List Byte) : State :=
  { w with signalling := signallingPort s w k r content, pins := w.pinsNow }

section

variable {s w : State} {k : Byte} {q : RequestKind} {body : List Byte} {i : Instr} {r : Result} {content : List Byte}

@[simp] theorem signallingDone_train : (signallingDone s w k r content).train = w.train := rfl
@[simp] theorem signallingDone_gap : (signallingDone s w k r content).gap = w.gap := rfl
@[simp] theorem signallingDone_supervision : (signallingDone s w k r content).supervision = w.supervision := rfl

theorem signallingDone_answered (q : RequestKind) :
    SignallingAnswered s (signallingDone s w q.code r content) q r content := rfl

theorem Stands.signallingDone (h : Stands s w) : Stands s (signallingDone s w k r content) :=
  ⟨h.power, h.uptime, h.area, h.frozen, h.pending, h.restartCause, h.restartAccepted, h.mask, h.authority, h.trace,
    h.freeCount⟩

theorem BaysStand.signallingDone (h : BaysStand s w) : BaysStand s (signallingDone s w k r content) := h
theorem ReleaseStands.signallingDone (h : ReleaseStands s w) : ReleaseStands s (signallingDone s w k r content) := h
theorem FaceStands.signallingDone (h : FaceStands s w) : FaceStands s (signallingDone s w k r content) := h

/-- What an event leaves as it was stands when the reply is owed. -/
theorem signallingDone_event (h : Stands s w) (hstore : StoreStands s w) (hlines : LinesStand s w)
    (hstation : w.station = s.station) (hpreparation : w.mode.preparation = s.mode.preparation) :
    SignallingEvent s (signallingDone s w k r content) := ⟨h.signallingDone, hstore, hlines, hstation, hpreparation⟩

theorem State.countFrame_signalling (s : State) (p : Port) :
    ({ s with signalling := p } : State).countFrame = { s.countFrame with signalling := p } := by
  have hplatform : ({ s with signalling := p } : State).platform = s.platform := rfl
  simp only [State.countFrame, hplatform]
  rcases s.supervision.state <;> dsimp only
  · split <;> rfl
  · split <;> rfl

theorem State.takeFrame_signalling_eq (s : State) :
    s.takeFrame .signalling = { s.countFrame with signalling := { s.signalling with buffer := .hunting, sinceByte := 0 } } :=
  s.countFrame_signalling _

theorem Answer.carryOut_signalling (s : State) (a : Answer) (k : Byte)
    (hsignalling : a.outcome.s.signalling = (s.takeFrame .signalling).signalling)
    (hauthority : (a.reply a.outcome).1.isAuthority = false) :
    a.carryOut .signalling k = signallingDone s a.outcome.s k (a.reply a.outcome).1 (a.reply a.outcome).2 := by
  rw [State.takeFrame_signalling_eq] at hsignalling
  simp only [Answer.carryOut, State.recordAuthority_other _ _ _ _ hauthority]
  simp only [State.owe, State.prepare, State.setPort, State.port, State.headBlock, State.formPins, hsignalling]
  rfl

/-- A signalling request that its owner refuses. -/
theorem exec_signalling_refused (hi : requestOf i = some (.signalling, q, body)) (h : Admits .signalling q body s)
    (howner : ownerOf q body (s.takeFrame .signalling) = .refuse (s.takeFrame .signalling) r) (hr : r.isAuthority = false) :
    exec i s = .next (signallingAnswer s q.code r []) := by
  have hcarried := Answer.carryOut_signalling s (.refuse (s.takeFrame .signalling) r) q.code
    (by rw [Answer.outcome_refuse]; rfl) hr
  rw [exec_request hi, State.request_admits _ _ _ _ _ h, howner, hcarried, Answer.outcome_refuse]
  simp only [Ev.start, State.takeFrame_signalling_eq]
  rfl

/-- A signalling request whose owner answers with an event. -/
theorem exec_signalling_event {f : Ev → Ev × List Task} {reply : Ev → Result × List Byte}
    (hi : requestOf i = some (.signalling, q, body)) (h : Admits .signalling q body s)
    (howner : ownerOf q body (s.takeFrame .signalling) = .event (s.takeFrame .signalling) f reply)
    {e' : Ev} (hend : (f (Ev.start (s.takeFrame .signalling))).1.finish (f (Ev.start (s.takeFrame .signalling))).2 = e')
    (hsignalling : e'.s.signalling = (s.takeFrame .signalling).signalling)
    (hauthority : (reply e').1.isAuthority = false) :
    exec i s = .next (signallingDone s e'.s q.code (reply e').1 (reply e').2) := by
  have houtcome : (Answer.event (s.takeFrame .signalling) f reply).outcome = e' := by rw [Answer.outcome_event, hend]
  have hcarried := Answer.carryOut_signalling s (Answer.event (s.takeFrame .signalling) f reply) q.code
    (by rw [houtcome]; exact hsignalling) (by rw [houtcome]; exact hauthority)
  rw [exec_request hi, State.request_admits _ _ _ _ _ h, howner, hcarried, houtcome]
  rfl

theorem State.takeFrame_supervision (s : State) : (s.takeFrame .signalling).supervision = s.countFrame.supervision := by
  rw [State.takeFrame_signalling_eq]

theorem State.takeFrame_stationPort (s : State) : (s.takeFrame .signalling).station = s.station := by
  have hcounted := congrArg State.station s.countFrame_same
  dsimp only at hcounted
  rw [State.takeFrame_signalling_eq, hcounted]

/-- What a signalling request leaves whose event has changed the train and the gap result alone. -/
theorem TrainOnly.signallingDone {u : State} (h : TrainOnly s u) (hstation : u.station = s.station)
    (hsupervision : u.supervision = s.countFrame.supervision) (k : Byte) (r : Result) (content : List Byte) :
    (signallingDone s u.settle k r content).train = u.train ∧ (signallingDone s u.settle k r content).gap = u.gap
      ∧ (signallingDone s u.settle k r content).supervision = s.countFrame.supervision
      ∧ BaysStand s (signallingDone s u.settle k r content) ∧ ReleaseStands s (signallingDone s u.settle k r content)
      ∧ FaceStands s (signallingDone s u.settle k r content) ∧ SignallingEvent s (signallingDone s u.settle k r content) := by
  have hpreparation : u.settle.mode.preparation = s.mode.preparation := by
    rw [State.settle_mode]; exact h.read (fun u => u.mode.preparation) rfl
  exact ⟨by rw [signallingDone_train, State.settle_train], by rw [signallingDone_gap, State.settle_gap],
    by rw [signallingDone_supervision, State.settle_supervision, hsupervision],
    BaysStand.signallingDone h.settle_baysStand, ReleaseStands.signallingDone (ReleaseStands.settle h.releaseStands),
    FaceStands.signallingDone (FaceStands.settle h.faceStands),
    signallingDone_event h.stands.settle (StoreStands.settle h.storeStands) (LinesStand.settle h.linesStand)
      (u.settle_station.trans hstation) hpreparation⟩

/-- A signalling request whose event changes the train and the gap result alone. -/
theorem exec_signalling_train {f : Ev → Ev × List Task} {reply : Ev → Result × List Byte} {g : State → State}
    (hi : requestOf i = some (.signalling, q, body)) (h : Admits .signalling q body s)
    (howner : ownerOf q body (s.takeFrame .signalling) = .event (s.takeFrame .signalling) f reply)
    (hf : f (Ev.start (s.takeFrame .signalling)) = ((Ev.start (s.takeFrame .signalling)).on g, []))
    (honly : ∀ u, TrainOnly u (g u) ∧ (g u).station = u.station ∧ (g u).signalling = u.signalling
      ∧ (g u).supervision = u.supervision)
    (hreply : ∀ e, (reply e).1.isAuthority = false) :
    ∃ e, e.s = (g (s.takeFrame .signalling)).settle
      ∧ exec i s = .next (signallingDone s e.s q.code (reply e).1 (reply e).2)
      ∧ TrainOnly s (g (s.takeFrame .signalling)) ∧ (g (s.takeFrame .signalling)).station = s.station
      ∧ (g (s.takeFrame .signalling)).supervision = s.countFrame.supervision := by
  obtain ⟨hchanged, hstation, hsignalling, hsupervision⟩ := honly (s.takeFrame .signalling)
  have hend : (f (Ev.start (s.takeFrame .signalling))).1.finish (f (Ev.start (s.takeFrame .signalling))).2
      = ((Ev.start (s.takeFrame .signalling)).on g).on State.settle := by rw [hf, Ev.finish, run_nil]
  have hexec := exec_signalling_event hi h howner hend
    (by rw [Ev.on_s, Ev.on_s]; exact (State.settle_signalling _).trans hsignalling) (hreply _)
  exact ⟨_, by rw [Ev.on_s, Ev.on_s]; rfl, hexec, (TrainOnly.takeFrame s .signalling).trans hchanged,
    hstation.trans s.takeFrame_stationPort, hsupervision.trans s.takeFrame_supervision⟩

end

end Sys2Proof.Machine
end

section
/-! EXTEND_DWELL, the reads, ANNOUNCE and CANCEL, and BERTH (spec/02 R32 to R34, R53, R54). -/

namespace Sys2Proof.Machine

/-! ### EXTEND_DWELL -/

section

variable {s : State} {n : Nat}

/-- After an extension the flags are those of the new limit: a flag that stood stands only where its threshold is still
reached, and the dwell comparison sets what is reached (spec/02 R53). -/
theorem State.extendDwell_train (hn : 1 ≤ n) :
    (s.extendDwell n).train = { s.train with
      dwellLimit := s.train.extended n, due := decide (s.train.extended n * 1000 ≤ s.train.dwellElapsed)
      overstay := decide ((s.train.extended n + s.platform.overstayMargin) * 1000 ≤ s.train.dwellElapsed) } := by
  have hlimit : s.train.extended n ≠ 0 := by simp only [Train.extended, Config.dwellLimitMax]; omega
  have hcompared := State.compareDwell_train (s := ({ s with train := { s.train with
    dwellLimit := s.train.extended n, due := (s.extendFlags (s.train.extended n)).1
    overstay := (s.extendFlags (s.train.extended n)).2 } } : State).post .dwellExtended none (s.train.extended n)) hlimit
  have hdue : ((s.extendFlags (s.train.extended n)).1 || decide (s.train.extended n * 1000 ≤ s.train.dwellElapsed))
      = decide (s.train.extended n * 1000 ≤ s.train.dwellElapsed) := by
    simp only [State.extendFlags]
    split
    · rfl
    · next hreached => rw [decide_eq_true (Nat.not_lt.mp hreached), Bool.or_true]
  have hoverstay : ((s.extendFlags (s.train.extended n)).2
        || decide ((s.train.extended n + s.platform.overstayMargin) * 1000 ≤ s.train.dwellElapsed))
      = decide ((s.train.extended n + s.platform.overstayMargin) * 1000 ≤ s.train.dwellElapsed) := by
    simp only [State.extendFlags]
    split
    · rfl
    · rw [← decide_not]
      by_cases hreached : (s.train.extended n + s.platform.overstayMargin) * 1000 ≤ s.train.dwellElapsed
      · rw [decide_eq_true hreached, Bool.or_true]
      · simp [Nat.not_le.mp hreached]
  refine Eq.trans hcompared ?_
  rw [← hdue, ← hoverstay]
  rfl

theorem State.extendDwell_only (s : State) (n : Nat) : TrainOnly s (s.extendDwell n) :=
  ((TrainOnly.setTrain s _).post _ _ _).trans (State.compareDwell_only _)

theorem State.extendDwell_gap (s : State) (n : Nat) : (s.extendDwell n).gap = s.gap := State.compareDwell_gap _

theorem State.extendDwell_links (s : State) (n : Nat) :
    (s.extendDwell n).station = s.station ∧ (s.extendDwell n).signalling = s.signalling := State.compareDwell_links _

theorem State.extendDwell_supervision (s : State) (n : Nat) : (s.extendDwell n).supervision = s.supervision :=
  State.compareDwell_supervision _

theorem extendOperand_pos {body : List Byte} (h : extendOperand body = some n) : 1 ≤ n := by
  unfold extendOperand keep at h
  split at h
  · split at h
    · next step hrange =>
      obtain rfl := Option.some.inj h
      simp only [Bool.and_eq_true, decide_eq_true_eq] at hrange
      exact hrange.1
    · exact absurd h nofun
  · exact absurd h nofun

end

/-- What a station request leaves whose event has changed the train and the gap result alone. -/
theorem TrainOnly.stationDone {s u : State} (h : TrainOnly s u) (hsignalling : u.signalling = s.signalling)
    (k : Byte) (r : Result) (content : List Byte) :
    BaysStand s (stationDone s u.settle k r content) ∧ ReleaseStands s (stationDone s u.settle k r content)
      ∧ FaceStands s (stationDone s u.settle k r content) ∧ StationEvent s (stationDone s u.settle k r content) :=
  ⟨fun b => by rw [stationDone_bay]; exact h.settle_baysStand b, ReleaseStands.stationDone (ReleaseStands.settle h.releaseStands),
    FaceStands.stationDone (FaceStands.settle h.faceStands), h.stands.settle.stationDone,
    StoreStands.stationDone (StoreStands.settle h.storeStands), LinesStand.stationDone (LinesStand.settle h.linesStand),
    by rw [stationDone_signalling, State.settle_signalling, hsignalling]⟩

/-- Settles O45: the event extends the dwell and has no task. -/
theorem extendDwellRaisesTheLimit : Obligations.ExtendDwellRaisesTheLimit := by
  intro body s n hadmits hoperand
  refine ⟨fun henabled hclosing => ?_, fun hstate => ?_⟩
  · refine exec_station_refused (q := .extendDwell) rfl hadmits ?_ rfl
    have hdwell : (s.takeFrame .station).train.dwellRuns = false := by
      simp [State.takeFrame_station, Train.dwellRuns, henabled, hclosing]
    simp [ownerOf, ownerExtendDwell, hoperand, hdwell]
  · have hdwell : (s.takeFrame .station).train.dwellRuns = true := by
      simp [State.takeFrame_station, Train.dwellRuns, hstate]
    have howner : ownerOf .extendDwell body (s.takeFrame .station) = .event (s.takeFrame .station)
        (fun e => (e.on (fun t => t.extendDwell n), [])) (fun e => (.done, be16 e.s.train.dwellLimit)) := by
      simp [ownerOf, ownerExtendDwell, hoperand, hdwell]
    have honly := (TrainOnly.takeFrame s .station).trans ((s.takeFrame .station).extendDwell_only n)
    have htrain : ((s.takeFrame .station).extendDwell n).train = _ := State.extendDwell_train (extendOperand_pos hoperand)
    obtain ⟨hstation, hsignalling⟩ := (s.takeFrame .station).extendDwell_links n
    have hdone := State.request_station (e' := (Ev.start (s.takeFrame .station)).on (fun t => t.extendDwell n)) hadmits howner
      (run_nil _ _) hstation rfl
    simp only [Ev.on_s, Ev.start_s, State.settle_train, htrain] at hdone
    obtain ⟨hbays, hrelease, hface, hevent⟩ :=
      honly.stationDone hsignalling RequestKind.extendDwell.code .done (be16 (s.train.extended n))
    rw [exec_request (k := .extendDwell) rfl]
    refine ⟨_, s.train.extended n, congrArg Host.Outcome.next hdone, rfl, ?_, stationDone_answered .extendDwell, ?_, hbays,
      hrelease, hface, hevent, ?_⟩
    · rw [stationDone_train, State.settle_train]
      exact htrain
    · rw [stationDone_gap, State.settle_gap]
      exact State.extendDwell_gap _ n
    · rw [stationDone_supervision, State.settle_supervision]
      exact State.extendDwell_supervision _ n

end Sys2Proof.Machine
end

section
/-! The reads (spec/02 R54, spec/03 R69, spec/05 R115, spec/07 R143, spec/09 R163, spec/10 R175, R176). -/

namespace Sys2Proof.Machine

section

variable {s : State} {body : List Byte}

/-- READ_FAULT of a frame that its clear flag clears, and of one that it does not. -/
theorem ownerReadFault_eq {target : Option BayIx} {clear : Bool} (h : readFaultOperand body = some (target, clear)) :
    ownerReadFault body s = .settled (if clear && clearable target (s.frameOf target) then s.clearTarget target else s)
      (s.faultContent (bayField target) (s.frameOf target) (clear && clearable target (s.frameOf target))) := by
  simp [ownerReadFault, h]

theorem exec_readFault_clears {target : Option BayIx} (h : Admits .station .readFault body s)
    (hop : readFaultOperand body = some (target, true)) (hclear : clearable target (s.frameOf target) = true) :
    exec (.readFault .station body) s = .next (stationAnswer (s.clearTarget target) RequestKind.readFault.code .done
      (s.faultContent (bayField target) (s.frameOf target) true)) := by
  have hframe : (s.takeFrame .station).frameOf target = s.frameOf target := by cases target <;> rfl
  refine exec_station_settled (v := s.clearTarget target) rfl h (by cases target <;> rfl) ?_
  simp only [ownerOf, ownerReadFault_eq hop, hframe, hclear, Bool.and_self, if_true]
  cases target <;> rfl

theorem exec_readFault_keeps {target : Option BayIx} {f : Bool} (h : Admits .station .readFault body s)
    (hop : readFaultOperand body = some (target, f)) (hkeep : (f && clearable target (s.frameOf target)) = false) :
    exec (.readFault .station body) s = .next (stationAnswer s RequestKind.readFault.code .done
      (s.faultContent (bayField target) (s.frameOf target) false)) := by
  have hframe : (s.takeFrame .station).frameOf target = s.frameOf target := by cases target <;> rfl
  refine exec_station_settled rfl h rfl ?_
  simp only [ownerOf, ownerReadFault_eq hop, hframe, hkeep, if_false, Bool.false_eq_true]
  rfl

/-- Settles O37: each read settles its request with what it reads from the state as the frame was taken. -/
theorem readsAnswerWithWhatStood : Obligations.ReadsAnswerWithWhatStood := by
  refine ⟨fun body s => ⟨fun h => ⟨fun hop => ?_, fun b n hop => ?_⟩, fun h => ?_, fun h => ?_,
    fun h => ⟨fun hop => ?_, fun n hop => ?_⟩, fun h => ⟨fun hop => ?_, fun i hop => ?_⟩⟩,
    fun body s => ⟨fun h => ?_, fun h b hop => ?_, fun h => ⟨fun b hop hstate => ?_,
    fun hop hstate => ?_, fun b f hop hkeep => ?_, fun f hop hkeep => ?_⟩⟩⟩
  · exact exec_station_refused rfl h (by simp [ownerOf, ownerReadBays, hop]) rfl
  · exact exec_station_settled rfl h rfl (by simp only [ownerOf, ownerReadBays, hop]; rfl)
  · exact exec_station_settled rfl h rfl rfl
  · exact exec_station_settled rfl h rfl rfl
  · exact exec_station_refused rfl h (by simp [ownerOf, ownerReadReleases, hop]) rfl
  · exact exec_station_settled rfl h rfl (by simp only [ownerOf, ownerReadReleases, hop]; rfl)
  · exact exec_station_refused rfl h (by simp [ownerOf, ownerReadConfig, hop]) rfl
  · exact exec_station_settled rfl h rfl (by cases i <;> simp only [ownerOf, ownerReadConfig, hop] <;> rfl)
  · exact exec_station_settled (v := { s with events := { s.events with authority := false } }) rfl h rfl rfl
  · exact exec_station_settled (v := s.clearLatches) rfl h rfl (by simp only [ownerOf, ownerReadLines, hop]; rfl)
  · exact exec_readFault_clears h hop (by simp [clearable, State.frameOf, hstate])
  · exact exec_readFault_clears h hop (by simp [clearable, State.frameOf, hstate])
  · exact exec_readFault_keeps h hop (by rcases hkeep with hkeep | hkeep <;> simp [clearable, State.frameOf, hkeep])
  · exact exec_readFault_keeps h hop (by rcases hkeep with hkeep | hkeep <;> simp [clearable, State.frameOf, hkeep])

end

end Sys2Proof.Machine
end

section
/-! ANNOUNCE and CANCEL (spec/02 R32, R33), and BERTH (spec/02 R34, R37 to R40). -/

namespace Sys2Proof.Machine

/-! ### What taking the frame leaves -/

section

variable {s t u : State}

theorem State.takeFrame_train (s : State) : (s.takeFrame .signalling).train = s.train := by
  have hcounted := congrArg State.train s.countFrame_same
  dsimp only at hcounted
  rw [State.takeFrame_signalling_eq, hcounted]

theorem State.takeFrame_gap (s : State) : (s.takeFrame .signalling).gap = s.gap := by
  have hcounted := congrArg State.gap s.countFrame_same
  dsimp only at hcounted
  rw [State.takeFrame_signalling_eq, hcounted]

theorem TrainOnly.profile (h : TrainOnly s t) (c : Nat) : t.profile c = s.profile c := h.read (fun u => u.profile c) rfl
theorem TrainOnly.placed (h : TrainOnly s t) : t.placed = s.placed := h.read State.placed rfl

theorem TrainOnly.alignmentOf (h : TrainOnly s t) (m : Mm) (e : Int) : t.alignmentOf m e = s.alignmentOf m e :=
  h.read (fun u => u.alignmentOf m e) rfl

theorem TrainOnly.alignedSet (h : TrainOnly s t) (ds : List PlacedDoorway) : t.alignedSet ds = s.alignedSet ds :=
  h.read (fun u => u.alignedSet ds) rfl

theorem TrainOnly.placeTrain (h : TrainOnly s t) (units : List TrainUnit) (n : Nat) (m : Mm) :
    t.placeTrain n m units = s.placeTrain n m units := by
  induction units generalizing n m with
  | nil => rfl
  | cons x units ih => simp only [State.placeTrain, h.profile, ih]

end

/-! ### ANNOUNCE and CANCEL -/

section

variable {s : State} {body : List Byte}

/-- What ANNOUNCE answers, read from the state before the frame was taken. -/
theorem ownerAnnounce_eq {units : List TrainUnit} {target : Mm} (h : announceOperand body = some (units, target)) :
    ownerAnnounce body (s.takeFrame .signalling) =
      if s.train.state != .empty then .refuse (s.takeFrame .signalling) .sequence
      else if units.any (fun u => (s.profile u.consist).isNone) then .refuse (s.takeFrame .signalling) .noProfile
      else .event (s.takeFrame .signalling) (fun e => (e.on (fun t => t.announce units target), [])) doneReply := by
  simp only [ownerAnnounce, h, State.takeFrame_train, (TrainOnly.takeFrame s .signalling).profile]

theorem State.announce_only (units : List TrainUnit) (target : Mm) (u : State) :
    TrainOnly u (u.announce units target) ∧ (u.announce units target).station = u.station
      ∧ (u.announce units target).signalling = u.signalling ∧ (u.announce units target).supervision = u.supervision :=
  ⟨(TrainOnly.setTrain u _).post _ _ _, rfl, rfl, rfl⟩

/-- The state after an accepted CANCEL (spec/02 R33). -/
def State.cancelTrain (u : State) : State :=
  (({ u with train := .reset }).post .announceCancelled none u.train.state.code).setGap .none

theorem State.cancelTrain_only (u : State) :
    TrainOnly u u.cancelTrain ∧ u.cancelTrain.station = u.station ∧ u.cancelTrain.signalling = u.signalling
      ∧ u.cancelTrain.supervision = u.supervision := ⟨((TrainOnly.setTrain u _).post _ _ _).clearGap, rfl, rfl, rfl⟩

/-- Without map members CANCEL has no presence to evaluate. -/
theorem Ev.returnEmpty_cancel {e : Ev} (h : e.s.train.map = []) :
    e.returnEmpty .announceCancelled e.s.train.state.code = (e.on State.cancelTrain, []) := by
  rw [Ev.returnEmpty, h]
  rfl

/-- Settles O28: the record is replaced by an event without tasks, or the request is refused with nothing changed. -/
theorem announceAndCancelTheTrain : Obligations.AnnounceAndCancelTheTrain := by
  refine ⟨fun body s h => ⟨fun hop => ?_, fun units target hop => ?_⟩, fun body s h => ⟨fun hstate hmap => ?_, fun h1 h2 => ?_⟩⟩
  · exact exec_signalling_refused rfl h (by simp only [ownerOf, ownerAnnounce, hop]) rfl
  · have howner := ownerAnnounce_eq (s := s) hop
    refine ⟨fun hstate => ?_, fun hstate hprofile => ?_, fun hstate hprofile => ?_⟩
    · exact exec_signalling_refused rfl h (by rw [ownerOf, howner, if_pos (by simpa using hstate)]) rfl
    · refine exec_signalling_refused rfl h ?_ rfl
      rw [ownerOf, howner, if_neg (by simp [hstate]), if_pos (by simpa using hprofile)]
    · have hany : ¬ units.any (fun u => (s.profile u.consist).isNone) = true := by
        simpa [Option.isSome_iff_ne_none] using hprofile
      rw [if_neg (by simp [hstate]), if_neg hany] at howner
      obtain ⟨e, he, hexec, honly, hstation, hsupervision⟩ :=
        exec_signalling_train (i := .announce .signalling body) (q := .announce) rfl h howner rfl (State.announce_only units target) (fun _ => rfl)
      rw [he] at hexec
      obtain ⟨htrain, hgap, hrest⟩ := honly.signallingDone hstation hsupervision RequestKind.announce.code .done []
      exact ⟨_, hexec, signallingDone_answered .announce, htrain, hgap.trans s.takeFrame_gap, hrest⟩
  · have howner : ownerOf .cancel body (s.takeFrame .signalling) = .event (s.takeFrame .signalling)
        (fun e => e.returnEmpty .announceCancelled e.s.train.state.code) doneReply := by
      simp [ownerOf, ownerCancel, State.takeFrame_train, hstate]
    have hempty : (s.takeFrame .signalling).train.map = [] := by rw [State.takeFrame_train, hmap]
    obtain ⟨e, he, hexec, honly, hstation, hsupervision⟩ :=
      exec_signalling_train (i := .cancel .signalling body) (q := .cancel) rfl h howner (Ev.returnEmpty_cancel hempty) State.cancelTrain_only (fun _ => rfl)
    rw [he] at hexec
    obtain ⟨htrain, hgap, hrest⟩ := honly.signallingDone hstation hsupervision RequestKind.cancel.code .done []
    exact ⟨_, hexec, signallingDone_answered .cancel, htrain, hgap, hrest⟩
  · refine exec_signalling_refused rfl h ?_ rfl
    simp [ownerOf, ownerCancel, State.takeFrame_train, h1, h2]

end

/-! ### BERTH -/

section

variable {s : State} {body : List Byte}

/-- BERTH of a train that is neither ANNOUNCED nor BERTHED. -/
theorem ownerBerth_sequence {measured : Mm} (h : berthOperand body = some measured) (h1 : s.train.state ≠ .announced)
    (h2 : s.train.state ≠ .berthed) :
    ownerBerth body (s.takeFrame .signalling) = .refuse (s.takeFrame .signalling) .sequence := by
  simp [ownerBerth, h, State.takeFrame_train, h1, h2]

/-- BERTH of a train with a unit that has no profile. -/
theorem ownerBerth_noProfile {measured : Mm} (h : berthOperand body = some measured)
    (hstate : s.train.state = .announced ∨ s.train.state = .berthed) (hplace : s.placeTrain 1 measured s.train.units = none) :
    ownerBerth body (s.takeFrame .signalling) = .refuse (s.takeFrame .signalling) .noProfile := by
  simp [ownerBerth, h, State.takeFrame_train, (TrainOnly.takeFrame s .signalling).placeTrain, hstate, hplace]

/-- An accepted BERTH. -/
theorem ownerBerth_places {measured : Mm} {doorways : List PlacedDoorway} (h : berthOperand body = some measured)
    (hstate : s.train.state = .announced ∨ s.train.state = .berthed)
    (hplace : s.placeTrain 1 measured s.train.units = some doorways) :
    ownerBerth body (s.takeFrame .signalling) = .event (s.takeFrame .signalling)
      (fun e => (e.on (fun t => t.berthAt measured doorways), [])) (fun e => (.done, e.s.berthContent)) := by
  simp [ownerBerth, h, State.takeFrame_train, (TrainOnly.takeFrame s .signalling).placeTrain, hstate, hplace]

theorem State.berthAt_only (measured : Mm) (doorways : List PlacedDoorway) (u : State) :
    TrainOnly u (u.berthAt measured doorways) ∧ (u.berthAt measured doorways).station = u.station
      ∧ (u.berthAt measured doorways).signalling = u.signalling
      ∧ (u.berthAt measured doorways).supervision = u.supervision := ⟨(TrainOnly.setTrain u _).post _ _ _, rfl, rfl, rfl⟩

/-- The train after an accepted BERTH, judged by what stood before the frame was taken. -/
theorem State.berthAt_takeFrame {target : Mm} (measured : Mm) (doorways : List PlacedDoorway) (h : s.train.target = some target) :
    ((s.takeFrame .signalling).berthAt measured doorways).train = { s.train with
      state := .berthed, measured := some measured, stopError := some (measured - target)
      alignment := s.alignmentOf measured (measured - target), checked := !s.placed.isEmpty
      aligned := s.alignedSet doorways } := by
  have htaken := TrainOnly.takeFrame s .signalling
  simp only [State.berthAt, State.post, State.takeFrame_train, htaken.alignmentOf, htaken.placed, htaken.alignedSet, h,
    Option.getD_some]

/-- Without a placed sensor the stop error alone gives the result (spec/02 R40). -/
theorem State.alignmentOf_unplaced (h : s.placed = []) (measured : Mm) (stopError : Int) :
    s.alignmentOf measured stopError = classify s.platform stopError := by simp [State.alignmentOf, h]

/-- Settles O29: the event records the judgement and has no task, and the reply is read from the record. -/
theorem berthJudgesThePosition : Obligations.BerthJudgesThePosition := by
  intro body s measured h hop
  refine ⟨fun h1 h2 => ?_, fun hstate => ⟨fun hplace => ?_, fun doorways target hplace htarget => ?_⟩⟩
  · exact exec_signalling_refused rfl h (ownerBerth_sequence hop h1 h2) rfl
  · exact exec_signalling_refused rfl h (ownerBerth_noProfile hop hstate hplace) rfl
  · have howner := ownerBerth_places hop hstate hplace
    obtain ⟨e, he, hexec, honly, hstation, hsupervision⟩ :=
      exec_signalling_train (i := .berth .signalling body) (q := .berth) rfl h howner rfl (State.berthAt_only measured doorways) (fun _ => rfl)
    obtain ⟨htrain, hgap, hrest⟩ := honly.signallingDone hstation hsupervision RequestKind.berth.code .done e.s.berthContent
    rw [← he] at htrain hgap hrest
    have hberthed := htrain.trans (State.berthAt_takeFrame measured doorways htarget)
    refine ⟨_, hexec, signallingDone_answered .berth, hberthed, fun hplaced => ?_, hgap.trans s.takeFrame_gap, hrest⟩
    rw [hberthed]
    exact State.alignmentOf_unplaced hplaced _ _

end

end Sys2Proof.Machine
end

section
/-! What the tasks that follow a change of phase leave alone: the platform frame, the fire latch, and a train and a gap result
that have returned to EMPTY and NONE. -/

namespace Sys2Proof.Machine

/-! ### The platform frame, the latch, the train and the gap result together -/

/-- The platform frame, the fire latch, the train and the gap result of a state. -/
def State.aside (s : State) : Frame × Option FireSource × Train × GapScan :=
  (s.platformFrame, s.release.latch, s.train, s.gap)

section

variable {s : State} {e : Ev} {b : BayIx}

theorem State.aside_post (k : EventKind) (c : Option BayIx) (v : Nat) : (s.post k c v).aside = s.aside := rfl
theorem State.aside_clearFrame (c : ClearCause) : (s.clearFrame c b).aside = s.aside := rfl

theorem State.makeLogRoom_latch (s : State) : s.makeLogRoom.release.latch = s.release.latch := by
  unfold State.makeLogRoom
  repeat' split
  all_goals rfl

theorem State.openRecord_latch (s : State) (k : ReleaseKind) (c : Option BayIx) (f : Option FireSource) :
    (s.openRecord k c f).release.latch = s.release.latch := by
  unfold State.openRecord
  cases k <;> exact s.makeLogRoom_latch

theorem State.aside_openRecord (k : ReleaseKind) (c : Option BayIx) (f : Option FireSource) :
    (s.openRecord k c f).aside = s.aside := by simp [State.aside, State.openRecord_latch]

theorem State.aside_formPresence (s : State) (b : BayIx) : (s.formPresence b).aside = s.aside := by simp [State.aside]

theorem Ev.aside_onBay (e : Ev) (b : BayIx) (f : Bay → Bay) : (e.onBay b f).s.aside = e.s.aside := rfl

theorem Ev.aside_enter (e : Ev) (b : BayIx) (q : Phase) : (e.enter b q).s.aside = e.s.aside := by simp [State.aside]

theorem Ev.aside_writeFrame (e : Ev) (b : BayIx) (c : FaultCode) (d : Nat) (st : FrameState) (a : FaultAnswer) :
    (e.writeFrame b c d st a).s.aside = e.s.aside := rfl

theorem Ev.aside_retry (e : Ev) (b : BayIx) (c : FaultCode) : (e.retry b c).s.aside = e.s.aside := by
  simp only [Ev.retry]
  rw [Ev.aside_enter]
  rfl

theorem Ev.aside_enterReleased (e : Ev) (b : BayIx) (k : ReleaseKind) : (e.enterReleased b k).s.aside = e.s.aside := by
  have hopened : ((e.enter b .released).on (fun s => s.openRecord k (some b) none)).s.aside = e.s.aside := by
    rw [Ev.on_s, State.aside_openRecord, Ev.aside_enter]
  simp only [Ev.enterReleased]
  split
  · rw [Ev.on_s, State.aside_clearFrame, hopened]
  · exact hopened

end

/-! ### The tasks that follow -/

/-- The tasks that a change of a bay's phase, a bay fault or a platform effect brings about. -/
inductive Task.FollowUp : Task → Prop
  | formGap : FollowUp .formGap
  | presence (b : BayIx) : FollowUp (.presence b)
  | arrive (b : BayIx) : FollowUp (.arrive b)
  | obstruct (atEntry : Bool) (b : BayIx) : FollowUp (.obstruct atEntry b)
  | conflict (b : BayIx) : FollowUp (.conflict b)
  | raise (b : BayIx) (c : FaultCode) (d : Nat) : FollowUp (.raise b c d)
  | raiseAtEntry (b : BayIx) (c : FaultCode) (d : Nat) : FollowUp (.raiseAtEntry b c d)
  | effect (p : PlatformEffect) (c : FaultCode) : FollowUp (.effect p c)
  | closeMember (reported : Bool) (b : BayIx) : FollowUp (.closeMember reported b)
  | haltStop (b : BayIx) : FollowUp (.haltStop b)
  | fireRelease (b : BayIx) : FollowUp (.fireRelease b)

/-- The train has returned to EMPTY, and the gap result to NONE (spec/02 R49). -/
structure State.TrainGone (s : State) : Prop where
  train : s.train = Train.reset
  gap : s.gap = { result := .none, timer := none }

/-- A part of an event leaves the platform frame and the latch alone, and a train that has gone; only tasks that follow a
change of phase come after it. -/
structure Follows (e : Ev) (p : Ev × List Task) : Prop where
  platformFrame : p.1.s.platformFrame = e.s.platformFrame
  latch : p.1.s.release.latch = e.s.release.latch
  gone : e.s.TrainGone → p.1.s.TrainGone
  tasks : ∀ u ∈ p.2, u.FollowUp

section

variable {e : Ev} {b : BayIx} {ts : List Task}

theorem Follows.of_aside {p : Ev × List Task} (h : p.1.s.aside = e.s.aside) (ht : ∀ u ∈ p.2, u.FollowUp) : Follows e p := by
  simp only [State.aside, Prod.mk.injEq] at h
  obtain ⟨hframe, hlatch, htrain, hgap⟩ := h
  exact ⟨hframe, hlatch, fun hgone => ⟨htrain.trans hgone.train, hgap.trans hgone.gap⟩, ht⟩

theorem Follows.done (e : Ev) : Follows e (e, []) := .of_aside rfl nofun

theorem entered_followUp (b : BayIx) : ∀ u ∈ entered b, u.FollowUp := by
  simp only [entered, List.mem_cons, List.not_mem_nil, or_false]
  rintro u (rfl | rfl)
  · exact .formGap
  · exact .arrive b

/-- A bay enters a phase, and what follows the entry comes first. -/
theorem Follows.entered {e' : Ev} (h : e'.s.aside = e.s.aside) : Follows e (e', entered b) := .of_aside h (entered_followUp b)

theorem followUp_singleton {t : Task} (h : t.FollowUp) : ∀ u ∈ [t], u.FollowUp := by
  simpa using h

theorem followUp_cons {t : Task} (h : t.FollowUp) (ht : ∀ u ∈ ts, u.FollowUp) : ∀ u ∈ t :: ts, u.FollowUp := by
  simpa using ⟨h, ht⟩

theorem followUp_map {f : BayIx → Task} (h : ∀ b, (f b).FollowUp) (bs : List BayIx) : ∀ u ∈ bs.map f, u.FollowUp := by
  simpa using fun b _ => h b

theorem Follows.closeClaim (e : Ev) (b : BayIx) : Follows e (e.closeClaim b) := by
  simp only [Ev.closeClaim]
  split
  · refine .entered ?_
    split
    · rw [Ev.aside_enter, Ev.aside_enter, Ev.aside_onBay]
    · rw [Ev.aside_enter, Ev.aside_onBay]
  · exact .done e
  · exact .done e

theorem Follows.closeMember (e : Ev) (reported : Bool) (b : BayIx) : Follows e (e.closeMember reported b) := by
  have hsay (r : Reason) : Follows e (if reported then e.report b r else e, []) := by
    cases reported <;> exact .of_aside rfl nofun
  simp only [Ev.closeMember]
  split
  · exact hsay _
  · split
    · exact hsay _
    · split
      · exact hsay _
      · exact .closeClaim e b

theorem Follows.stopBay (e : Ev) (b : BayIx) : Follows e (e.stopBay b) := by
  unfold Ev.stopBay
  split
  · exact .entered (Ev.aside_enter _ _ _)
  · exact .done e

theorem Follows.obstruct (e : Ev) (atEntry : Bool) (b : BayIx) : Follows e (e.obstruct atEntry b) := by
  simp only [Ev.obstruct]
  split
  · exact .done e
  · split
    · refine .entered ?_
      split
      · rw [Ev.on_s, State.aside_post, Ev.aside_enter, Ev.aside_onBay]
      · rw [Ev.aside_enter, Ev.aside_onBay]
    · refine .of_aside rfl (followUp_singleton ?_)
      split
      · exact .raiseAtEntry _ _ _
      · exact .raise _ _ _

theorem Ev.aside_pauseAtEntry (e : Ev) (b : BayIx) : (e.pauseAtEntry b).s.aside = e.s.aside := by
  simp only [Ev.pauseAtEntry]
  split <;> rfl

theorem Follows.entryChecks (e : Ev) (b : BayIx) : Follows e (e.entryChecks b) := by
  have hpause := e.aside_pauseAtEntry b
  simp only [Ev.entryChecks]
  split
  · exact .entered (Ev.aside_enter _ _ _)
  · repeat' split
    · exact .of_aside hpause (followUp_singleton (.obstruct _ _))
    · exact .of_aside hpause (followUp_singleton (.raiseAtEntry _ _ _))
    · exact .of_aside hpause (followUp_singleton (.raise _ _ _))
    · exact .of_aside hpause nofun

theorem Follows.judgeEntry (e : Ev) (b : BayIx) :
    Follows e (if e.s.sliding b then e.entryChecks b else (e, [])) := by
  split
  · exact .entryChecks e b
  · exact .done e

/-- The part may begin after a change of the event that leaves them alone too. -/
theorem Follows.of_start {e' : Ev} {p : Ev × List Task} (h : e'.s.aside = e.s.aside) (hp : Follows e' p) : Follows e p := by
  simp only [State.aside, Prod.mk.injEq] at h
  obtain ⟨hframe, hlatch, htrain, hgap⟩ := h
  exact ⟨hp.platformFrame.trans hframe, hp.latch.trans hlatch,
    fun hgone => hp.gone ⟨htrain.trans hgone.train, hgap.trans hgone.gap⟩, hp.tasks⟩

theorem Follows.arrive (e : Ev) (b : BayIx) : Follows e (e.arrive b) := by
  have hformed : (if e.starting then e.s else e.s.formPresence b).aside = e.s.aside := by
    split
    · rfl
    · exact State.aside_formPresence _ _
  unfold Ev.arrive
  split
  · exact .of_start hformed (.judgeEntry _ b)
  · exact .done e

theorem Follows.presence (e : Ev) (b : BayIx) : Follows e (e.presence b) := by
  refine .of_aside (State.aside_formPresence _ _) ?_
  simp only [Ev.presence]
  split
  · exact followUp_singleton (.obstruct _ _)
  · exact nofun

theorem Follows.raiseConflict (e : Ev) (b : BayIx) : Follows e (e.raiseConflict b) := by
  simp only [Ev.raiseConflict]
  split
  · exact .of_aside rfl (followUp_singleton (.raise _ _ _))
  · exact .done e

theorem Follows.raiseNested (e : Ev) (b : BayIx) (c : FaultCode) : Follows e (e.raiseNested b c) := by
  simp only [Ev.raiseNested]
  repeat' split
  · exact .of_aside rfl nofun
  · exact .of_aside rfl (followUp_singleton (.effect _ _))
  · exact .of_aside rfl nofun

theorem Follows.raise (e : Ev) (b : BayIx) (c : FaultCode) (d : Nat) : Follows e (e.raise b c d) := by
  simp only [Ev.raise]
  repeat' split
  · exact .raiseNested e b c
  · exact .of_aside (Ev.aside_retry _ _ _) (followUp_cons (.effect _ _) (entered_followUp b))
  · exact .of_aside (by rw [Ev.aside_enter, Ev.aside_writeFrame]) (followUp_cons (.effect _ _) (entered_followUp b))
  · exact .of_aside (Ev.aside_writeFrame _ _ _ _ _ _) (followUp_singleton (.effect _ _))
  · exact .of_aside (by rw [Ev.aside_enter, Ev.aside_writeFrame]) (followUp_cons (.effect _ _) (entered_followUp b))

theorem Follows.raiseAtEntry (e : Ev) (b : BayIx) (c : FaultCode) (d : Nat) : Follows e (e.raiseAtEntry b c d) := by
  have hraise := Follows.raise e b c d
  refine ⟨hraise.platformFrame, hraise.latch, hraise.gone, fun u hu => ?_⟩
  rcases List.mem_append.mp hu with hu | hu
  · exact hraise.tasks u hu
  · split at hu
    · exact followUp_singleton (.conflict b) u hu
    · exact absurd hu List.not_mem_nil

theorem Follows.fireRelease (e : Ev) (b : BayIx) : Follows e (e.fireRelease b) := by
  simp only [Ev.fireRelease]
  split
  · exact .entered (Ev.aside_enterReleased _ _ _)
  · exact .done e

theorem Follows.formGap (e : Ev) : Follows e e.formGap := by
  unfold Ev.formGap
  split
  · exact .done e
  · next hchange =>
    refine ⟨State.setGap_platformFrame _ _, congrArg Release.latch (State.setGap_release _ _), fun hgone => ?_,
      followUp_map .presence _⟩
    have hnone : e.s.gapNow = e.s.gap.result := by simp [State.gapNow, hgone.gap]
    exact absurd (beq_iff_eq.mpr hnone) hchange

theorem Follows.enterHalted (e : Ev) (c : HaltCause) : Follows e (e.enterHalted c) := by
  unfold Ev.enterHalted
  split
  · exact .done e
  · refine .of_aside rfl (fun u hu => ?_)
    rcases List.mem_append.mp hu with hu | hu
    · exact followUp_map .haltStop _ u hu
    · split at hu
      · exact followUp_map .fireRelease _ u hu
      · exact absurd hu List.not_mem_nil

/-- A train that has gone has no dwell, and is not closed again. -/
theorem Follows.closeMapEffect (e : Ev) : Follows e e.closeMapEffect := by
  unfold Ev.closeMapEffect
  split
  · next hdwell =>
    refine ⟨rfl, rfl, fun hgone => ?_, followUp_cons .formGap (followUp_map (.closeMember false) _)⟩
    have hruns : e.s.train.dwellRuns = true := (Bool.and_eq_true_iff.mp hdwell).1
    rw [hgone.train] at hruns
    exact absurd hruns (by decide)
  · exact .done e

theorem Follows.effect (e : Ev) (p : PlatformEffect) (c : FaultCode) : Follows e (e.effect p c) := by
  cases p with
  | none => exact .done e
  | closeMap => exact .closeMapEffect e
  | halt => exact .enterHalted e _

theorem Task.FollowUp.perform {t : Task} (h : t.FollowUp) (e : Ev) : Follows e (t.perform e) := by
  cases h with
  | formGap => exact .formGap e
  | presence b => exact .presence e b
  | arrive b => exact .arrive e b
  | obstruct atEntry b => exact .obstruct e atEntry b
  | conflict b => exact .raiseConflict e b
  | raise b c d => exact .raise e b c d
  | raiseAtEntry b c d => exact .raiseAtEntry e b c d
  | effect p c => exact .effect e p c
  | closeMember reported b => exact .closeMember e reported b
  | haltStop b => exact .stopBay e b
  | fireRelease b => exact .fireRelease e b

/-- Tasks that follow a change of phase, carried out to their end or to the bound. -/
theorem run_follows (n : Nat) (ts : List Task) (e : Ev) (h : ∀ t ∈ ts, t.FollowUp) :
    (run n ts e).s.platformFrame = e.s.platformFrame ∧ (run n ts e).s.release.latch = e.s.release.latch
      ∧ (e.s.TrainGone → (run n ts e).s.TrainGone) := by
  induction n generalizing ts e with
  | zero => cases ts <;> exact ⟨rfl, rfl, fun hgone => ⟨hgone.train, hgone.gap⟩⟩
  | succ n ih =>
    cases ts with
    | nil => exact ⟨rfl, rfl, id⟩
    | cons t ts =>
      have hfirst := (h t List.mem_cons_self).perform e
      obtain ⟨hframe, hlatch, hgone⟩ := ih ((t.perform e).2 ++ ts) (t.perform e).1 (fun u hu =>
        (List.mem_append.mp hu).elim (hfirst.tasks u) (fun hu => h u (List.mem_cons_of_mem t hu)))
      exact ⟨hframe.trans hfirst.platformFrame, hlatch.trans hfirst.latch, fun h => hgone (hfirst.gone h)⟩

theorem State.settle_latch (s : State) : s.settle.release.latch = s.release.latch := by
  have hrelease := congrArg Release.latch (s.settle_release false)
  dsimp only at hrelease
  exact hrelease

theorem State.TrainGone.settle {s : State} (h : s.TrainGone) : s.settle.TrainGone :=
  ⟨s.settle_train.trans h.train, s.settle_gap.trans h.gap⟩

/-- The same at the end of the event. -/
theorem Ev.finish_follows (e : Ev) (h : ∀ t ∈ ts, t.FollowUp) :
    (e.finish ts).s.platformFrame = e.s.platformFrame ∧ (e.finish ts).s.release.latch = e.s.release.latch
      ∧ (e.s.TrainGone → (e.finish ts).s.TrainGone) := by
  have hrun := run_follows Config.eventBound ts e h
  rw [Ev.finish, Ev.on_s]
  generalize run Config.eventBound ts e = r at hrun ⊢
  obtain ⟨hframe, hlatch, hgone⟩ := hrun
  exact ⟨(State.settle_platformFrame _).trans hframe, (State.settle_latch _).trans hlatch, fun h => (hgone h).settle⟩

end

end Sys2Proof.Machine
end

section
/-! DEPART and the departure watch (spec/02 R48, R49), and the placed berthing sensors (spec/02 R38, R41, R50). -/

namespace Sys2Proof.Machine

/-! ### DEPART -/

section

variable {s t u : State} {body : List Byte}

theorem TrainOnly.fire (h : TrainOnly s t) : t.fire = s.fire := h.read State.fire rfl
theorem TrainOnly.proofValue (h : TrainOnly s t) : t.proof.value = s.proof.value := h.read (fun u => u.proof.value) rfl
theorem TrainOnly.sensorsClear (h : TrainOnly s t) : t.sensorsClear = s.sensorsClear := h.read State.sensorsClear rfl
theorem TrainOnly.latch (h : TrainOnly s t) : t.release.latch = s.release.latch := h.read (fun u => u.release.latch) rfl

/-- What DEPART answers, read from the state before the frame was taken. -/
theorem ownerDepart_eq (body : List Byte) (s : State) :
    ownerDepart body (s.takeFrame .signalling) =
      if s.train.state == .berthed || s.train.state == .closing then
        if s.fire then .refuse (s.takeFrame .signalling) .emergency
        else if s.proof.value == .notSecure then .refuse (s.takeFrame .signalling) .notSecure
        else .event (s.takeFrame .signalling) (fun e => e.depart) doneReply
      else .refuse (s.takeFrame .signalling) .sequence := by
  have htaken := TrainOnly.takeFrame s .signalling
  simp only [ownerDepart, State.takeFrame_train, htaken.fire, htaken.proofValue]

/-- The train is DEPARTING (spec/02 R48). -/
def State.beginDeparture (s : State) : State :=
  ({ s with train := { s.train with state := .departing } }).post .departed none s.proof.value.code

/-- The record is EMPTY again once the sensors are clear (spec/02 R49). -/
def State.endDeparture (s : State) : State := (({ s with train := .reset }).post .trainCleared none 0).setGap .none

theorem State.beginDeparture_only (s : State) : TrainOnly s s.beginDeparture := (TrainOnly.setTrain s _).post _ _ _
theorem State.endDeparture_only (s : State) : TrainOnly s s.endDeparture := ((TrainOnly.setTrain s _).post _ _ _).clearGap
theorem State.endDeparture_gone (s : State) : s.endDeparture.TrainGone := ⟨rfl, rfl⟩

/-- The departure watch of a DEPARTING train (spec/02 R49). -/
theorem Ev.departWatch_departing {e : Ev} (h : e.s.train.state = .departing) :
    e.departWatch = if e.s.sensorsClear then (e.on State.endDeparture, e.s.train.map.map .presence) else (e, []) := by
  unfold Ev.departWatch
  rw [h]
  rfl

theorem Ev.depart_eq (e : Ev) :
    e.depart = if e.s.sensorsClear then
        ((e.on State.beginDeparture).on State.endDeparture, e.s.train.map.map .presence)
      else (e.on State.beginDeparture, []) := by
  have hsensors : e.s.beginDeparture.sensorsClear = e.s.sensorsClear := e.s.beginDeparture_only.sensorsClear
  rw [← hsensors]
  exact Ev.departWatch_departing (e := e.on State.beginDeparture) rfl

theorem StoreStands.trans (h : StoreStands s t) (hu : StoreStands t u) : StoreStands s u := by
  have hstate := congrArg (fun x : Store => { x with state := s.store.state }) hu
  exact hstate.trans h

theorem LinesStand.trans (h : LinesStand s t) (hu : LinesStand t u) : LinesStand s u :=
  ⟨hu.1.trans h.1, fun b => (hu.2 b).trans (h.2 b)⟩

theorem ReleaseStands.latch (h : ReleaseStands s t) : t.release.latch = s.release.latch := by
  have hlatch := congrArg Release.latch h
  exact hlatch

/-- DEPART with every placed sensor clear: the record is EMPTY at once, whatever the members' presence brings about. -/
theorem exec_depart_clear (h : Admits .signalling .depart body s)
    (howner : ownerOf .depart body (s.takeFrame .signalling)
      = .event (s.takeFrame .signalling) (fun e => e.depart) doneReply)
    (hclear : s.sensorsClear = true) :
    ∃ t, exec (.depart .signalling body) s = .next t ∧ SignallingAnswered s t .depart .done []
      ∧ t.supervision = s.countFrame.supervision ∧ SignallingEvent s t ∧ t.release.latch = s.release.latch
      ∧ t.TrainGone := by
  have htaken := TrainOnly.takeFrame s .signalling
  have hdepart := Ev.depart_eq (Ev.start (s.takeFrame .signalling))
  rw [Ev.start_s, htaken.sensorsClear, hclear, if_pos rfl] at hdepart
  generalize hw : ((Ev.start (s.takeFrame .signalling)).on State.beginDeparture).on State.endDeparture = w at hdepart
  have hws : w.s = (s.takeFrame .signalling).beginDeparture.endDeparture := by rw [← hw]; rfl
  have honly : TrainOnly s w.s := by
    rw [hws]
    exact (htaken.trans (State.beginDeparture_only _)).trans (State.endDeparture_only _)
  have hstation : w.s.station = s.station := by rw [hws]; exact s.takeFrame_stationPort
  have hsupervision : w.s.supervision = s.countFrame.supervision := by rw [hws]; exact s.takeFrame_supervision
  have hsignalling : w.s.signalling = (s.takeFrame .signalling).signalling := by rw [hws]; rfl
  obtain ⟨hstands, hstore, ⟨hlinkStation, hlinkSignalling, hpreparation⟩, hlines, hsupervised⟩ :=
    w.finish_stands ((s.takeFrame .signalling).train.map.map .presence)
  obtain ⟨-, hlatch, hgone⟩ := w.finish_follows (followUp_map .presence (s.takeFrame .signalling).train.map)
  have hexec := exec_signalling_event (i := .depart .signalling body) rfl h howner
    (congrArg (fun p : Ev × List Task => p.1.finish p.2) hdepart) (hlinkSignalling.trans hsignalling) rfl
  dsimp only at hexec
  generalize w.finish ((s.takeFrame .signalling).train.map.map .presence) = r at *
  have htrain := hgone (by rw [hws]; exact State.endDeparture_gone _)
  exact ⟨_, hexec, signallingDone_answered .depart, hsupervised.trans hsupervision,
    signallingDone_event (honly.stands.trans hstands) (honly.storeStands.trans hstore) (honly.linesStand.trans hlines)
      (hlinkStation.trans hstation) (hpreparation.trans (honly.read (fun u => u.mode.preparation) rfl)),
    hlatch.trans honly.latch, ⟨htrain.train, htrain.gap⟩⟩

/-- DEPART with a placed sensor occupied: the train is DEPARTING, and no task follows. -/
theorem exec_depart_occupied (h : Admits .signalling .depart body s)
    (howner : ownerOf .depart body (s.takeFrame .signalling)
      = .event (s.takeFrame .signalling) (fun e => e.depart) doneReply)
    (hoccupied : s.sensorsClear = false) :
    ∃ t, exec (.depart .signalling body) s = .next t ∧ SignallingAnswered s t .depart .done []
      ∧ t.supervision = s.countFrame.supervision ∧ SignallingEvent s t ∧ t.release.latch = s.release.latch
      ∧ t.train = { s.train with state := .departing } ∧ t.gap = s.gap ∧ BaysStand s t ∧ ReleaseStands s t
      ∧ FaceStands s t := by
  have hdepart := Ev.depart_eq (Ev.start (s.takeFrame .signalling))
  rw [Ev.start_s, (TrainOnly.takeFrame s .signalling).sensorsClear, hoccupied, if_neg Bool.false_ne_true] at hdepart
  obtain ⟨e, he, hexec, honly, hstation, hsupervision⟩ := exec_signalling_train (i := .depart .signalling body) rfl h howner
    hdepart (fun u => ⟨u.beginDeparture_only, rfl, rfl, rfl⟩) (fun _ => rfl)
  rw [he] at hexec
  obtain ⟨htrain, hgap, hcounted, hbays, hrelease, hface, hevent⟩ :=
    honly.signallingDone hstation hsupervision RequestKind.depart.code .done []
  have hdeparting : (s.takeFrame .signalling).beginDeparture.train = { s.train with state := .departing } := by
    rw [← s.takeFrame_train]
    rfl
  exact ⟨_, hexec, signallingDone_answered .depart, hcounted, hevent, hrelease.latch,
    htrain.trans hdeparting, hgap.trans s.takeFrame_gap, hbays, hrelease, hface⟩

/-- Settles O35: refused in order, and otherwise the departure watch decides. -/
theorem departEndsTheTrain : Obligations.DepartEndsTheTrain := by
  intro body s h
  have howner := ownerDepart_eq body s
  refine ⟨fun h1 h2 => ?_, fun hstate => ?_⟩
  · exact exec_signalling_refused rfl h (by rw [ownerOf, howner, if_neg (by simp [h1, h2])]) rfl
  rw [if_pos (by simpa using hstate)] at howner
  refine ⟨fun hfire => ?_, fun hfire hproof => ?_, fun hfire hproof => ?_⟩
  · exact exec_signalling_refused rfl h (by rw [ownerOf, howner, if_pos hfire]) rfl
  · refine exec_signalling_refused rfl h ?_ rfl
    rw [ownerOf, howner, if_neg (by simp [hfire]), if_pos (by simp [hproof])]
  · rw [if_neg (by simp [hfire]), if_neg (by simpa using hproof)] at howner
    rcases hsensors : s.sensorsClear
    · obtain ⟨t, hexec, hanswered, hcounted, hevent, hlatch, hrest⟩ := exec_depart_occupied h howner hsensors
      exact ⟨t, hexec, hanswered, hcounted, hevent, hlatch, nofun, fun _ => hrest⟩
    · obtain ⟨t, hexec, hanswered, hcounted, hevent, hlatch, hgone⟩ := exec_depart_clear h howner hsensors
      exact ⟨t, hexec, hanswered, hcounted, hevent, hlatch, fun _ => ⟨hgone.train, hgone.gap⟩, nofun⟩

end

end Sys2Proof.Machine
end

section
/-! The placed berthing sensors watch the train (spec/02 R38, R41, R49, R50). -/

namespace Sys2Proof.Machine

section

variable {s : State} {n : LineIx} {p : Mm}

/-- A filtered change of a general line changes that line's filter alone. -/
theorem State.changeLevel_general (s : State) (n : LineIx) :
    s.changeLevel (.general n) = s.setLine n { s.line n with line :=
      { (s.line n).line with level := !(s.line n).line.level, candidate := none } } := rfl

theorem State.changeLevel_line_self (s : State) (n : LineIx) :
    ((s.changeLevel (.general n)).line n).line.level = !(s.line n).line.level := by
  rw [State.changeLevel_general, State.line_setLine_self]

theorem State.changeLevel_line_ne (s : State) {n m : LineIx} (h : m ≠ n) :
    (s.changeLevel (.general n)).line m = s.line m := by
  rw [State.changeLevel_general, State.line_setLine_ne _ _ _ _ h]

/-- Which lines are placed sensors does not turn on their levels. -/
theorem State.changeLevel_placed (s : State) (n : LineIx) : (s.changeLevel (.general n)).placed = s.placed := rfl

/-- A line is a placed sensor (spec/02 R38). -/
theorem State.placedOn_eq (hfunction : (s.lineRecord n).function = .berthSensor)
    (hposition : s.platform.position (s.lineRecord n).index = some p) :
    s.placedOn n = some { position := p, index := (s.lineRecord n).index, line := n } := by
  simp [State.placedOn, hfunction, hposition]

/-- A filtered change of a placed sensor begins with the sensor watch. -/
theorem Ev.filteredChange_sensor (hfunction : (s.lineRecord n).function = .berthSensor) :
    (Ev.start s).filteredChange (.general n) = ((Ev.start s).on (fun u => u.changeLevel (.general n))).berthSensor n := by
  have hrecord : ((s.changeLevel (.general n)).lineRecord n).function = .berthSensor := hfunction
  simp only [Ev.filteredChange, Ev.generalChange, Ev.on_s, Ev.start_s, hrecord]

/-- The event of a placed sensor, by the train's state. -/
theorem State.event_sensor (hfunction : (s.lineRecord n).function = .berthSensor)
    {f : Ev × List Task} (hf : ((Ev.start s).on (fun u => u.changeLevel (.general n))).berthSensor n = f) :
    s.event (fun e => e.filteredChange (.general n)) = (f.1.finish f.2).s := by
  rw [State.event, Ev.filteredChange_sensor hfunction, hf]

/-- Once the last occupied sensor clears, every placed sensor is clear (spec/02 R49). -/
theorem State.sensorsClear_changeLevel (hlevel : (s.line n).line.level = true)
    (hothers : ∀ q ∈ s.placed, q.line ≠ n → (s.line q.line).line.level = false) :
    (s.changeLevel (.general n)).sensorsClear = true := by
  rw [State.sensorsClear, State.changeLevel_placed, List.all_eq_true]
  intro q hq
  rw [State.sensorOccupied]
  by_cases hn : q.line = n
  · rw [hn, State.changeLevel_line_self, hlevel]
    rfl
  · rw [State.changeLevel_line_ne s hn, hothers q hq hn]
    rfl

/-- An ALIGNMENT of a BERTHED train is STALE after the sensor watch (spec/02 R41). -/
theorem Ev.berthSensor_berthed {e : Ev} {q : Placed} (hplaced : e.s.placedOn n = some q) (hstate : e.s.train.state = .berthed) :
    (e.berthSensor n).2 = [] ∧ TrainOnly e.s (e.berthSensor n).1.s
      ∧ (e.berthSensor n).1.s.train = { e.s.train with alignment := .stale } ∧ (e.berthSensor n).1.s.gap = e.s.gap := by
  have hwatch : e.berthSensor n = if e.s.train.alignment == .stale then (e, [])
      else (e.on (fun s => ({ s with train := { s.train with alignment := .stale } }).post .alignmentStale none q.index), []) := by
    simp [Ev.berthSensor, hplaced, hstate]
  rw [hwatch]
  split
  · next hstale =>
    have hsame : e.s.train.alignment = .stale := beq_iff_eq.mp hstale
    exact ⟨rfl, .refl _, by rw [← hsame], rfl⟩
  · exact ⟨rfl, (TrainOnly.setTrain e.s _).post _ _ _, rfl, rfl⟩

theorem Ev.berthSensor_moved {e : Ev} {q : Placed} (hplaced : e.s.placedOn n = some q)
    (hstate : e.s.train.state = .enabled ∨ e.s.train.state = .closing) :
    e.berthSensor n = (e, [.raiseFace .trainMoved q.index]) := by
  rcases hstate with hstate | hstate <;> simp [Ev.berthSensor, hplaced, hstate]

theorem Ev.berthSensor_departing {e : Ev} {q : Placed} (hplaced : e.s.placedOn n = some q)
    (hstate : e.s.train.state = .departing) : e.berthSensor n = e.departWatch := by
  simp [Ev.berthSensor, hplaced, hstate]

theorem State.recordPlatform_inactive (h : s.platformFrame.state ≠ .active) (c : FaultCode) (d : Nat) :
    (s.recordPlatform c d).platformFrame = s.newPlatformFrame c d := by
  simp only [State.recordPlatform]
  split
  · next hactive _ => exact absurd hactive h
  · rfl

/-- A platform fault writes the platform frame, and nothing that follows it writes it again (spec/07 R138). -/
theorem Ev.finish_raiseFace (e : Ev) (c : FaultCode) (d : Nat) :
    (e.finish [.raiseFace c d]).s.platformFrame = (e.s.recordPlatform c d).platformFrame := by
  obtain ⟨k, hk⟩ := Nat.exists_eq_succ_of_ne_zero (n := Config.eventBound) (by decide)
  have hfollows := run_follows k _ (e.raiseFace c d).1 (followUp_singleton (.effect (e.s.response c).platformEffect c))
  rw [Ev.finish, Ev.on_s, hk, Nat.succ_eq_add_one, run_cons]
  exact (State.settle_platformFrame _).trans hfollows.1

/-- Settles O13: the sensor watch by the train's state. -/
theorem berthSensorsWatchTheTrain : Obligations.BerthSensorsWatchTheTrain := by
  intro s n p hruns hfunction hposition
  have hplaced : (s.changeLevel (.general n)).placedOn n = _ := State.placedOn_eq (s := s) hfunction hposition
  have hexec := exec_filterHoldExpires hruns
  refine ⟨fun hstate => ?_, fun hstate hinactive => ?_, fun hstate hlevel hothers => ?_⟩
  · obtain ⟨htasks, honly, htrain, hgap⟩ :=
      Ev.berthSensor_berthed (e := (Ev.start s).on (fun u => u.changeLevel (.general n))) hplaced hstate
    have hevent := State.event_sensor (s := s) (n := n) hfunction rfl
    rw [htasks, Ev.finish, run_nil, Ev.on_s] at hevent
    rw [hevent] at hexec
    exact ⟨_, hexec, (State.settle_train _).trans htrain, (State.settle_gap _).trans hgap, honly.settle_baysStand,
      ReleaseStands.settle honly.releaseStands, FaceStands.settle honly.faceStands⟩
  · have hevent := State.event_sensor hfunction
      (Ev.berthSensor_moved (e := (Ev.start s).on (fun u => u.changeLevel (.general n))) hplaced hstate)
    rw [hevent] at hexec
    exact ⟨_, hexec, (Ev.finish_raiseFace _ _ _).trans (State.recordPlatform_inactive (s := s.changeLevel (.general n)) hinactive _ _)⟩
  · have hwatch := (Ev.berthSensor_departing (e := (Ev.start s).on (fun u => u.changeLevel (.general n))) hplaced hstate).trans
      (Ev.departWatch_departing hstate)
    rw [Ev.on_s, Ev.start_s, State.sensorsClear_changeLevel hlevel hothers, if_pos rfl] at hwatch
    have hevent := State.event_sensor hfunction hwatch
    rw [hevent] at hexec
    obtain ⟨-, -, hgone⟩ := Ev.finish_follows
      (((Ev.start s).on (fun u => u.changeLevel (.general n))).on State.endDeparture)
      (followUp_map .presence (s.changeLevel (.general n)).train.map)
    obtain ⟨htrain, hgap⟩ := hgone (State.endDeparture_gone _)
    exact ⟨_, hexec, htrain, hgap⟩

end

end Sys2Proof.Machine
end

section
/-! The latches of the general outputs (spec/03 R68). -/

namespace Sys2Proof.Machine

theorem State.line_setOutputs (s : State) (lines levels : Nat) (n : LineIx) :
    (s.setOutputs lines levels).line n =
      if inSet lines n then { s.line n with outputLatch := inSet levels n } else s.line n := by
  simp [State.setOutputs, State.line, tableOf]

/-- A general output follows its latch while supervision is not EXPIRED (spec/03 R67). -/
theorem State.drivenLevel_generalOutput {s : State} {n : LineIx} (hfunction : (s.lineRecord n).function = .generalOutput)
    (hexpired : s.supervision.state ≠ .expired) : s.drivenLevel n = some (s.line n).outputLatch := by
  simp [State.drivenLevel, hfunction, hexpired]

/-- Every line of a set is a GENERAL_OUTPUT, or one of them is not: the check of SET_OUTPUT. -/
theorem State.outputsOnly_iff (s : State) (lines : Nat) :
    (membersOf lines).any (fun n => (s.lineRecord n).function != .generalOutput) = true
      ↔ ∃ n, inSet lines n = true ∧ (s.lineRecord n).function ≠ .generalOutput := by
  simp only [List.any_eq_true, mem_membersOf, bne_iff_ne]

/-- Settles O46. -/
theorem setOutputWritesTheLatches : Obligations.SetOutputWritesTheLatches := by
  intro body s lines levels hadmits hoperand
  have htaken : ∀ n, (s.takeFrame .station).lineRecord n = s.lineRecord n := fun _ => rfl
  refine ⟨fun hother => ?_, fun houtputs => ⟨s.setOutputs lines levels, rfl, ?_, fun n hn hexpired => ?_⟩⟩
  · refine exec_station_refused (q := .setOutput) rfl hadmits ?_ rfl
    simp only [ownerOf, ownerSetOutput, hoperand, htaken]
    exact if_pos ((s.outputsOnly_iff lines).mpr hother)
  · refine exec_station_settled (q := .setOutput) (v := s.setOutputs lines levels) rfl hadmits rfl ?_
    simp only [ownerOf, ownerSetOutput, hoperand, htaken]
    refine (if_neg fun hany => ?_).trans rfl
    obtain ⟨n, hn, hfunction⟩ := (s.outputsOnly_iff lines).mp hany
    exact hfunction (houtputs n hn)
  · have hfunction : ((s.setOutputs lines levels).lineRecord n).function = .generalOutput := houtputs n hn
    rw [State.drivenLevel_generalOutput hfunction hexpired, s.line_setOutputs, if_pos hn]

end Sys2Proof.Machine
end

section
/-! A map with no bound: the gap scan that ends. -/

namespace Sys2Proof.Machine

/-- A map longer than the bound, CLOSED_LOCKED and being scanned. -/
def longScan : State :=
  { crowded overlong .sliding { Bay.reset with phase := .closedLocked } .scanning with
    gap := { result := .scanning, timer := some (.start 0) } }

theorem longScan_gapFresh : GapFresh longScan :=
  (State.gapNow_congr (s := crowded overlong .sliding { Bay.reset with phase := .closedLocked } .scanning) (t := longScan)
    rfl rfl (fun _ => rfl) (fun _ => rfl)).trans (crowded_gapFresh_scanning overlong_ne_zero rfl rfl)

theorem longScan_map_length : longScan.train.map.length = overlong :=
  crowded_map_length (k := .sliding) (x := { Bay.reset with phase := .closedLocked }) (g := .scanning)

/-- The result CLEAR has one presence task for each entry of the map (spec/03 R70). -/
theorem longScan_endless : Endless ((Ev.start longScan).setGap .clear).2 ((Ev.start longScan).setGap .clear).1 :=
  .of_length (by rw [Ev.setGap, List.length_map, Ev.start_s, longScan_map_length]; exact eventBound_lt_overlong) _

/-- Refutes O18: the scan of a map longer than the bound ends, and its event stalls. -/
theorem not_stuckAndScanTimersExpire : ¬Obligations.StuckAndScanTimersExpire := by
  rintro ⟨-, hscan⟩
  obtain ⟨t, hexec, -, -, -, -, -, -, -, -, hface, -⟩ := hscan longScan rfl rfl rfl longScan_gapFresh
  have hevent : exec .gapScanTimerExpires longScan = .next (longScan.event (fun e => e.setGap .clear)) := rfl
  rw [hevent, Host.Outcome.next.injEq] at hexec
  obtain ⟨_, _, _, hstalled⟩ := hface
  rw [← hexec, State.event_stalled longScan_endless] at hstalled
  exact absurd hstalled (by decide)

end Sys2Proof.Machine
end

section
/-! The parts of an event that act on one bay: what the gap scan, the fire latch and the mode see of them is the phase of that
bay alone, and an entry to a phase has the gap result examined after it. -/

namespace Sys2Proof.Machine

/-! ### The outlook of a state -/

/-- The phases in which a bay closes, or is about to (spec/05 R107). -/
def Phase.shuts : Phase → Bool
  | .warning | .closing | .reopening => true
  | .closedLocked | .unlocking | .opening | .opened | .closedUnlocked | .stopped | .released | .isolated | .faulted
  | .notFitted => false

/-- What stands aside from the bays, the mode, and the phases. -/
structure Outlook where
  aside : Frame × Option FireSource × Train × GapScan
  mode : ModeControl
  phase : BayIx → Phase

def State.outlook (s : State) : Outlook := { aside := s.aside, mode := s.mode, phase := fun b => (s.bay b).phase }

/-- One bay has passed to a phase. -/
def Outlook.move (o : Outlook) (b : BayIx) (q : Phase) : Outlook := { o with phase := Function.update o.phase b q }

theorem Outlook.move_move (o : Outlook) (b : BayIx) (p q : Phase) : (o.move b p).move b q = o.move b q := by
  simp [Outlook.move]

section

variable {s : State} {e : Ev} {b : BayIx}

theorem State.outlook_of_bays {t : State} (haside : t.aside = s.aside) (hmode : t.mode = s.mode) (hbays : t.bays = s.bays) :
    t.outlook = s.outlook := by simp only [State.outlook, State.bay, haside, hmode, hbays]

@[simp] theorem State.outlook_post (s : State) (k : EventKind) (c : Option BayIx) (v : Nat) :
    (s.post k c v).outlook = s.outlook := rfl

@[simp] theorem State.outlook_postTaken (s : State) (c : Option BayIx) (f : FaultCode) (a : FaultAnswer) :
    (s.postTaken c f a).outlook = s.outlook := rfl

theorem State.phase_setBay (s : State) (b : BayIx) (x : Bay) :
    (fun c => ((s.setBay b x).bay c).phase) = Function.update (fun c => (s.bay c).phase) b x.phase := by
  funext c
  by_cases hc : c = b
  · subst hc; simp
  · simp [hc, State.bay_setBay_ne _ _ _ _ hc]

theorem State.outlook_setBay (s : State) (b : BayIx) (x : Bay) : (s.setBay b x).outlook = s.outlook.move b x.phase := by
  simp only [State.outlook, State.phase_setBay]
  rfl

theorem State.outlook_move_self (s : State) (b : BayIx) : s.outlook.move b (s.bay b).phase = s.outlook := by
  simp only [Outlook.move, State.outlook, Function.update_eq_self]

/-- A bay is changed in something other than its phase. -/
theorem State.outlook_setBay_same (s : State) (b : BayIx) (x : Bay) (h : x.phase = (s.bay b).phase) :
    (s.setBay b x).outlook = s.outlook := by rw [State.outlook_setBay, h, State.outlook_move_self]

@[simp] theorem Ev.outlook_onBay (e : Ev) (b : BayIx) (f : Bay → Bay) (h : ∀ x, (f x).phase = x.phase) :
    (e.onBay b f).s.outlook = e.s.outlook := State.outlook_setBay_same _ _ _ (h _)

@[simp] theorem Ev.outlook_enter (e : Ev) (b : BayIx) (q : Phase) : (e.enter b q).s.outlook = e.s.outlook.move b q := by
  simp only [Ev.enter]
  split
  · rw [State.outlook_post, State.outlook_setBay]; rfl
  · rw [State.outlook_setBay]; rfl

@[simp] theorem State.outlook_setFrame (s : State) (b : BayIx) (f : Frame) : (s.setFrame b f).outlook = s.outlook :=
  State.outlook_setBay_same _ _ _ rfl

@[simp] theorem State.outlook_clearFrame (s : State) (c : ClearCause) (b : BayIx) : (s.clearFrame c b).outlook = s.outlook := by
  simp [State.clearFrame]

@[simp] theorem State.outlook_formPresence (s : State) (b : BayIx) : (s.formPresence b).outlook = s.outlook := by
  simp only [State.formPresence]
  split
  · rfl
  · exact State.outlook_setBay_same s b _ rfl

@[simp] theorem State.outlook_openRecord (s : State) (k : ReleaseKind) (c : Option BayIx) (f : Option FireSource) :
    (s.openRecord k c f).outlook = s.outlook := State.outlook_of_bays (State.aside_openRecord _ _ _) (by simp) (by simp)

theorem State.restoreRecord_latch (s : State) (p : ReleaseRecord → Bool) :
    (s.restoreRecord p).release.latch = s.release.latch := by
  unfold State.restoreRecord
  rcases restoreIn s.uptime p s.release.log with ⟨log, found⟩
  cases found with
  | none => rfl
  | some r => rcases h : r.kind <;> simp [h]

@[simp] theorem State.outlook_restoreRecord (s : State) (p : ReleaseRecord → Bool) : (s.restoreRecord p).outlook = s.outlook :=
  State.outlook_of_bays (by simp [State.aside, State.restoreRecord_latch]) (by simp) (by simp)

@[simp] theorem State.outlook_restoreBay (s : State) (b : BayIx) : (s.restoreBay b).outlook = s.outlook :=
  State.outlook_restoreRecord _ _

@[simp] theorem Ev.outlook_writeFrame (e : Ev) (b : BayIx) (c : FaultCode) (d : Nat) (st : FrameState) (a : FaultAnswer) :
    (e.writeFrame b c d st a).s.outlook = e.s.outlook := by simp [Ev.writeFrame]

@[simp] theorem Ev.outlook_takeDerivedConflict (e : Ev) (b : BayIx) : (e.takeDerivedConflict b).s.outlook = e.s.outlook := by
  simp [Ev.takeDerivedConflict]

@[simp] theorem Ev.outlook_enterReleased (e : Ev) (b : BayIx) (k : ReleaseKind) :
    (e.enterReleased b k).s.outlook = e.s.outlook.move b .released := by
  simp only [Ev.enterReleased]
  split <;> simp

@[simp] theorem Ev.outlook_retry (e : Ev) (b : BayIx) (c : FaultCode) :
    (e.retry b c).s.outlook = e.s.outlook.move b (e.s.bay b).restartPhase := by
  simp [Ev.retry, -Ev.onBay_s]

@[simp] theorem Ev.outlook_pauseAtEntry (e : Ev) (b : BayIx) : (e.pauseAtEntry b).s.outlook = e.s.outlook := by
  simp only [Ev.pauseAtEntry]
  split
  · exact Ev.outlook_onBay _ _ _ (fun _ => rfl)
  · rfl

end

/-! ### Parts of an event -/

/-- A part of an event that changes at most the phase of one bay, and has the gap result examined where it does. With the fire
latch set no bay begins to close by it (spec/05 R107). -/
inductive BayPart (e : Ev) (p : Ev × List Task) : Prop
  | still (h : p.1.s.outlook = e.s.outlook)
  | moves (b : BayIx) (q : Phase) (h : p.1.s.outlook = e.s.outlook.move b q) (hgap : .formGap ∈ p.2)
      (hfire : e.s.fire = true → q.shuts = true → (e.s.bay b).phase.shuts = true)

section

variable {e : Ev} {b : BayIx} {ts : List Task} {p : Ev × List Task}

theorem formGap_mem_entered (b : BayIx) : Task.formGap ∈ entered b := List.mem_cons_self

theorem BayPart.done (e : Ev) : BayPart e (e, ts) := .still rfl

/-- A bay enters a phase in which it does not close. -/
theorem BayPart.opens {e' : Ev} (b : BayIx) (q : Phase) (h : e'.s.outlook = e.s.outlook.move b q) (hgap : .formGap ∈ ts)
    (hq : q.shuts = false) : BayPart e (e', ts) :=
  .moves b q h hgap (fun _ hs => by rw [hq] at hs; exact absurd hs nofun)

/-- The part may begin after a change of the event that the outlook does not show. -/
theorem BayPart.of_start {e' : Ev} (h : e'.s.outlook = e.s.outlook) (hp : BayPart e' p) : BayPart e p := by
  have hfire : e'.s.fire = e.s.fire := by
    have haside := congrArg Outlook.aside h
    simp only [State.outlook, State.aside, Prod.mk.injEq] at haside
    simp only [State.fire, haside.2.1]
  cases hp with
  | still hp => exact .still (hp.trans h)
  | moves b q hp hgap hshuts =>
    rw [h] at hp
    have hphase := congrFun (congrArg Outlook.phase h) b
    simp only [State.outlook] at hphase
    rw [hfire, hphase] at hshuts
    exact .moves b q hp hgap hshuts

/-- More tasks may follow it. -/
theorem BayPart.followed (hp : BayPart e p) (us : List Task) : BayPart e (p.1, p.2 ++ us) := by
  cases hp with
  | still h => exact .still h
  | moves b q h hgap hfire => exact .moves b q h (List.mem_append_left us hgap) hfire

/-! ### What such a part leaves alone -/

theorem BayPart.aside (h : BayPart e p) : p.1.s.aside = e.s.aside := by
  cases h with
  | still h => exact congrArg Outlook.aside h
  | moves b q h _ _ => exact congrArg Outlook.aside h

theorem BayPart.train (h : BayPart e p) : p.1.s.train = e.s.train := congrArg (·.2.2.1) h.aside

theorem BayPart.gap (h : BayPart e p) : p.1.s.gap = e.s.gap := congrArg (·.2.2.2) h.aside

theorem BayPart.latch (h : BayPart e p) : p.1.s.release.latch = e.s.release.latch := congrArg (·.2.1) h.aside

theorem BayPart.mode (h : BayPart e p) : p.1.s.mode = e.s.mode := by
  cases h with
  | still h => exact congrArg Outlook.mode h
  | moves b q h _ _ => exact congrArg Outlook.mode h

/-- The phases stand, or the gap result is examined. -/
theorem BayPart.phases (h : BayPart e p) : (∀ c, (p.1.s.bay c).phase = (e.s.bay c).phase) ∨ .formGap ∈ p.2 := by
  cases h with
  | still h => exact .inl fun c => congrFun (congrArg Outlook.phase h) c
  | moves b q _ hgap _ => exact .inr hgap

/-- With the latch set no bay begins to close. -/
theorem BayPart.shuts (h : BayPart e p) (hfire : e.s.fire = true) {c : BayIx} (hc : (p.1.s.bay c).phase.shuts = true) :
    (e.s.bay c).phase.shuts = true := by
  cases h with
  | still h =>
    have hphase := congrFun (congrArg Outlook.phase h) c
    simp only [State.outlook] at hphase
    rwa [hphase] at hc
  | moves b q h _ hshuts =>
    have hphase : (p.1.s.bay c).phase = Function.update (fun c => (e.s.bay c).phase) b q c :=
      congrFun (congrArg Outlook.phase h) c
    rw [hphase] at hc
    by_cases hcb : c = b
    · subst hcb
      rw [Function.update_self] at hc
      exact hshuts hfire hc
    · rwa [Function.update_of_ne hcb] at hc

/-! ### Claims and stops -/

theorem BayPart.stopBay (e : Ev) (b : BayIx) : BayPart e (e.stopBay b) := by
  unfold Ev.stopBay
  split
  · exact .opens b _ (Ev.outlook_enter _ _ _) (formGap_mem_entered b) rfl
  · exact .done e

theorem Ev.outlook_onBay_move (e : Ev) (b : BayIx) (m : Movement) : (e.onBay b (.move m)).s.outlook = e.s.outlook :=
  Ev.outlook_onBay e b _ (fun _ => rfl)

theorem State.judgeOpen_shuts {s : State} {q : Phase} (h : s.judgeOpen b = .moves q) : q.shuts = false := by
  unfold State.judgeOpen at h
  repeat' split at h
  all_goals (cases h <;> rfl)

theorem BayPart.openClaim (e : Ev) (b : BayIx) : BayPart e (e.openClaim b) := by
  unfold Ev.openClaim
  split
  · next q hq =>
    exact .opens b q (by simp [-Ev.onBay_s, Ev.outlook_onBay_move]) (formGap_mem_entered b) (State.judgeOpen_shuts hq)
  · exact .done e
  · exact .done e

/-- With the latch set every CLOSE claim is refused (spec/01 R10). -/
theorem State.judgeClose_latchClear {s : State} {q : Phase} (h : s.judgeClose b = .moves q) : s.fire ≠ true := by
  intro hfire
  rw [State.judgeClose, if_pos hfire] at h
  exact absurd h nofun

theorem BayPart.closeClaim (e : Ev) (b : BayIx) : BayPart e (e.closeClaim b) := by
  simp only [Ev.closeClaim]
  split
  · next q hq =>
    have hclosing (r : Phase) (e' : Ev) (h : e'.s.outlook = e.s.outlook.move b r) : BayPart e (e', entered b) :=
      .moves b r h (formGap_mem_entered b) (fun hfire => absurd hfire (State.judgeClose_latchClear hq))
    have hentered : ((e.onBay b (.move .closes)).enter b q).s.outlook = e.s.outlook.move b q := by
      simp [-Ev.onBay_s, Ev.outlook_onBay_move]
    split
    · exact hclosing .closing _ (by rw [Ev.outlook_enter, hentered, Outlook.move_move])
    · exact hclosing q _ hentered
  · exact .done e
  · exact .done e

theorem BayPart.handOpen (e : Ev) (b : BayIx) : BayPart e (e.handOpen b) := by
  unfold Ev.handOpen
  split
  · exact .still rfl
  · split
    · exact .still rfl
    · exact .openClaim e b

theorem BayPart.openMember (e : Ev) (again : Bool) (b : BayIx) : BayPart e (e.openMember again b) := by
  unfold Ev.openMember
  repeat' split
  all_goals first | exact .handOpen e b | exact .still rfl

theorem BayPart.closeMember (e : Ev) (reported : Bool) (b : BayIx) : BayPart e (e.closeMember reported b) := by
  have hsay (r : Reason) : BayPart e (if reported then e.report b r else e, []) := by
    cases reported <;> exact .still rfl
  simp only [Ev.closeMember]
  split
  · exact hsay _
  · split
    · exact hsay _
    · split
      · exact hsay _
      · exact .closeClaim e b

/-! ### Checks at entry -/

theorem BayPart.obstruct (e : Ev) (atEntry : Bool) (b : BayIx) : BayPart e (e.obstruct atEntry b) := by
  simp only [Ev.obstruct]
  split
  · exact .done e
  · next hphase =>
    split
    · refine .moves b .reopening ?_ (formGap_mem_entered b) (fun _ _ => ?_)
      · split <;> simp [-Ev.onBay_s]
      · have hclosing : (e.s.bay b).phase = .closing := by simpa using hphase
        rw [hclosing]; rfl
    · exact .done e

theorem Bay.proofNext_shuts {x : Bay} {q : Phase} (h : x.proofNext = some q) : q.shuts = false := by
  unfold Bay.proofNext at h
  repeat' split at h
  all_goals (cases h <;> rfl)

theorem BayPart.entryChecks (e : Ev) (b : BayIx) : BayPart e (e.entryChecks b) := by
  simp only [Ev.entryChecks]
  split
  · next q hq => exact .opens b _ (Ev.outlook_enter _ _ _) (formGap_mem_entered b) (Bay.proofNext_shuts hq)
  · repeat' split
    all_goals exact .still (Ev.outlook_pauseAtEntry _ _)

theorem BayPart.judgeEntry (e : Ev) (b : BayIx) :
    BayPart e (if e.s.sliding b then e.entryChecks b else (e, [])) := by
  split
  · exact .entryChecks e b
  · exact .done e

theorem BayPart.arrive (e : Ev) (b : BayIx) : BayPart e (e.arrive b) := by
  have hformed : (if e.starting then e.s else e.s.formPresence b).outlook = e.s.outlook := by
    split
    · rfl
    · exact State.outlook_formPresence _ _
  unfold Ev.arrive
  split
  · exact .of_start hformed (.judgeEntry _ b)
  · exact .done e

theorem BayPart.presence (e : Ev) (b : BayIx) : BayPart e (e.presence b) := .still (State.outlook_formPresence _ _)

theorem BayPart.raiseConflict (e : Ev) (b : BayIx) : BayPart e (e.raiseConflict b) := by
  simp only [Ev.raiseConflict]
  split <;> exact .done e

/-! ### Faults -/

theorem BayPart.raiseNested (e : Ev) (b : BayIx) (c : FaultCode) : BayPart e (e.raiseNested b c) := by
  simp only [Ev.raiseNested]
  repeat' split
  all_goals exact .still (by simp)

/-- With the latch set a retry is one of a movement OPEN (spec/07 R132). -/
theorem State.retryGranted_opens {s : State} {c : FaultCode} (h : s.retryGranted b c = true) (hfire : s.fire = true) :
    (s.bay b).restartPhase.shuts = false := by
  simp only [State.retryGranted, Bool.and_eq_true, Bool.not_eq_true'] at h
  obtain ⟨⟨hmoves, _⟩, hfree⟩ := h
  cases hmovement : (s.bay b).movement with
  | none => simp [hmovement] at hmoves
  | closes => simp [State.restartForbidden, hmovement, hfire] at hfree
  | opens =>
    simp only [Bay.restartPhase, hmovement, beq_self_eq_true, if_true]
    split <;> rfl

theorem BayPart.raise (e : Ev) (b : BayIx) (c : FaultCode) (d : Nat) : BayPart e (e.raise b c d) := by
  have hmem (p : PlatformEffect) : Task.formGap ∈ Task.effect p c :: entered b :=
    List.mem_cons_of_mem _ (formGap_mem_entered b)
  simp only [Ev.raise]
  split
  · exact .raiseNested e b c
  · split
    · next hgranted =>
      refine .moves b _ (Ev.outlook_retry _ _ _) (hmem _) (fun hfire hs => ?_)
      rw [State.retryGranted_opens hgranted hfire] at hs
      exact absurd hs nofun
    · repeat' split
      · exact .opens b .stopped (by simp) (hmem _) rfl
      · exact .still (by simp)
      · exact .opens b .faulted (by simp) (hmem _) rfl

theorem BayPart.raiseAtEntry (e : Ev) (b : BayIx) (c : FaultCode) (d : Nat) : BayPart e (e.raiseAtEntry b c d) :=
  (BayPart.raise e b c d).followed _

/-! ### Releases and derived phases -/

theorem derivedPhase_shuts (k : BayKind) (i : BayLines) : (derivedPhase k i).shuts = false := by
  unfold derivedPhase
  repeat' split
  all_goals rfl

theorem BayPart.derive (e : Ev) (b : BayIx) : BayPart e (e.derive b) := by
  have hgap : Task.formGap ∈ entered b ++ [.fireBack b] := List.mem_append_left _ (formGap_mem_entered b)
  have hentered : ((e.onBay b (fun x => { x with movement := .none, retry := 0, reclose := 0 })).enter b
      (derivedPhase (e.s.kind b) (e.s.bay b).lines)).s.outlook
      = e.s.outlook.move b (derivedPhase (e.s.kind b) (e.s.bay b).lines) := by
    simp [-Ev.onBay_s]
  have hopen := derivedPhase_shuts (e.s.kind b) (e.s.bay b).lines
  simp only [Ev.derive]
  split
  · refine .opens b _ ?_ hgap hopen
    split
    · exact hentered
    · rw [Ev.on_s, State.outlook_openRecord, hentered]
  · exact .opens b _ ((Ev.outlook_takeDerivedConflict _ _).trans hentered) (List.mem_cons_of_mem _ hgap) hopen
  all_goals exact .opens b _ hentered hgap hopen

theorem BayPart.deriveBack (e : Ev) (b : BayIx) : BayPart e ((e.on (fun s => s.restoreBay b)).derive b) :=
  .of_start (State.outlook_restoreBay _ _) (.derive _ b)

theorem BayPart.enterReleased (e : Ev) (b : BayIx) (k : ReleaseKind) : BayPart e (e.enterReleased b k, entered b) :=
  .opens b _ (Ev.outlook_enterReleased _ _ _) (formGap_mem_entered b) rfl

theorem BayPart.keyActive (e : Ev) (b : BayIx) : BayPart e (e.keyActive b) := by
  unfold Ev.keyActive
  split
  all_goals first | exact .done e | exact .enterReleased e b _

theorem BayPart.keyInactive (e : Ev) (b : BayIx) : BayPart e (e.keyInactive b) := by
  unfold Ev.keyInactive
  split
  · exact .deriveBack e b
  · exact .done e

theorem BayPart.doorInput (e : Ev) (b : BayIx) : BayPart e (e.doorInput b) := by
  simp only [Ev.doorInput]
  split
  · repeat' split
    · exact .done e
    · exact .done e
    · exact .enterReleased e b _
  · split
    · exact .opens b .closedLocked (by simp) (formGap_mem_entered b) rfl
    · exact .done e
  all_goals exact .done e

/-! ### The fire latch, the loss of the link and the end of maintenance -/

theorem BayPart.fireOpen (e : Ev) (b : BayIx) : BayPart e (e.fireOpen b) := by
  simp only [Ev.fireOpen]
  split
  · exact .openClaim e b
  · exact .done e

theorem BayPart.fireRelease (e : Ev) (b : BayIx) : BayPart e (e.fireRelease b) := by
  simp only [Ev.fireRelease]
  split
  · exact .enterReleased e b _
  · exact .done e

theorem BayPart.fireBack (e : Ev) (b : BayIx) : BayPart e (e.fireBack b) := by
  simp only [Ev.fireBack]
  split
  · exact .done e
  · split
    · exact .enterReleased e b _
    · exact .openClaim e b

theorem BayPart.fireClose (e : Ev) (b : BayIx) : BayPart e (e.fireClose b) := by
  simp only [Ev.fireClose]
  split
  · exact .closeClaim e b
  · exact .done e

theorem BayPart.fireUndo (e : Ev) (b : BayIx) : BayPart e (e.fireUndo b) := by
  unfold Ev.fireUndo
  split
  · exact .deriveBack e b
  · exact .done e

theorem BayPart.linkLoss (e : Ev) (b : BayIx) : BayPart e (e.linkLoss b) := by
  simp only [Ev.linkLoss]
  repeat' split
  all_goals first | exact .closeClaim e b | exact .stopBay e b | exact .done e

theorem BayPart.exitClose (e : Ev) (b : BayIx) : BayPart e (e.exitClose b) := by
  simp only [Ev.exitClose]
  split
  · exact .closeClaim e b
  · exact .done e

/-! ### BAY_COMMAND on one bay -/

theorem BayPart.isolate (e : Ev) (b : BayIx) : BayPart e (e.isolate b) := by
  refine .opens b .isolated ?_ (formGap_mem_entered b) rfl
  split <;> simp

theorem BayPart.restore (e : Ev) (b : BayIx) : BayPart e (e.restore b) := by
  have hheld : ((e.enter b .closedLocked).onBay b (fun x => { x with hold := true })).s.outlook
      = e.s.outlook.move b .closedLocked := by
    simp [-Ev.onBay_s]
  have hgap : Task.formGap ∈ entered b ++ [.fireBack b] := List.mem_append_left _ (formGap_mem_entered b)
  simp only [Ev.restore]
  split
  · exact .opens b .released (by rw [Ev.outlook_enterReleased, hheld, Outlook.move_move]) hgap rfl
  · exact .opens b _ hheld hgap rfl

theorem BayPart.clearFault (e : Ev) (b : BayIx) : BayPart e (e.clearFault b) :=
  .of_start (State.outlook_clearFrame _ _ _) (.derive _ b)

theorem BayPart.act (e : Ev) (a : BayAction) (b : BayIx) : BayPart e (e.act a b) := by
  cases a with
  | opens => exact .openClaim e b
  | closes => exact .closeClaim e b
  | stop => exact .stopBay e b
  | hold => exact .still (Ev.outlook_onBay _ _ _ (fun _ => rfl))
  | free => exact .still (Ev.outlook_onBay _ _ _ (fun _ => rfl))
  | isolate => exact .isolate e b
  | restore => exact .restore e b
  | clearFault => exact .clearFault e b

theorem BayPart.command (e : Ev) (a : BayAction) (b : BayIx) : BayPart e (e.command a b) := by
  unfold Ev.command
  split
  · exact .still rfl
  · exact .of_start (e' := { e with accepted := e.accepted ++ [b] }) rfl (.act _ a b)

end

end Sys2Proof.Machine
end

section
/-! The gap result under its table (spec/03 R76): what every task and the end of an event make of it. -/

namespace Sys2Proof.Machine

/-! ### What the table reads -/

/-- Without a map that has been opened the gap result is NONE (spec/03 R76). -/
abbrev GapEarly (s : State) : Prop :=
  s.train.state = .empty ∨ s.train.state = .announced ∨ s.train.state = .berthed → s.gap.result = .none

/-- The table of the gap result, by the scan condition and whether a member's GAP is occupied (spec/03 R76). -/
def gapTable (g : GapResult) (condition occupied : Bool) : GapResult :=
  match g with
  | .none => .none
  | .pending => if condition then (if occupied then .occupied else .scanning) else .pending
  | .scanning => if !condition then .pending else if occupied then .occupied else .scanning
  | .clear => if !condition then .pending else if occupied then .occupied else .clear
  | .occupied => if !condition then .pending else if occupied then .occupied else .scanning

theorem State.gapNow_eq (s : State) :
    s.gapNow = gapTable s.gap.result s.scanCondition (!s.occupiedMembers.isEmpty) := rfl

/-- The table gives no other result once it has been applied. -/
theorem gapTable_gapTable (g : GapResult) (condition occupied : Bool) :
    gapTable (gapTable g condition occupied) condition occupied = gapTable g condition occupied := by
  cases condition <;> cases occupied <;> cases g <;> rfl

/-- All that the table of the gap result reads stands. -/
structure GapStands (s t : State) : Prop where
  state : t.train.state = s.train.state
  map : t.train.map = s.train.map
  result : t.gap.result = s.gap.result
  phase : ∀ b, (t.bay b).phase = (s.bay b).phase
  level : ∀ b ∈ s.train.map, (t.bay b).lines.gap.level = (s.bay b).lines.gap.level

section

variable {s t u : State}

theorem GapStands.refl (s : State) : GapStands s s := ⟨rfl, rfl, rfl, fun _ => rfl, fun _ _ => rfl⟩

theorem GapStands.trans (h : GapStands s t) (k : GapStands t u) : GapStands s u :=
  ⟨k.state.trans h.state, k.map.trans h.map, k.result.trans h.result, fun b => (k.phase b).trans (h.phase b),
    fun b hb => (k.level b (h.map ▸ hb)).trans (h.level b hb)⟩

theorem GapStands.of_fields (htrain : t.train = s.train) (hgap : t.gap = s.gap) (hbays : t.bays = s.bays) : GapStands s t :=
  ⟨by rw [htrain], by rw [htrain], by rw [hgap], fun b => by simp only [State.bay, hbays],
    fun b _ => by simp only [State.bay, hbays]⟩

/-- What no law of the map reads to be other than it was, with the gap result and the GAP inputs. -/
theorem GapStands.of_law (h : AllLawStands s t) (hgap : t.gap = s.gap) (hlines : ∀ b, (t.bay b).lines = (s.bay b).lines) :
    GapStands s t :=
  ⟨h.state, h.map, by rw [hgap], fun b => (h.bays b id).phase, fun b _ => by rw [hlines]⟩

theorem Bay.core_phase (x : Bay) : x.core.phase = x.phase := rfl

theorem State.settle_phase (s : State) (b : BayIx) : (s.settle.bay b).phase = (s.bay b).phase := by
  rw [← Bay.core_phase, State.settle_core, Bay.core_phase]

theorem GapStands.settle (s : State) : GapStands s s.settle :=
  ⟨by rw [State.settle_train], by rw [State.settle_train], by rw [State.settle_gap],
    s.settle_phase, fun b _ => by rw [State.settle_bayLines]⟩

theorem GapStands.early (h : GapStands s t) (hs : GapEarly s) : GapEarly t := by
  unfold GapEarly
  rw [h.state, h.result]
  exact hs

theorem GapStands.scanCondition (h : GapStands s t) : t.scanCondition = s.scanCondition := by
  simp only [State.scanCondition, h.state, h.map, h.phase]

theorem GapStands.occupied (h : GapStands s t) : t.occupiedMembers = s.occupiedMembers := by
  unfold State.occupiedMembers
  rw [h.map]
  exact List.filter_congr (fun b hb => h.level b hb)

theorem GapStands.fresh (h : GapStands s t) (hs : GapFresh s) : GapFresh t := by
  unfold GapFresh at hs ⊢
  rw [h.result, ← hs, State.gapNow_eq, State.gapNow_eq, h.result, h.scanCondition, h.occupied]

theorem GapFresh.of_none (h : t.gap.result = .none) : GapFresh t := by simp [GapFresh, State.gapNow, h]

/-- PENDING stands while the train is not closed (spec/03 R76). -/
theorem GapFresh.of_enabled (hstate : t.train.state = .enabled) (hresult : t.gap.result = .pending) : GapFresh t := by
  have hcondition : t.scanCondition = false := by simp [State.scanCondition, hstate]
  simp [GapFresh, State.gapNow, hresult, hcondition]

/-- Once the result is set to what the table gives, the table gives no other. -/
theorem State.setGap_fresh (s : State) : GapFresh (s.setGap s.gapNow) := by
  have hresult : (s.setGap s.gapNow).gap.result = s.gapNow := by cases s.gapNow <;> rfl
  have hcondition : (s.setGap s.gapNow).scanCondition = s.scanCondition := by
    simp only [State.scanCondition, State.bay, State.setGap_train, State.setGap_bays]
  have hoccupied : (s.setGap s.gapNow).occupiedMembers = s.occupiedMembers := by
    simp only [State.occupiedMembers, State.bay, State.setGap_train, State.setGap_bays]
  unfold GapFresh
  rw [State.gapNow_eq, hresult, hcondition, hoccupied, State.gapNow_eq, gapTable_gapTable]

theorem Ev.formGap_makes_fresh (e : Ev) : GapFresh e.formGap.1.s := by
  unfold Ev.formGap
  split
  · next hsame => exact beq_iff_eq.mp hsame
  · exact e.s.setGap_fresh

/-- The result is NONE without a map, also after the table is applied: NONE is left by no table. -/
theorem Ev.formGap_early (e : Ev) (h : GapEarly e.s) : GapEarly e.formGap.1.s := by
  unfold Ev.formGap
  split
  · exact h
  · have hresult : (e.s.setGap e.s.gapNow).gap.result = e.s.gapNow := by cases e.s.gapNow <;> rfl
    intro hstate
    rw [Ev.setGap, Ev.on_s, State.setGap_train] at hstate
    rw [Ev.setGap, Ev.on_s, hresult]
    simp [State.gapNow, h hstate]

end

/-! ### Parts of an event -/

/-- A part of an event that begins in a state: NONE stands without a map, the part runs on, and the gap result is as its table
gives it, or about to be examined. -/
structure GapKept (s : State) (p : Ev × List Task) : Prop where
  early : GapEarly s → GapEarly p.1.s
  running : s.mode.mode ≠ .starting → p.1.s.mode.mode ≠ .starting
  fresh : GapEarly s → GapFresh s → GapFresh p.1.s ∨ .formGap ∈ p.2

section

variable {s : State} {e : Ev} {b : BayIx} {ts : List Task} {p : Ev × List Task}

theorem GapKept.of_stands (h : GapStands s p.1.s) (hmode : p.1.s.mode = s.mode) : GapKept s p :=
  ⟨h.early, fun hs => by rwa [hmode], fun _ hs => .inl (h.fresh hs)⟩

theorem GapKept.done (e : Ev) : GapKept e.s (e, ts) := .of_stands (.refl _) rfl

/-- The result has become NONE. -/
theorem GapKept.of_none (h : GapEarly s → p.1.s.gap.result = .none) (hmode : p.1.s.mode = s.mode) : GapKept s p :=
  ⟨fun hs _ => h hs, fun hs => by rwa [hmode], fun hs _ => .inl (.of_none (h hs))⟩

theorem GapKept.of_enabled (hstate : p.1.s.train.state = .enabled) (hresult : p.1.s.gap.result = .pending)
    (hmode : p.1.s.mode = s.mode) : GapKept s p :=
  ⟨fun _ hearly => by simp [hstate] at hearly, fun hs => by rwa [hmode], fun _ _ => .inl (.of_enabled hstate hresult)⟩

/-- A part that begins where one with no tasks of its own has ended. -/
theorem GapKept.next {e' : Ev} (h : GapKept s (e', [])) (k : GapKept e'.s p) : GapKept s p :=
  ⟨k.early ∘ h.early, k.running ∘ h.running, fun hs hf =>
    k.fresh (h.early hs) ((h.fresh hs hf).resolve_right List.not_mem_nil)⟩

theorem GapKept.followed (h : GapKept s p) (us : List Task) : GapKept s (p.1, p.2 ++ us) :=
  ⟨h.early, h.running, fun hs hf => (h.fresh hs hf).imp_right (List.mem_append_left us)⟩

/-- Two parts, the second of them from where the first has ended. -/
theorem GapKept.andThen {f : Ev → Ev × List Task} (h : GapKept s p) (k : ∀ e, GapKept e.s (f e)) :
    GapKept s (Ev.andThen p f) := by
  have hnext := k p.1
  refine ⟨hnext.early ∘ h.early, hnext.running ∘ h.running, fun hs hf => ?_⟩
  rcases h.fresh hs hf with hfresh | hmem
  · exact (hnext.fresh (h.early hs) hfresh).imp_right (List.mem_append_right _)
  · exact .inr (List.mem_append_left _ hmem)

/-- A part that acts on one bay and leaves its inputs alone. -/
theorem BayPart.gapKept (h : BayPart e p) (hkept : p.1.s.kept = e.s.kept) : GapKept e.s p := by
  refine ⟨fun hs => ?_, fun hs => by rwa [h.mode], fun _ hf => ?_⟩
  · unfold GapEarly
    rw [h.train, h.gap]
    exact hs
  · refine h.phases.imp_left (fun hphase => ?_)
    exact GapStands.fresh ⟨by rw [h.train], by rw [h.train], by rw [h.gap], hphase,
      fun b _ => by rw [State.kept_bayLines (State.kept_same hkept)]⟩ hf

/-! ### The train, the mode and the platform frame -/

theorem GapKept.enterHalted (e : Ev) (c : HaltCause) : GapKept e.s (e.enterHalted c) := by
  unfold Ev.enterHalted
  split
  · exact .done e
  · have hstands : GapStands e.s (({ e.s with mode := { e.s.mode with haltCause := c } } : State).changeMode .halted) :=
      .of_fields rfl rfl rfl
    exact ⟨hstands.early, fun _ => nofun, fun _ hf => .inl (hstands.fresh hf)⟩

theorem GapKept.changeMode (e : Ev) {m : Mode} (hm : m ≠ .starting) : GapKept e.s (e.on (fun s => s.changeMode m), ts) := by
  have hstands : GapStands e.s (e.s.changeMode m) := .of_fields rfl rfl rfl
  exact ⟨hstands.early, fun _ => hm, fun _ hf => .inl (hstands.fresh hf)⟩

/-- The closing of the train has the gap result examined (spec/02 R47). -/
theorem GapKept.closeTrain (e : Ev) (origin : Nat) (reported : Bool) : GapKept e.s (e.closeTrain origin reported) :=
  ⟨fun _ hearly => by simp [Ev.closeTrain] at hearly, id, fun _ _ => .inr List.mem_cons_self⟩

theorem GapKept.effect (e : Ev) (p : PlatformEffect) (c : FaultCode) : GapKept e.s (e.effect p c) := by
  cases p with
  | none => exact .done e
  | closeMap =>
    simp only [Ev.effect, Ev.closeMapEffect]
    split
    · exact .closeTrain e _ _
    · exact .done e
  | halt => exact .enterHalted e _

theorem GapKept.raiseFace (e : Ev) (c : FaultCode) (d : Nat) : GapKept e.s (e.raiseFace c d) :=
  .of_stands (.of_fields (State.recordPlatform_train _ _ _) (State.recordPlatform_gap _ _ _) (State.recordPlatform_bays _ _ _))
    (State.recordPlatform_mode _ _ _)

theorem GapKept.returnEmpty (e : Ev) (k : EventKind) (v : Nat) : GapKept e.s (e.returnEmpty k v) :=
  .of_none (fun _ => rfl) rfl

theorem GapKept.departWatch (e : Ev) : GapKept e.s e.departWatch := by
  unfold Ev.departWatch
  split
  · exact .returnEmpty e _ _
  · exact .done e

theorem GapKept.fireSet (e : Ev) (f : FireSource) : GapKept e.s (e.fireSet f) := by
  unfold Ev.fireSet
  split
  · exact .done e
  · exact .of_stands (.of_fields (by simp) (by simp) (by simp)) (by simp)

theorem GapKept.fireReset (e : Ev) : GapKept e.s e.fireReset := by
  simp only [Ev.fireReset]
  repeat' split
  · exact .done e
  · exact .of_stands (.of_fields rfl rfl rfl) rfl
  all_goals exact .of_stands (.of_fields (by simp) (by simp) (by simp)) (by simp)

/-! ### Every task -/

/-- Every task but the examination of the gap result itself. -/
theorem Task.gapKept {t : Task} (ht : t ≠ .formGap) (e : Ev) : GapKept e.s (t.perform e) := by
  have hkept : (t.perform e).1.s.kept = e.s.kept := Task.kept_perform t e
  cases t with
  | formGap => exact absurd rfl ht
  | presence b => exact (BayPart.presence e b).gapKept hkept
  | arrive b => exact (BayPart.arrive e b).gapKept hkept
  | obstruct atEntry b => exact (BayPart.obstruct e atEntry b).gapKept hkept
  | conflict b => exact (BayPart.raiseConflict e b).gapKept hkept
  | raise b c d => exact (BayPart.raise e b c d).gapKept hkept
  | raiseAtEntry b c d => exact (BayPart.raiseAtEntry e b c d).gapKept hkept
  | raiseFace c d => exact .raiseFace e c d
  | effect p c => exact .effect e p c
  | openMember again b => exact (BayPart.openMember e again b).gapKept hkept
  | closeMember reported b => exact (BayPart.closeMember e reported b).gapKept hkept
  | haltStop b => exact (BayPart.stopBay e b).gapKept hkept
  | fireSet f => exact .fireSet e f
  | fireOpen b => exact (BayPart.fireOpen e b).gapKept hkept
  | fireRelease b => exact (BayPart.fireRelease e b).gapKept hkept
  | fireBack b => exact (BayPart.fireBack e b).gapKept hkept
  | fireClose b => exact (BayPart.fireClose e b).gapKept hkept
  | fireUndo b => exact (BayPart.fireUndo e b).gapKept hkept
  | linkLoss b => exact (BayPart.linkLoss e b).gapKept hkept
  | postExpired period => exact .of_stands (.of_fields rfl rfl rfl) rfl
  | departWatch => exact .departWatch e
  | exitClose b => exact (BayPart.exitClose e b).gapKept hkept
  | command a b => exact (BayPart.command e a b).gapKept hkept

theorem Ev.formGap_mode (e : Ev) : e.formGap.1.s.mode = e.s.mode := by
  unfold Ev.formGap
  split
  · rfl
  · exact State.setGap_mode _ _

theorem Task.gapEarly (t : Task) (e : Ev) (h : GapEarly e.s) : GapEarly (t.perform e).1.s := by
  by_cases ht : t = .formGap
  · subst ht; exact e.formGap_early h
  · exact (t.gapKept ht e).early h

theorem Task.running (t : Task) (e : Ev) (h : e.s.mode.mode ≠ .starting) : (t.perform e).1.s.mode.mode ≠ .starting := by
  by_cases ht : t = .formGap
  · subst ht
    rw [Task.perform, e.formGap_mode]
    exact h
  · exact (t.gapKept ht e).running h

/-- With the tasks that wait the gap result is as its table gives it, or about to be examined. -/
def GapMinded (ts : List Task) (e : Ev) : Prop := GapEarly e.s ∧ (GapFresh e.s ∨ .formGap ∈ ts)

theorem GapMinded.perform (t : Task) (ts : List Task) (e : Ev) (h : GapMinded (t :: ts) e) :
    GapMinded ((t.perform e).2 ++ ts) (t.perform e).1 := by
  obtain ⟨hearly, hminded⟩ := h
  refine ⟨t.gapEarly e hearly, ?_⟩
  by_cases ht : t = .formGap
  · subst ht; exact .inl e.formGap_makes_fresh
  · rcases hminded with hfresh | hmem
    · exact ((t.gapKept ht e).fresh hearly hfresh).imp_right (List.mem_append_left _)
    · exact .inr (List.mem_append_right _ ((List.mem_cons.mp hmem).resolve_left (Ne.symm ht)))

/-! ### Events -/

/-- GapLaw but for the map law. -/
structure GapPart (s : State) : Prop where
  early : GapEarly s
  starting : s.mode.mode = .starting → s.train.state = .empty
  fresh : s.stalled = false → GapFresh s

theorem GapStands.part {t : State} (h : GapStands s t) (hmode : t.mode.mode = s.mode.mode) (hstalled : t.stalled = s.stalled)
    (hs : GapPart s) : GapPart t :=
  ⟨h.early hs.early, fun hm => h.state.trans (hs.starting (hmode ▸ hm)), fun ht => h.fresh (hs.fresh (hstalled ▸ ht))⟩

/-- Tasks carried to their end, or to the bound. -/
theorem GapMinded.run {ts : List Task} (h : GapMinded ts e) (hmode : e.s.mode.mode ≠ .starting) :
    GapPart (run Config.eventBound ts e).s := by
  refine ⟨?_, fun hstarting => absurd hstarting ?_, fun hstalled => ?_⟩
  · exact run_keeps (fun e => GapEarly e.s) Task.gapEarly (fun _ h => h) _ ts e h.1
  · exact run_keeps (fun e => e.s.mode.mode ≠ .starting) Task.running (fun _ h => h) _ ts e hmode
  · rcases run_agenda GapMinded GapMinded.perform Config.eventBound ts e h with hstall | hend
    · rw [hstalled] at hstall; exact absurd hstall nofun
    · exact hend.2.resolve_right List.not_mem_nil

theorem GapPart.settle (h : GapPart s) : GapPart s.settle :=
  (GapStands.settle s).part (by rw [State.settle_mode]) (State.settle_stalled s) h

theorem GapMinded.finish {ts : List Task} (h : GapMinded ts e) (hmode : e.s.mode.mode ≠ .starting) :
    GapPart (e.finish ts).s := by
  rw [Ev.finish, Ev.on_s]
  exact (h.run hmode).settle

/-- A part of an event of a part that runs leaves the gap result to the tasks it begins. -/
theorem GapKept.minded (h : GapKept s p) (hs : GapPart s) (hstalled : s.stalled = false) : GapMinded p.2 p.1 :=
  ⟨h.early hs.early, h.fresh hs.early (hs.fresh hstalled)⟩

theorem GapKept.event {f : Ev → Ev × List Task} (h : GapKept s (f (Ev.start s))) (hs : GapPart s)
    (hactive : s.active = true) : GapPart (s.event f) := by
  have hstalled : s.stalled = false := by simp_all [State.active, State.runs]
  exact (h.minded hs hstalled).finish (h.running (State.active_running hactive))

end

end Sys2Proof.Machine
end

section
/-! The gap result under its table: how every event begins, every command, and the passing of time. -/

namespace Sys2Proof.Machine

section

variable {s t : State} {e : Ev} {b : BayIx} {ts : List Task} {p : Ev × List Task}

theorem GapStands.setBay (s : State) (b : BayIx) (x : Bay) (hphase : x.phase = (s.bay b).phase)
    (hlevel : x.lines.gap.level = (s.bay b).lines.gap.level) : GapStands s (s.setBay b x) := by
  refine ⟨rfl, rfl, rfl, fun c => ?_, fun c _ => ?_⟩ <;>
  · by_cases hc : c = b
    · subst hc; simp [hphase, hlevel]
    · rw [State.bay_setBay_ne _ _ _ _ hc]

theorem GapStands.clearFrame (s : State) (c : ClearCause) (b : BayIx) : GapStands s (s.clearFrame c b) :=
  (GapStands.setBay s b { s.bay b with frame := (s.bay b).frame.clear } rfl rfl).trans (.of_fields rfl rfl rfl)

theorem GapPart.of_fields (hs : GapPart s) (htrain : t.train = s.train) (hgap : t.gap = s.gap) (hbays : t.bays = s.bays)
    (hmode : t.mode.mode = s.mode.mode) (hstalled : t.stalled = s.stalled) : GapPart t :=
  (GapStands.of_fields htrain hgap hbays).part hmode hstalled hs

/-- A part that acts on bays and has the gap result examined. -/
theorem GapKept.examined (hgap : p.1.s.gap = s.gap) (htrain : p.1.s.train = s.train) (hmode : p.1.s.mode = s.mode)
    (hmem : .formGap ∈ p.2) : GapKept s p :=
  ⟨fun hs => by unfold GapEarly; rw [htrain, hgap]; exact hs, fun hs => by rwa [hmode], fun _ _ => .inr hmem⟩

/-- A part may begin after a change that the table does not read. -/
theorem GapKept.of_start (h : GapStands s e.s) (hmode : e.s.mode = s.mode) (k : GapKept e.s p) : GapKept s p :=
  .next (e' := e) (.of_stands h hmode) k

/-! ### Filtered changes -/

/-- A changed input of a SLIDING bay other than its CURTAIN and its GAP. -/
theorem GapKept.slidingInput (e : Ev) (b : BayIx) (i : BayInput) : GapKept e.s (e.slidingInput b i) := by
  simp only [Ev.slidingInput]
  split
  · exact .done e
  · exact .examined (by simp) (by simp) (by simp) (formGap_mem_entered b)
  · exact .done e
  · exact .of_stands (.setBay _ _ _ rfl rfl) rfl
  · exact .done e

theorem GapKept.sensorInput (e : Ev) (b : BayIx) : (sensor : Sensor) → GapKept e.s (e.sensorInput b sensor)
  | .gap => .examined rfl rfl rfl List.mem_cons_self
  | .curtain => .of_stands (.setBay _ _ _ (by dsimp only; split <;> rfl) (by dsimp only; split <;> rfl)) rfl

theorem GapKept.bayInput (e : Ev) (b : BayIx) (i : BayInput) : GapKept e.s (e.bayInput b i) := by
  have hdoor : GapKept e.s (e.doorInput b) := (BayPart.doorInput e b).gapKept (Ev.kept_doorInput e b)
  unfold Ev.bayInput
  split
  · exact .done e
  · cases i with
    | curtain => exact .sensorInput e b _
    | gap => exact .sensorInput e b _
    | releaseKey =>
      dsimp only
      split
      · exact (BayPart.keyActive e b).gapKept (Ev.kept_keyActive e b)
      · exact (BayPart.keyInactive e b).gapKept (Ev.kept_keyInactive e b)
    | _ => exact .slidingInput e b _
  · cases i <;> first | exact .done e | exact hdoor
  · cases i <;> first | exact .done e | exact hdoor

theorem GapKept.leaveMaintenance (e : Ev) : GapKept e.s e.leaveMaintenance := .changeMode e nofun

theorem GapKept.functionChange (e : Ev) (f : LineFunction) (level : Bool) (n : LineIx) :
    GapKept e.s (e.functionChange f level n) := by
  unfold Ev.functionChange
  repeat' split
  all_goals first
    | exact .done e
    | exact .fireReset e
    | exact .leaveMaintenance e
    | exact .of_stands (.of_fields rfl rfl rfl) rfl

theorem GapKept.berthSensor (e : Ev) (n : LineIx) : GapKept e.s (e.berthSensor n) := by
  unfold Ev.berthSensor
  split
  · exact .done e
  · split
    · exact .done e
    · exact .done e
    · split
      · exact .done e
      · exact .of_stands ⟨rfl, rfl, rfl, fun _ => rfl, fun _ _ => rfl⟩ rfl
    · exact .done e
    · exact .done e
    · exact .departWatch e

theorem GapKept.generalEdge (e : Ev) (n : LineIx) : GapKept e.s (e.on (fun s => s.generalEdge n), []) := by
  have hedge : GapStands e.s (e.s.generalEdge n) ∧ (e.s.generalEdge n).mode = e.s.mode := by
    simp only [State.generalEdge]
    repeat' split
    all_goals exact ⟨.of_fields rfl rfl rfl, rfl⟩
  exact .of_stands hedge.1 hedge.2

theorem GapKept.generalChange (e : Ev) (n : LineIx) : GapKept e.s (e.generalChange n) := by
  unfold Ev.generalChange
  split
  · exact .berthSensor e n
  · exact .generalEdge e n
  · exact .functionChange e _ _ n

/-- A changed input other than the GAP of a map member is nothing that the table reads. -/
theorem GapStands.changeLevel (s : State) (b : BayIx) (i : BayInput) (h : i = .gap → b ∉ s.train.map) :
    GapStands s (s.changeLevel (.bay b i)) := by
  have hstands : AllLawStands s (s.changeLevel (.bay b i)) := .setInputLine (.bay b i) _
  refine ⟨rfl, rfl, rfl, fun c => (hstands.bays c id).phase, fun c hc => ?_⟩
  · by_cases hcb : c = b
    · subst hcb
      have hbay := State.bay_setBay_self s c
        { s.bay c with lines := (s.bay c).lines.put { (s.inputLine (.bay c i)) with
          level := !(s.inputLine (.bay c i)).level, candidate := none } i }
      refine (congrArg (fun x : Bay => x.lines.gap.level) hbay).trans ?_
      cases i with
      | gap => exact absurd hc (h rfl)
      | _ => rfl
    · exact congrArg (fun x : Bay => x.lines.gap.level) (State.bay_setBay_ne _ _ _ _ hcb)

/-- The GAP of a map member, which is SLIDING, has the gap result examined; no other input is the table's to read. -/
theorem GapKept.filteredChange (e : Ev) (l : InputLine) (hmembers : ∀ b ∈ e.s.train.map, e.s.sliding b = true) :
    GapKept e.s (e.filteredChange l) := by
  cases l with
  | general n =>
    exact .of_start (e := e.on (fun s => s.changeLevel (.general n))) (.of_fields rfl rfl rfl) rfl (.generalChange _ n)
  | bay b i =>
    by_cases hmember : i = .gap ∧ b ∈ e.s.train.map
    · obtain ⟨rfl, hb⟩ := hmember
      have hkind : (e.on (fun s => s.changeLevel (.bay b .gap))).s.kind b = .sliding :=
        (sliding_iff e.s b).mp (hmembers b hb)
      simp only [Ev.filteredChange, Ev.bayInput, hkind]
      exact .examined rfl rfl rfl List.mem_cons_self
    · exact .of_start (e := e.on (fun s => s.changeLevel (.bay b i)))
        (.changeLevel e.s b i (fun hi hb => hmember ⟨hi, hb⟩)) rfl (.bayInput _ b i)

/-! ### Timers -/

theorem GapKept.limitExpires (e : Ev) (b : BayIx) (c : FaultCode) (x : Timer) : GapKept e.s (e.limitExpires b c x) :=
  .of_stands (.setBay _ _ _ rfl rfl) rfl

theorem GapKept.toClosing (e : Ev) (b : BayIx) : GapKept e.s (e.toClosing b) :=
  .examined (Ev.enter_gap _ _ _) (Ev.enter_train _ _ _) (Ev.enter_mode _ _ _) (formGap_mem_entered b)

theorem GapKept.forceClosing (e : Ev) (b : BayIx) (x : Timer) : GapKept e.s (e.forceClosing b x) :=
  .examined (Ev.enter_gap _ _ _) (Ev.enter_train _ _ _) (Ev.enter_mode _ _ _) (formGap_mem_entered b)

theorem GapKept.markStuck (e : Ev) (b : BayIx) : (sensor : Sensor) → GapKept e.s (e.markStuck b sensor)
  | .gap => .of_stands (.setBay _ _ _ rfl rfl) rfl
  | .curtain => .of_stands (.setBay _ _ _ rfl rfl) rfl

/-- The scan of a gap result that is as its table gives it ends with CLEAR, and the table gives CLEAR. -/
theorem GapKept.scanEnds (e : Ev) (h : e.s.gap.result = .scanning) : GapKept e.s (e.setGap .clear) := by
  refine ⟨fun hs hearly => ?_, id, fun _ hf => .inl ?_⟩
  · rw [hs hearly] at h; exact absurd h nofun
  · have hcondition : (e.s.setGap .clear).scanCondition = e.s.scanCondition := rfl
    have hoccupied : (e.s.setGap .clear).occupiedMembers = e.s.occupiedMembers := rfl
    unfold GapFresh at hf
    rw [State.gapNow_eq, h] at hf
    show (e.s.setGap .clear).gapNow = .clear
    have hresult : (e.s.setGap .clear).gap.result = .clear := rfl
    rw [State.gapNow_eq, hcondition, hoccupied, hresult]
    revert hf
    cases e.s.scanCondition <;> cases e.s.occupiedMembers.isEmpty <;> decide

theorem GapKept.supervisionExpires (e : Ev) (x : Timer) : GapKept e.s (e.supervisionExpires x) :=
  .of_stands (.of_fields rfl rfl rfl) rfl

theorem State.compareDwell_bays (s : State) : s.compareDwell.bays = s.bays := by
  simp only [State.compareDwell]
  repeat' split
  all_goals rfl

theorem State.compareDwell_mode (s : State) : s.compareDwell.mode = s.mode := by
  simp only [State.compareDwell]
  repeat' split
  all_goals rfl

theorem GapStands.compareDwell (s : State) : GapStands s s.compareDwell :=
  .of_law (.compareDwell s) (State.compareDwell_gap s) (fun b => by simp only [State.bay, State.compareDwell_bays])

theorem GapStands.reachDwell (s : State) (threshold : Nat) : GapStands s (s.reachDwell threshold) :=
  have hreached : GapStands s { s with train := { s.train with dwellElapsed := max s.train.dwellElapsed threshold } } :=
    ⟨rfl, rfl, rfl, fun _ => rfl, fun _ _ => rfl⟩
  hreached.trans (.compareDwell _)

theorem GapKept.reachDwell (e : Ev) (threshold : State → Nat) :
    GapKept e.s (e.on (fun s => s.reachDwell (threshold s)), ts) :=
  .of_stands (.reachDwell _ _) (State.compareDwell_mode _)

theorem GapKept.recordPassed (e : Ev) : GapKept e.s (e.on State.recordPassed, ts) := by
  simp only [Ev.on, State.recordPassed]
  repeat' split
  all_goals exact .of_stands (.of_fields rfl rfl rfl) rfl

/-! ### The end of STARTING and the restart -/

theorem foldl_same {α β : Type} (f : α → BayIx → α) (g : α → β) (h : ∀ a b, g (f a b) = g a) (bs : List BayIx) (a : α) :
    g (bs.foldl f a) = g a := by
  induction bs generalizing a with
  | nil => rfl
  | cons b bs ih => exact (ih _).trans (h a b)

/-- The train and the gap result. -/
def State.scan (s : State) : Train × GapScan := (s.train, s.gap)

theorem State.scan_readLines (s : State) : s.readLines.scan = s.scan := by
  unfold State.readLines
  rw [foldl_same (fun (u : State) n => u.refilter (.general n)) State.scan (fun _ _ => by simp [State.scan, State.refilter])]
  rfl

theorem Ev.scan_startFaults (e : Ev) : e.startFaults.s.scan = e.s.scan := by
  rw [Ev.startFaults_eq]
  refine (foldl_same Ev.startConflict (fun e => e.s.scan) (fun e b => ?_) _ _).trans ?_
  · dsimp only [Ev.startConflict]
    split <;> rfl
  · rw [Ev.on_s, State.startStoreFault]
    split
    · simp [State.scan]
    · rfl

theorem State.scan_startRelease (s : State) (b : BayIx) : (s.startRelease b).scan = s.scan := by
  unfold State.startRelease
  split
  · simp [State.scan]
  · rfl

/-- STARTING once the start-up faults are taken (spec/07 R142). -/
def State.startFaulted (s : State) : State :=
  ({ Ev.start s with starting := true }.on (fun s => allBays.foldl State.deriveAtStart s.readLines)).startFaults.s

theorem Ev.endStarting_s (s : State) : (Ev.endStarting (Ev.start s)).1.s =
    (allBays.foldl State.startRelease s.startFaulted.startMode).standingKey := by
  simp only [Ev.endStarting, State.startFaulted, Ev.on_s]

/-- The evaluations at the end of STARTING leave the train and the gap result alone (spec/08 R147). -/
theorem Ev.scan_endStarting (s : State) : (Ev.endStarting (Ev.start s)).1.s.scan = s.scan := by
  have hkey (u : State) : u.standingKey.scan = u.scan := rfl
  have hmode (u : State) : u.startMode.scan = u.scan := rfl
  have hderived (u : State) : (allBays.foldl State.deriveAtStart u).scan = u.scan :=
    foldl_same State.deriveAtStart State.scan (fun _ _ => rfl) _ _
  have hfaulted : s.startFaulted.scan = s.scan := by
    rw [State.startFaulted, Ev.scan_startFaults, Ev.on_s, hderived, State.scan_readLines]
    rfl
  rw [Ev.endStarting_s, hkey, foldl_same State.startRelease State.scan State.scan_startRelease, hmode, hfaulted]

theorem Ev.endStarting_running (s : State) : (Ev.endStarting (Ev.start s)).1.s.mode.mode ≠ .starting := by
  have hreleased (u : State) : (allBays.foldl State.startRelease u).mode.mode = .starting ↔ u.mode.mode = .starting :=
    (LawStands.foldl LawStands.startRelease allBays u).starting
  rw [Ev.endStarting_s, State.standingKey_mode, ne_eq, hreleased]
  exact State.startMode_running _

theorem endStarting_gapPart (hs : s.mode.mode = .starting) (h : GapPart s) : GapPart (s.event Ev.endStarting) := by
  have hscan := Ev.scan_endStarting s
  simp only [State.scan, Prod.mk.injEq] at hscan
  obtain ⟨htrain, hgap⟩ := hscan
  have hnone : (Ev.endStarting (Ev.start s)).1.s.gap.result = .none := by
    rw [hgap]
    exact h.early (.inl (h.starting hs))
  have hminded : GapMinded (Ev.endStarting (Ev.start s)).2 (Ev.endStarting (Ev.start s)).1 :=
    ⟨fun _ => hnone, .inl (.of_none hnone)⟩
  exact hminded.finish (Ev.endStarting_running s)

theorem State.restart_gapPart (s : State) (c : RestartCause) : GapPart (s.restart c) :=
  ⟨fun _ => rfl, fun _ => rfl, fun _ => .of_none rfl⟩

/-! ### Trains -/

/-- A train is announced where none is, and no gap result stands. -/
theorem GapKept.announce (e : Ev) (units : List TrainUnit) (target : Mm) (hempty : e.s.train.state = .empty) :
    GapKept e.s (e.on (fun s => s.announce units target), []) := .of_none (fun hs => hs (.inl hempty)) rfl

theorem GapKept.berthAt (e : Ev) (measured : Mm) (ds : List PlacedDoorway)
    (hstate : e.s.train.state = .announced ∨ e.s.train.state = .berthed) :
    GapKept e.s (e.on (fun s => s.berthAt measured ds), []) := .of_none (fun hs => hs (.inr hstate)) rfl

theorem State.formMembers_scan (s : State) : s.formMembers.scan = s.scan :=
  foldl_same State.formPresence State.scan (fun _ _ => by simp [State.scan]) _ _

theorem State.formMembers_mode (s : State) : s.formMembers.mode = s.mode :=
  foldl_same State.formPresence State.mode (fun _ _ => by simp) _ _

/-- A map is formed, or opened again: the train is ENABLED and the gap result PENDING (spec/02 R44, R45). -/
theorem GapKept.enabled {u : State} (hu : u.train.state = .enabled) (hmode : u.mode = s.mode) (k : EventKind) (c : Option BayIx)
    (v : Nat) (hp : p.1.s = ((u.setGap .pending).formMembers).post k c v) : GapKept s p := by
  have hscan := (u.setGap .pending).formMembers_scan
  simp only [State.scan, Prod.mk.injEq] at hscan
  obtain ⟨htrain, hgap⟩ := hscan
  refine .of_enabled ?_ ?_ ?_
  · rw [hp, State.post_train, htrain]; exact hu
  · rw [hp, State.post_gap, hgap]; rfl
  · rw [hp, State.post_mode, State.formMembers_mode]; exact hmode

theorem GapKept.openMap (e : Ev) (map : List BayIx) (excluded : List (BayIx × Reason)) (dwell : Nat) :
    GapKept e.s (e.openMap map excluded dwell) :=
  .enabled (u := { e.s with train := { e.s.train with
    map := map, state := .enabled, dwellLimit := dwell, dwellElapsed := 0, due := false, overstay := false } }) rfl rfl _ _ _ rfl

theorem GapKept.reopenMap (e : Ev) : GapKept e.s e.reopenMap :=
  .enabled (u := { e.s with train := { e.s.train with state := .enabled } }) rfl rfl _ _ _ rfl

/-- A train departs from BERTHED, with no gap result, or from CLOSING, whose scan condition is that of DEPARTING
(spec/03 R76). -/
theorem GapKept.departing (e : Ev) (k : EventKind) (c : Option BayIx) (v : Nat)
    (h : e.s.train.state = .berthed ∨ e.s.train.state = .closing) :
    GapKept e.s (e.on (fun s => ({ s with train := { s.train with state := .departing } }).post k c v), []) := by
  refine ⟨fun _ hearly => by simp at hearly, id, fun hs hf => .inl ?_⟩
  rcases h with hberthed | hclosing
  · exact .of_none (hs (.inr (.inr hberthed)))
  · have hcondition : (({ e.s with train := { e.s.train with state := .departing } } : State).post k c v).scanCondition
        = e.s.scanCondition := by
      simp [State.scanCondition, hclosing, State.bay]
    unfold GapFresh at hf ⊢
    rw [State.gapNow_eq] at hf
    rw [Ev.on_s, State.gapNow_eq, hcondition]
    exact hf

theorem GapKept.depart (e : Ev) (h : e.s.train.state = .berthed ∨ e.s.train.state = .closing) : GapKept e.s e.depart :=
  .next (.departing e _ _ _ h) (.departWatch _)

theorem GapKept.extendDwell (e : Ev) (step : Nat) : GapKept e.s (e.on (fun s => s.extendDwell step), ts) :=
  .of_start (e := e.on (fun s => ({ s with train := { s.train with
      dwellLimit := s.train.extended step, due := (s.extendFlags (s.train.extended step)).1
      overstay := (s.extendFlags (s.train.extended step)).2 } } : State).post .dwellExtended none (s.train.extended step)))
    ⟨rfl, rfl, rfl, fun _ => rfl, fun _ _ => rfl⟩ rfl (.of_stands (.compareDwell _) (State.compareDwell_mode _))

/-! ### The store -/

theorem GapKept.restartBay (e : Ev) (b : BayIx) : GapKept e.s (e.restartBay b) := by
  have hcleared : GapStands e.s (e.clearForKind b).s ∧ (e.clearForKind b).s.mode = e.s.mode := by
    unfold Ev.clearForKind
    split
    · exact ⟨.clearFrame _ _ _, rfl⟩
    · exact ⟨.refl _, rfl⟩
  have hagain : GapStands e.s ((e.clearForKind b).onBay b Bay.startedAgain).s := hcleared.1.trans (.setBay _ _ _ rfl rfl)
  rw [Ev.restartBay_eq]
  refine .of_start hagain hcleared.2 ?_
  split
  · exact (BayPart.derive _ b).gapKept (Ev.kept_derive _ b)
  · exact .examined (Ev.enter_gap _ _ _) (Ev.enter_train _ _ _) (Ev.enter_mode _ _ _) (formGap_mem_entered b)

theorem GapKept.writeBay (e : Ev) (b : BayIx) (r : BayRecord) : GapKept e.s (e.writeBay b r) := by
  have hwritten : GapStands e.s (e.s.setBayRecord b r) := .of_fields rfl rfl rfl
  simp only [Ev.writeBay]
  split
  · exact .of_start (e := e.on (fun s => s.setBayRecord b r)) hwritten rfl (.restartBay _ b)
  · exact .of_stands hwritten rfl

theorem GapKept.compareOwner (e : Ev) (before : State) (f : LineFunction) (n : LineIx) :
    GapKept e.s (e.compareOwner before f n) := by
  simp only [Ev.compareOwner]
  split
  · exact .functionChange e _ _ _
  · exact .done e

theorem GapKept.writeLine (e : Ev) (n : LineIx) (r : LineRecord) : GapKept e.s (e.writeLine n r) := by
  have hwritten : GapStands e.s (e.on (fun s => s.writeLine n r)).s ∧ (e.on (fun s => s.writeLine n r)).s.mode = e.s.mode := by
    simp only [Ev.on_s, State.writeLine]
    split
    · exact ⟨.of_fields rfl rfl rfl, rfl⟩
    · exact ⟨.of_fields rfl rfl rfl, rfl⟩
  refine .andThen (.of_start hwritten.1 hwritten.2 ?_) (fun e2 => .done e2)
  split
  · unfold Ev.receiveStanding
    split
    · exact .of_stands (.of_fields rfl rfl rfl) rfl
    · exact .done _
  · exact .andThen (.compareOwner _ _ _ _) (fun e2 => .compareOwner e2 _ _ _)

theorem GapKept.commit (e : Ev) : GapKept e.s (e.on State.commit, ts) := by
  simp only [Ev.on, State.commit]
  split <;> exact .of_stands (.of_fields rfl rfl rfl) rfl

theorem GapStands.clearTarget (s : State) : (target : Option BayIx) → GapStands s (s.clearTarget target)
  | none => .of_fields rfl rfl rfl
  | some b => .clearFrame s _ b

theorem GapStands.setTrace (s : State) (bays : Nat) (on : Bool) : GapStands s (s.setTrace bays on) := by
  refine .of_law (.setTrace s bays on) rfl (fun c => ?_)
  have hbay : (s.setTrace bays on).bay c = if inSet bays c then { s.bay c with trace := on } else s.bay c := by
    simp [State.bay, State.setTrace]
  rw [hbay]
  split <;> rfl

/-! ### Owners -/

/-- How an owner's answer begins. -/
def Answer.GapKept (s : State) (a : Answer) : Prop := Machine.GapKept s (a.ev, a.tasks)

theorem Answer.gapKept_settled (h : GapStands s t) (hmode : t.mode.mode = s.mode.mode) (content : List Byte) :
    (Answer.settled t content).GapKept s := ⟨h.early, fun hs ht => hs (hmode ▸ ht), fun _ hf => .inl (h.fresh hf)⟩

theorem Answer.gapKept_refuse (s : State) (r : Result) : (Answer.refuse s r).GapKept s := .done (Ev.start s)

theorem Answer.gapKept_event {f : Ev → Ev × List Task} (h : Machine.GapKept s (f (Ev.start s)))
    (reply : Ev → Result × List Byte) : (Answer.event s f reply).GapKept s := h

/-- An owner's event that changes nothing the table reads. -/
theorem Answer.gapKept_stand {f : State → State} (hf : GapStands s (f s)) (hmode : (f s).mode = s.mode)
    (reply : Ev → Result × List Byte) : (Answer.event s (fun e => (e.on f, [])) reply).GapKept s := .of_stands hf hmode

theorem ownerOf_gapKept (k : RequestKind) (body : List Byte) (s : State) : (ownerOf k body s).GapKept s := by
  have refuse {r : Result} : (Answer.refuse s r).GapKept s := Answer.gapKept_refuse s r
  have settled {t : State} {content : List Byte} (ht : GapStands s t) (hmode : t.mode.mode = s.mode.mode) :
      (Answer.settled t content).GapKept s := Answer.gapKept_settled ht hmode content
  have written {w : Records} {reply : Ev → Result × List Byte} :
      (Answer.event s (fun e => (e.on (fun u => u.setWorking w), [])) reply).GapKept s :=
    Answer.gapKept_stand (f := fun u => u.setWorking w) (.of_fields rfl rfl rfl) rfl _
  cases k with
  | poll | readTrain | readMap => exact settled (.refl s) rfl
  | readStatus | freezeConfig => exact settled (.of_fields rfl rfl rfl) rfl
  | prepareRestart => exact .done (Ev.start s)
  | readBays | readReleases | readConfig =>
    simp only [ownerOf, ownerReadBays, ownerReadReleases, ownerReadConfig]
    split
    · exact refuse
    · exact settled (.refl s) rfl
  | readLines | takeEvents =>
    simp only [ownerOf, ownerReadLines, ownerTakeEvents]
    split
    · exact refuse
    · exact settled (.of_fields rfl rfl rfl) rfl
  | setAttention =>
    simp only [ownerOf, ownerSetAttention]
    split
    · exact settled (.of_fields rfl rfl rfl) rfl
    · exact refuse
  | readFault =>
    simp only [ownerOf, ownerReadFault]
    split
    · exact refuse
    · next target _ _ =>
      split
      · exact settled (.clearTarget s target) (by cases target <;> rfl)
      · exact settled (.refl s) rfl
  | setTrace =>
    simp only [ownerOf, ownerSetTrace]
    split
    · exact refuse
    · exact settled (.setTrace s _ _) rfl
  | ackRelease | setOutput =>
    simp only [ownerOf, ownerAckRelease, ownerSetOutput]
    repeat' split
    · exact refuse
    · exact refuse
    · exact settled (.of_fields rfl rfl rfl) rfl
  | restart =>
    simp only [ownerOf, ownerRestart]
    split
    · exact settled (.of_fields rfl rfl rfl) rfl
    · exact refuse
  | fixGeometry =>
    simp only [ownerOf, ownerFixGeometry]
    repeat' split
    · exact refuse
    · exact refuse
    · exact settled (.of_fields rfl rfl rfl) rfl
    · exact .of_stands (.of_fields rfl rfl rfl) rfl
  | announce =>
    simp only [ownerOf, ownerAnnounce]
    repeat' split
    · exact refuse
    · exact refuse
    · exact refuse
    · next hempty _ => exact Answer.gapKept_event (.announce (Ev.start s) _ _ (by simpa using hempty)) _
  | cancel =>
    simp only [ownerOf, ownerCancel]
    split
    · exact Answer.gapKept_event (.returnEmpty (Ev.start s) _ _) _
    · exact refuse
  | berth =>
    simp only [ownerOf, ownerBerth]
    split
    · exact refuse
    · split
      · next hstate =>
        split
        · exact refuse
        · exact Answer.gapKept_event (.berthAt (Ev.start s) _ _ (by simpa using hstate)) _
      · exact refuse
  | openMap =>
    simp only [ownerOf, ownerOpenMap]
    repeat' split
    all_goals first
      | exact refuse
      | exact Answer.gapKept_event (.openMap (Ev.start s) _ _ _) _
      | exact Answer.gapKept_event (.reopenMap (Ev.start s)) _
      | exact Machine.GapKept.done (Ev.start s)
  | closeMap =>
    simp only [ownerOf, ownerCloseMap]
    repeat' split
    · exact refuse
    · exact refuse
    · exact Answer.gapKept_event (.closeTrain (Ev.start s) _ _) _
  | depart =>
    simp only [ownerOf, ownerDepart]
    split
    · next hstate =>
      repeat' split
      · exact refuse
      · exact refuse
      · exact Answer.gapKept_event (.depart (Ev.start s) (by simpa using hstate)) _
    · exact refuse
  | resume =>
    simp only [ownerOf, ownerResume]
    split
    · exact Answer.gapKept_stand (.of_fields rfl rfl rfl) rfl _
    · exact refuse
  | bayCommand =>
    simp only [ownerOf, ownerBayCommand]
    repeat' split
    · exact refuse
    · exact refuse
    · exact Answer.gapKept_event (.done (Ev.start s)) _
  | emergencyOpen => exact Answer.gapKept_event (.done (Ev.start s)) _
  | halt => exact Answer.gapKept_event (.enterHalted (Ev.start s) _) _
  | extendDwell =>
    simp only [ownerOf, ownerExtendDwell]
    repeat' split
    · exact refuse
    · exact Answer.gapKept_event (.extendDwell (Ev.start s) _) _
    · exact refuse
  | enterMaintenance =>
    simp only [ownerOf, ownerEnterMaintenance]
    repeat' split
    · exact refuse
    · exact refuse
    · exact refuse
    · have hstands : GapStands s s.enterMaintenance := .of_fields rfl rfl rfl
      exact ⟨hstands.early, fun _ => nofun, fun _ hf => .inl (hstands.fresh hf)⟩
  | leaveMaintenance =>
    simp only [ownerOf, ownerLeaveMaintenance]
    split
    · exact Answer.gapKept_event (.leaveMaintenance (Ev.start s)) _
    · exact refuse
  | writeBay =>
    simp only [ownerOf, ownerWriteBay]
    repeat' split
    · exact refuse
    · exact refuse
    · exact refuse
    · exact Answer.gapKept_event (.writeBay (Ev.start s) _ _) _
  | writeProfile | writeResponse =>
    simp only [ownerOf, ownerWriteProfile, ownerWriteResponse]
    repeat' split
    · exact refuse
    · exact refuse
    · exact refuse
    · exact written
  | eraseProfile =>
    simp only [ownerOf, ownerEraseProfile]
    split
    · exact refuse
    · exact refuse
    · exact written
  | writeLine =>
    simp only [ownerOf, ownerWriteLine]
    repeat' split
    · exact refuse
    · exact refuse
    · exact refuse
    · exact Answer.gapKept_event (.writeLine (Ev.start s) _ _) _
  | writePlatform =>
    simp only [ownerOf, ownerWritePlatform]
    split
    · exact refuse
    · exact refuse
    · exact Answer.gapKept_event (.of_stands (.of_fields rfl rfl rfl) rfl) _
  | commit =>
    simp only [ownerOf, ownerCommit]
    split
    · exact refuse
    · exact Answer.gapKept_event (.commit (Ev.start s)) _

/-! ### Requests -/

theorem Answer.GapKept.outcome {a : Answer} (h : a.GapKept s) (hs : GapPart s) (hstalled : s.stalled = false)
    (hrunning : s.mode.mode ≠ .starting) : GapPart a.outcome.s := by
  have hrun := (h.minded hs hstalled).run (h.running hrunning)
  unfold Answer.outcome
  dsimp only
  split
  · exact hrun.settle
  · exact hrun

/-- What is done after the answer's event is nothing that the table reads. -/
theorem Answer.carryOut_gapPart (a : Answer) (n : Link) (k : Byte) (h : GapPart a.outcome.s) : GapPart (a.carryOut n k) := by
  have hrecorded (u : State) (r : Result) (hu : GapPart u) : GapPart (u.recordAuthority n k r) := by
    unfold State.recordAuthority
    split
    · exact hu.of_fields rfl rfl rfl rfl rfl
    · exact hu
  have howed (u : State) (p : Bool) (r : Result) (c : List Byte) (hu : GapPart u) :
      GapPart ((u.formPins.prepare n p).owe n k r c) := by
    cases n <;> exact hu.of_fields rfl rfl rfl rfl rfl
  exact howed _ _ _ _ (hrecorded _ _ h)

theorem Answer.refuse_gapPart (r : Result) (n : Link) (k : Byte) (hs : GapPart s) :
    GapPart ((Answer.refuse s r).carryOut n k) :=
  Answer.carryOut_gapPart _ n k (by rw [Answer.outcome_refuse]; exact hs)

theorem judge_gapPart (n : Link) (k : RequestKind) (body : List Byte) (c : Byte) (hs : GapPart s) (hstalled : s.stalled = false) :
    GapPart ((judge n k body (ownerOf k) s).carryOut n c) := by
  unfold judge
  split
  · exact Answer.refuse_gapPart _ n c hs
  · next hnone =>
    have hrunning : s.mode.mode ≠ .starting := by
      intro hstarting
      simp [State.linkRefusal, hstarting] at hnone
    exact Answer.carryOut_gapPart _ n c ((ownerOf_gapKept k body s).outcome hs hstalled hrunning)

theorem GapPart.setPort (n : Link) (x : Port) (hs : GapPart s) : GapPart (s.setPort n x) :=
  hs.of_fields (by simp) (by simp) (by simp) (by simp) (by simp)

theorem GapPart.countFrame (hs : GapPart s) : GapPart s.countFrame := by
  simp only [State.countFrame]
  repeat' split
  all_goals exact hs.of_fields rfl rfl rfl rfl rfl

theorem GapPart.takeFrame (n : Link) (hs : GapPart s) : GapPart (s.takeFrame n) := by
  cases n with
  | station => exact hs.setPort .station _
  | signalling => exact (hs.setPort .signalling _).countFrame

theorem State.countFrame_stalled (s : State) : s.countFrame.stalled = s.stalled := by
  simp only [State.countFrame]
  repeat' split
  all_goals rfl

theorem State.takeFrame_stalled (s : State) (n : Link) : (s.takeFrame n).stalled = s.stalled := by
  cases n with
  | station => rfl
  | signalling => rw [State.takeFrame_signalling, State.countFrame_stalled]; rfl

theorem State.stalled_of_runs (h : s.runs = true) : s.stalled = false := by simp_all [State.runs]

theorem State.receive_gapPart (n : Link) (c : Byte) {answer : State → Answer} (hs : GapPart s)
    (h : ∀ u, GapPart u → u.stalled = false → GapPart ((answer u).carryOut n c)) : GapPart (s.receive n c answer) := by
  unfold State.receive
  split
  · exact hs
  · next hruns =>
    repeat' split
    · exact hs.setPort n _
    · exact hs.setPort .signalling _
    · refine h _ (hs.takeFrame n) ?_
      rw [State.takeFrame_stalled]
      exact State.stalled_of_runs (by simpa using hruns)

theorem State.request_gapPart (n : Link) (k : RequestKind) (body : List Byte) (hs : GapPart s) :
    GapPart (s.request n k body (ownerOf k)) :=
  State.receive_gapPart n _ hs (fun _ hu hstalled => judge_gapPart n k body _ hu hstalled)

theorem State.receiveFrame_gapPart (n : Link) (k : Byte) (body : List Byte) (hs : GapPart s) :
    GapPart (s.receiveFrame n k body) := by
  unfold State.receiveFrame
  split
  · exact State.request_gapPart n _ body hs
  · exact State.receive_gapPart n k hs (fun _ hu _ => Answer.refuse_gapPart _ n k hu)

theorem State.completeFrame_gapPart (n : Link) (length : Byte) (bytes : List Byte) (hs : GapPart s) :
    GapPart (s.completeFrame n length bytes) := by
  unfold State.completeFrame
  repeat' split
  · exact State.receiveFrame_gapPart n _ _ hs
  · exact hs.setPort n _
  · exact hs.setPort n _

/-! ### Every command, and the passing of time -/

theorem GapPart.event_if {q : Bool} (hs : GapPart s) (hactive : q = true → s.active = true) {f : Ev → Ev × List Task}
    (hf : q = true → GapKept s (f (Ev.start s))) : GapPart (if q then s.event f else s) := by
  split
  · next hq => exact (hf hq).event hs (hactive hq)
  · exact hs

theorem GapPart.beginRestart (hs : GapPart s) (p : Power) : GapPart ({ s with power := p }).beginRestart := by
  unfold State.beginRestart
  split
  · exact State.restart_gapPart _ _
  · exact hs.of_fields rfl rfl rfl rfl rfl

/-- A line is changed in something other than its filtered level. -/
theorem GapPart.setInputLine (hs : GapPart s) (l : InputLine) (x : Line) (hx : x.level = (s.inputLine l).level) :
    GapPart (s.setInputLine l x) := by
  cases l with
  | bay b i =>
    refine GapStands.part (GapStands.setBay s b { s.bay b with lines := (s.bay b).lines.put x i } rfl ?_) rfl rfl hs
    cases i with
    | gap => exact hx
    | _ => rfl
  | general n => exact hs.of_fields rfl rfl rfl rfl rfl

theorem execRawLevelChange_gapPart (l : InputLine) (high : Bool) (hs : GapPart s)
    (hmembers : ∀ b ∈ s.train.map, s.sliding b = true) : ∃ t, execRawLevelChange l high s = .next t ∧ GapPart t := by
  refine ⟨_, rfl, ?_⟩
  have hraw : GapPart (s.setRaw l high) := hs.setInputLine l _ rfl
  have hrawMembers : ∀ b ∈ (s.setRaw l high).train.map, (s.setRaw l high).sliding b = true := by
    simpa [State.setRaw] using hmembers
  split
  · exact hs
  · split
    · next hactive =>
      simp only [Bool.and_eq_true] at hactive
      unfold State.filterTakes
      repeat' split
      · exact hraw.setInputLine l _ rfl
      · refine (GapKept.filteredChange (Ev.start _) l hrawMembers).event hraw ?_
        simpa [State.setRaw] using hactive.1
      · exact hraw.setInputLine l _ rfl
    · exact hraw

theorem State.limitRow_gapPart (b : BayIx) (q : Bay → Bool) (c : FaultCode) (hs : GapPart s) : GapPart (s.limitRow b q c) := by
  unfold State.limitRow
  split
  · next x htimer => exact (GapKept.limitExpires (Ev.start s) b c x).event hs (State.phaseTimerIn_some htimer).1
  · exact hs

/-- The commands that are no requests, one by one. -/
theorem exec_other_gapPart {i : Instr} (h : requestOf i = none) (hs : GapPart s)
    (hmembers : ∀ b ∈ s.train.map, s.sliding b = true) : ∃ t, exec i s = .next t ∧ GapPart t := by
  cases i with
  | powerOn =>
    refine ⟨_, rfl, ?_⟩
    split
    · exact hs
    · exact hs.beginRestart _
  | resetNReleased =>
    refine ⟨_, rfl, ?_⟩
    split
    · exact hs.beginRestart _
    · exact hs
  | supplyOutOfRange | resetNAsserted =>
    refine ⟨_, rfl, ?_⟩
    split <;> exact hs.of_fields rfl rfl rfl rfl rfl
  | loadingEnds =>
    refine ⟨_, rfl, ?_⟩
    split
    · next hstarting =>
      simp only [Bool.and_eq_true, beq_iff_eq] at hstarting
      exact endStarting_gapPart hstarting.2 hs
    · exact hs
  | rawLevelChange l high => exact execRawLevelChange_gapPart l high hs hmembers
  | filterHoldExpires l =>
    exact ⟨_, rfl, hs.event_if (by simp +contextual) (fun _ => .filteredChange (Ev.start s) l hmembers)⟩
  | unlockLimitExpires b | openLimitExpires b | closeLimitExpires b | lockLimitExpires b =>
    exact ⟨_, rfl, State.limitRow_gapPart b _ _ hs⟩
  | warningPeriodExpires b | reopenPauseExpires b =>
    refine ⟨_, rfl, ?_⟩
    split
    · next htimer => exact (GapKept.toClosing (Ev.start s) b).event hs (State.phaseTimerIn_some htimer).1
    · exact hs
  | curtainHoldLimitExpires b =>
    refine ⟨_, rfl, ?_⟩
    split
    · next x hcap =>
      have hactive : s.active = true := by
        unfold State.capRunning at hcap
        split at hcap
        · next hw => exact (Bool.and_eq_true_iff.mp hw).1
        · exact absurd hcap nofun
      exact (GapKept.forceClosing (Ev.start s) b x).event hs hactive
    · exact hs
  | stuckTimerExpires b sensor =>
    exact ⟨_, rfl, hs.event_if (by simp +contextual) (fun _ => .markStuck (Ev.start s) b sensor)⟩
  | gapScanTimerExpires =>
    exact ⟨_, rfl, hs.event_if (by simp +contextual) (fun hq => .scanEnds (Ev.start s) (by simp_all))⟩
  | supervisionTimerExpires =>
    refine ⟨_, rfl, ?_⟩
    split
    · next x hrunning =>
      have hactive : s.active = true := by
        unfold State.supervisionRunning at hrunning
        split at hrunning
        · next ha => exact (Bool.and_eq_true_iff.mp ha).1
        · exact absurd hrunning nofun
      exact (GapKept.supervisionExpires (Ev.start s) x).event hs hactive
    · exact hs
  | dwellDue =>
    exact ⟨_, rfl, hs.event_if (by simp +contextual [State.dwellSupervised])
      (fun _ => .reachDwell (Ev.start s) (fun t => t.train.dueAt))⟩
  | dwellOverstay =>
    exact ⟨_, rfl, hs.event_if (by simp +contextual [State.dwellSupervised])
      (fun _ => .reachDwell (Ev.start s) State.overstayAt)⟩
  | recordWriteCompletes verified =>
    refine ⟨_, rfl, hs.event_if (by simp +contextual) (fun _ => ?_)⟩
    cases verified with
    | true => exact .recordPassed (Ev.start s)
    | false => exact .of_stands (.of_fields rfl rfl rfl) rfl
  | interByteGap n =>
    refine ⟨_, rfl, ?_⟩
    split
    · exact hs.setPort n _
    · exact hs
  | frameCrcMismatch n =>
    refine ⟨_, rfl, ?_⟩
    repeat' split
    · exact hs
    · exact hs.setPort n _
    · exact hs.setPort n _
  | byteWhileReplyOwed n =>
    refine ⟨_, rfl, ?_⟩
    split
    · exact hs.setPort n _
    · exact hs
  | replySent n =>
    refine ⟨_, rfl, ?_⟩
    split
    · dsimp only
      split
      · exact State.restart_gapPart _ _
      · exact hs.setPort n _
    · exact hs
  | unknownKind n k body => exact ⟨_, rfl, State.receiveFrame_gapPart n k body hs⟩
  | byteReceived n x =>
    refine ⟨_, rfl, ?_⟩
    repeat' split
    · exact hs
    · exact hs.setPort n _
    · exact hs.setPort n _
    · exact State.completeFrame_gapPart n _ _ hs
  | _ => exact absurd h (by simp [requestOf])

theorem exec_gapPart (i : Instr) (hs : GapPart s) (hmembers : ∀ b ∈ s.train.map, s.sliding b = true) :
    ∃ t, exec i s = .next t ∧ GapPart t := by
  rcases h : requestOf i with _ | ⟨n, k, body⟩
  · exact exec_other_gapPart h hs hmembers
  · exact ⟨_, exec_request h s, State.request_gapPart n k body hs⟩

/-- Time moves timers and the dwell clock alone. -/
theorem State.tick_gapPart (hs : GapPart s) : GapPart s.tick := by
  unfold State.tick
  split
  · refine GapStands.part (s := s) ⟨?_, ?_, rfl, fun c => ?_, fun c _ => ?_⟩ rfl rfl hs
    · simp only [State.count, Train.tick]; split <;> rfl
    · simp only [State.count, Train.tick]; split <;> rfl
    · rw [State.count_bay]; rfl
    · rw [State.count_bay]; rfl
  · exact hs

theorem GapLaw.part (h : GapLaw s) : GapPart s := ⟨h.early, h.starting, h.fresh⟩

/-- Every map member is SLIDING (spec/02 R36, R43). -/
theorem MapLaw.members_sliding (h : MapLaw s) : ∀ b ∈ s.train.map, s.sliding b = true := by
  intro b hb
  obtain ⟨a, ha⟩ := Option.isSome_iff_exists.mp (h.members b hb).1
  have hab : a.bay = b := by simpa using List.find?_some ha
  exact hab ▸ h.aligned a (List.mem_of_find?_eq_some ha)

/-- Settles O59: each command restarts the part, begins an event that leaves the gap result to the tasks it begins, or leaves
alone what the table reads; and the examination of the gap result is a task of every entry to a phase. -/
theorem gapLawKept : Obligations.GapLawKept := by
  intro s t hs hstep
  have hmembers := hs.mapLaw.members_sliding
  have hexec (i : Instr) (u : State) (hu : GapPart u) (hmembers : ∀ b ∈ u.train.map, u.sliding b = true)
      (h : exec i u = .next t) : GapPart t := by
    obtain ⟨t', ht, hpart⟩ := exec_gapPart i hu hmembers
    cases h.symm.trans ht
    exact hpart
  have hpart : GapPart t := by
    rcases hp : s.pending with _ | ⟨c, rest⟩
    · rcases hd : s.dueCommand with _ | c
      · cases hstep.symm.trans (step_of_none_due hp hd)
        exact State.tick_gapPart hs.part
      · exact hexec c s hs.part hmembers (step_of_due hp hd ▸ hstep)
    · have hpending : GapPart { s with pending := rest } := hs.part.of_fields rfl rfl rfl rfl rfl
      exact hexec c _ hpending hmembers (step_of_pending hp ▸ hstep)
  obtain ⟨hmap, -, -⟩ := phaseAndMapLawsKept s t hstep
  exact ⟨hmap hs.mapLaw, hpart.early, hpart.starting, hpart.fresh⟩

end

end Sys2Proof.Machine
end

section
/-! Raw levels and filters (spec/03 R56, R57): a filtered change of a line, whoever its owner, leaves every other input line, the
links, the store and supervision alone. -/

namespace Sys2Proof.Machine

section

variable {s t u : State} {e : Ev} {l : InputLine}

/-! ### One input line replaced -/

theorem State.setBay_setBay (s : State) (b : BayIx) (x y : Bay) : (s.setBay b x).setBay b y = s.setBay b y := by
  simp [State.setBay]

theorem State.setLine_setLine (s : State) (n : LineIx) (x y : GeneralLine) : (s.setLine n x).setLine n y = s.setLine n y := by
  simp [State.setLine]

theorem BayLines.put_put (l : BayLines) (x y : Line) (i : BayInput) : (l.put x i).put y i = l.put y i := by cases i <;> rfl

/-- Of two changes of an input line the second stands. -/
theorem State.setInputLine_setInputLine (s : State) (l : InputLine) (x y : Line) :
    (s.setInputLine l x).setInputLine l y = s.setInputLine l y := by
  cases l with
  | bay b i => simp only [State.setInputLine, State.bay_setBay_self, State.setBay_setBay, BayLines.put_put]
  | general n => simp only [State.setInputLine, State.line_setLine_self, State.setLine_setLine]

theorem State.setInputLine_filterClass (s : State) (l m : InputLine) (x : Line) :
    (s.setInputLine l x).filterClass m = s.filterClass m := by
  cases l <;> rfl

theorem State.setInputLine_isInput (s : State) (l m : InputLine) (x : Line) : (s.setInputLine l x).isInput m = s.isInput m := by
  cases l <;> rfl

theorem State.setInputLine_trace (s : State) (l : InputLine) (x : Line) (b : BayIx) :
    ((s.setInputLine l x).bay b).trace = (s.bay b).trace := by
  cases l with
  | bay c i =>
    by_cases hb : b = c
    · subst hb; simp [State.setInputLine]
    · simp [State.setInputLine, State.bay_setBay_ne, hb]
  | general n => rfl

/-! ### What an event leaves alone beside the lines -/

/-- An event leaves alone all that no block but its own changes: the supply, the store, the links and supervision. -/
structure AloneStands (s t : State) : Prop where
  stands : Stands s t
  links : LinksStand s t
  store : StoreStands s t
  supervision : t.supervision = s.supervision

theorem AloneStands.trans (h : AloneStands s t) (k : AloneStands t u) : AloneStands s u := by
  obtain ⟨hstation, hsignalling, hpreparation⟩ := h.links
  obtain ⟨kstation, ksignalling, kpreparation⟩ := k.links
  exact ⟨h.stands.trans k.stands, ⟨kstation.trans hstation, ksignalling.trans hsignalling, kpreparation.trans hpreparation⟩,
    StoreStands.trans h.store k.store, k.supervision.trans h.supervision⟩

theorem AloneStands.setInputLine (s : State) (l : InputLine) (x : Line) : AloneStands s (s.setInputLine l x) where
  stands :=
    { power := by simp, uptime := by simp, area := by simp, frozen := by simp, pending := by simp, restartCause := by simp
      restartAccepted := by simp, mask := by simp, authority := by simp, trace := s.setInputLine_trace l x
      freeCount := by simp }
  links := ⟨by simp, by simp, by simp⟩
  store := by unfold StoreStands; rw [State.setInputLine_store]
  supervision := by simp

/-- The same, and every input line. -/
structure FieldStands (s t : State) : Prop extends AloneStands s t where
  inputs : ∀ m, t.inputLine m = s.inputLine m

theorem State.inputLine_congr (h : LinesStand s t) (m : InputLine) : t.inputLine m = s.inputLine m := by
  cases m with
  | bay b i => simp only [State.inputLine, h.2]
  | general n => simp only [State.inputLine, State.line, h.1]

theorem FieldStands.of_kept (h : t.kept = s.kept) : FieldStands s t := by
  have hk := State.kept_same h
  have hstore := State.kept_store hk
  refine ⟨⟨⟨State.kept_power hk, State.kept_uptime hk, by rw [hstore], by rw [hstore], State.kept_pending hk,
    State.kept_restartCause hk, State.kept_restartAccepted hk, State.kept_mask hk, State.kept_authority hk,
    State.kept_trace hk, State.kept_freeCount hk⟩, ⟨State.kept_station hk, State.kept_signalling hk,
    State.kept_preparation hk⟩, by unfold StoreStands; rw [hstore], State.kept_supervision hk⟩, ?_⟩
  exact State.inputLine_congr ⟨State.kept_lines hk, State.kept_bayLines hk⟩

theorem FieldStands.finish (e : Ev) (ts : List Task) : FieldStands e.s (e.finish ts).s := by
  obtain ⟨hstands, hstore, hlinks, hlines, hsupervision⟩ := e.finish_stands ts
  exact ⟨⟨hstands, hlinks, hstore, hsupervision⟩, State.inputLine_congr hlines⟩

theorem FieldStands.trans (h : FieldStands s t) (k : FieldStands t u) : FieldStands s u :=
  ⟨h.toAloneStands.trans k.toAloneStands, fun m => (k.inputs m).trans (h.inputs m)⟩

/-! ### The owners of a filtered change -/

theorem Ev.kept_berthSensor (e : Ev) (n : LineIx) : (e.berthSensor n).1.s.kept = e.s.kept := by
  unfold Ev.berthSensor
  repeat' split
  all_goals first | rfl | exact Ev.kept_departWatch e | exact State.kept_post _ _ _ _

theorem State.generalEdge_inputs (s : State) (n : LineIx) (m : InputLine) : (s.generalEdge n).inputLine m = s.inputLine m := by
  have hset (k : EventKind) (v : Nat) :
      ((s.setLine n { s.line n with changeLatch := true }).post k none v).inputLine m = s.inputLine m := by
    cases m with
    | bay b i => rfl
    | general k =>
      by_cases hk : k = n
      · subst hk
        have hline := congrArg GeneralLine.line (State.line_setLine_self s k { s.line k with changeLatch := true })
        exact hline
      · exact congrArg GeneralLine.line (State.line_setLine_ne s n k _ hk)
  simp only [State.generalEdge]
  repeat' split
  all_goals first | rfl | exact hset _ _

theorem FieldStands.generalEdge (s : State) (n : LineIx) : FieldStands s (s.generalEdge n) := by
  refine ⟨?_, s.generalEdge_inputs n⟩
  simp only [State.generalEdge]
  repeat' split
  all_goals exact ⟨⟨rfl, rfl, rfl, rfl, rfl, rfl, rfl, by simp, by simp, fun _ => rfl, rfl⟩, ⟨rfl, rfl, rfl⟩, rfl, rfl⟩

theorem FieldStands.functionChange (e : Ev) (f : LineFunction) (level : Bool) (n : LineIx) :
    FieldStands e.s (e.functionChange f level n).1.s := by
  cases f with
  | bypassKey =>
    exact ⟨⟨⟨rfl, rfl, rfl, rfl, rfl, rfl, rfl, by simp [Ev.functionChange], by simp [Ev.functionChange], fun _ => rfl, rfl⟩,
      ⟨rfl, rfl, rfl⟩, rfl, rfl⟩, fun m => by cases m <;> rfl⟩
  | keyReset =>
    simp only [Ev.functionChange]
    split
    · exact .of_kept (Ev.kept_fireReset e)
    · exact .of_kept rfl
  | maintenanceKey =>
    simp only [Ev.functionChange]
    split
    · exact .of_kept (Ev.kept_leaveMaintenance e)
    · exact .of_kept rfl
  | _ => exact .of_kept rfl

theorem FieldStands.generalChange (e : Ev) (n : LineIx) : FieldStands e.s (e.generalChange n).1.s := by
  unfold Ev.generalChange
  split
  · exact .of_kept (e.kept_berthSensor n)
  · exact .generalEdge e.s n
  · exact .functionChange e _ _ n

theorem FieldStands.filteredChange (e : Ev) : (l : InputLine) →
    FieldStands (e.s.changeLevel l) (e.filteredChange l).1.s
  | .bay b i => .of_kept (Ev.kept_bayInput (e.on (fun s => s.changeLevel (.bay b i))) b i)
  | .general n => .generalChange (e.on (fun s => s.changeLevel (.general n))) n

/-- The event of a filtered change leaves every input line as the change itself left it. -/
theorem FieldStands.filteredEvent (s : State) (l : InputLine) :
    FieldStands (s.changeLevel l) (s.event (fun e => e.filteredChange l)) :=
  (FieldStands.filteredChange (Ev.start s) l).trans (.finish _ _)

/-- The filtered level of a line changes, with all that its owner makes of it. -/
theorem State.filteredEvent_changes (s : State) (l : InputLine) :
    (s.event (fun e => e.filteredChange l)).inputLine l
        = { raw := (s.inputLine l).raw, level := !(s.inputLine l).level, candidate := none }
      ∧ OtherLinesStand l s (s.event (fun e => e.filteredChange l))
      ∧ AloneStands s (s.event (fun e => e.filteredChange l)) := by
  have hevent := FieldStands.filteredEvent s l
  refine ⟨?_, fun m hm => ?_, (AloneStands.setInputLine s l _).trans hevent.toAloneStands⟩
  · rw [hevent.inputs, State.changeLevel, State.inputLine_setInputLine_self]
  · rw [hevent.inputs, State.changeLevel, State.inputLine_setInputLine_ne _ _ _ _ hm]

/-! ### RAW_LEVEL_CHANGE -/

/-- A new raw level of a line that is read comes to the line's filter. -/
theorem exec_rawLevelChange_input {high : Bool} (hraw : (s.inputLine l).raw ≠ high) (hactive : s.active = true)
    (hinput : s.isInput l = true) : exec (.rawLevelChange l high) s = .next ((s.setRaw l high).filterTakes l) := by
  simp [exec, execRawLevelChange, hraw, hactive, hinput]

theorem exec_rawLevelChange_unread {high : Bool} (hraw : (s.inputLine l).raw ≠ high)
    (hunread : s.active = false ∨ s.isInput l = false) : exec (.rawLevelChange l high) s = .next (s.setRaw l high) := by
  rcases hunread with h | h <;> simp [exec, execRawLevelChange, hraw, h]

/-- The candidate of the filter whose raw level has just changed. -/
theorem State.setCandidate_setRaw (s : State) (l : InputLine) (high : Bool) (c : Option Timer) :
    (s.setRaw l high).setCandidate l c =
      s.setInputLine l { raw := high, level := (s.inputLine l).level, candidate := c } := by
  simp only [State.setCandidate, State.setRaw, State.inputLine_setInputLine_self, State.setInputLine_setInputLine]

theorem State.setRaw_level (s : State) (l : InputLine) (high : Bool) :
    ((s.setRaw l high).inputLine l).level = (s.inputLine l).level := by
  rw [State.setRaw, State.inputLine_setInputLine_self]

theorem State.setRaw_holdTime (s : State) (l : InputLine) (high : Bool) :
    ((s.setRaw l high).filterClass l).holdTime = (s.filterClass l).holdTime := by
  rw [State.setRaw, State.setInputLine_filterClass]

/-- Settles O6: the filter by the level it comes to, and the change it makes in the end. -/
theorem filtersTakeTheLevelsOfLines : Obligations.FiltersTakeTheLevelsOfLines := by
  refine ⟨⟨⟨rfl, rfl, rfl, rfl⟩, fun l high s => ⟨fun hraw => ?_, fun hraw => ⟨?_, fun hactive hinput => ?_⟩⟩⟩,
    fun l s => ⟨fun hruns => ?_, fun hruns => ?_⟩⟩
  · simp [exec, execRawLevelChange, hraw]
  · exact exec_rawLevelChange_unread hraw
  · rw [exec_rawLevelChange_input hraw hactive hinput, State.filterTakes, State.setRaw_level, State.setRaw_holdTime]
    refine ⟨fun hlevel : (s.setRaw l high).logicalLevel l = (s.inputLine l).level => ?_,
      fun hlevel : (s.setRaw l high).logicalLevel l ≠ (s.inputLine l).level => ⟨fun hhold => ?_, fun hhold => ?_⟩⟩
    · rw [if_pos (beq_iff_eq.mpr hlevel), State.setCandidate_setRaw]
    · rw [if_neg (by rwa [beq_iff_eq]), if_neg (by rwa [beq_iff_eq]), State.setCandidate_setRaw]
      rfl
    · rw [if_neg (by rwa [beq_iff_eq]), if_pos (beq_iff_eq.mpr hhold)]
      obtain ⟨hline, hothers, halone⟩ := (s.setRaw l high).filteredEvent_changes l
      have hall := (AloneStands.setInputLine s l { s.inputLine l with raw := high }).trans halone
      rw [State.setRaw_level] at hline
      refine ⟨_, rfl, ?_, fun m hm => ?_, hall.stands, hall.links, hall.store, hall.supervision⟩
      · rw [hline, State.setRaw, State.inputLine_setInputLine_self]
      · rw [hothers m hm, State.setRaw, State.inputLine_setInputLine_ne _ _ _ _ hm]
  · obtain ⟨hline, hothers, halone⟩ := s.filteredEvent_changes l
    exact ⟨_, exec_filterHoldExpires hruns, hline, hothers, halone.stands, halone.links, halone.store, halone.supervision⟩
  · have hidle : (s.active && s.isInput l && (s.inputLine l).candidate.isSome) = false := by
      rw [Bool.eq_false_iff]
      intro h
      simp only [Bool.and_eq_true] at h
      exact hruns ⟨h.1.1, h.1.2, h.2⟩
    simp [exec, execFilterHoldExpires, hidle]

end

end Sys2Proof.Machine
end

section
/-! The tasks of bays, which set no fire latch and hand on the effects of bay codes alone; and the fire latch, set or cleared, with
the tasks that follow (spec/05 R107 to R112). -/

namespace Sys2Proof.Machine

/-! ### The tasks of bays -/

/-- The tasks that an event of bays, of the fire latch or of the mode begins, and all that they begin in turn: their codes are
bay codes, and their effects those that the response table gives these codes. -/
def Task.OfBays (s : State) : Task → Prop
  | .raise _ c _ | .raiseAtEntry _ c _ => c ∈ FaultCode.bayCodes
  | .effect p c => c ∈ FaultCode.bayCodes ∧ p = (s.response c).platformEffect
  | .formGap | .presence _ | .arrive _ | .obstruct _ _ | .conflict _ | .openMember _ _ | .closeMember _ _ | .haltStop _
  | .fireOpen _ | .fireRelease _ | .fireBack _ | .fireClose _ | .fireUndo _ | .linkLoss _ | .exitClose _ | .command _ _ => True
  | .fireSet _ | .raiseFace _ _ | .postExpired _ | .departWatch => False

section

variable {s t : State} {e : Ev} {b : BayIx} {ts us : List Task} {u : Task} {p : Ev × List Task}

theorem Task.OfBays.of_kept (h : u.OfBays s) (hkept : t.kept = s.kept) : u.OfBays t := by
  have hresponse (c : FaultCode) : t.response c = s.response c := by
    simp only [State.response, State.kept_store (State.kept_same hkept)]
  cases u <;> simp_all [Task.OfBays]

theorem ofBays_append (hts : ∀ u ∈ ts, u.OfBays s) (hus : ∀ u ∈ us, u.OfBays s) : ∀ u ∈ ts ++ us, u.OfBays s :=
  fun u hu => (List.mem_append.mp hu).elim (hts u) (hus u)

theorem ofBays_map {f : BayIx → Task} (h : ∀ b, (f b).OfBays s) (bs : List BayIx) : ∀ u ∈ bs.map f, u.OfBays s := by
  simpa using fun b _ => h b

theorem ofBays_entered (s : State) (b : BayIx) : ∀ u ∈ entered b, u.OfBays s := by simp [entered, Task.OfBays]

theorem ofBays_nil (s : State) : ∀ u ∈ ([] : List Task), u.OfBays s := nofun

/-! ### What each of them begins -/

theorem Ev.openClaim_ofBays (e : Ev) (b : BayIx) : ∀ u ∈ (e.openClaim b).2, u.OfBays s := by
  unfold Ev.openClaim
  split
  · exact ofBays_entered s b
  · exact ofBays_nil s
  · exact ofBays_nil s

theorem Ev.closeClaim_ofBays (e : Ev) (b : BayIx) : ∀ u ∈ (e.closeClaim b).2, u.OfBays s := by
  simp only [Ev.closeClaim]
  split
  · exact ofBays_entered s b
  · exact ofBays_nil s
  · exact ofBays_nil s

theorem Ev.stopBay_ofBays (e : Ev) (b : BayIx) : ∀ u ∈ (e.stopBay b).2, u.OfBays s := by
  unfold Ev.stopBay
  split
  · exact ofBays_entered s b
  · exact ofBays_nil s

theorem Ev.handOpen_ofBays (e : Ev) (b : BayIx) : ∀ u ∈ (e.handOpen b).2, u.OfBays s := by
  unfold Ev.handOpen
  repeat' split
  · exact ofBays_nil s
  · exact ofBays_nil s
  · exact e.openClaim_ofBays b

theorem Ev.openMember_ofBays (e : Ev) (again : Bool) (b : BayIx) : ∀ u ∈ (e.openMember again b).2, u.OfBays s := by
  unfold Ev.openMember
  repeat' split
  all_goals first | exact e.handOpen_ofBays b | exact ofBays_nil s

theorem Ev.closeMember_ofBays (e : Ev) (reported : Bool) (b : BayIx) : ∀ u ∈ (e.closeMember reported b).2, u.OfBays s := by
  simp only [Ev.closeMember]
  repeat' split
  all_goals first | exact e.closeClaim_ofBays b | exact ofBays_nil s

theorem Ev.obstruct_ofBays (e : Ev) (atEntry : Bool) (b : BayIx) : ∀ u ∈ (e.obstruct atEntry b).2, u.OfBays s := by
  simp only [Ev.obstruct]
  split
  · exact ofBays_nil s
  · split
    · exact ofBays_entered s b
    · cases atEntry <;> simp [Task.OfBays, FaultCode.bayCodes]

theorem Ev.entryChecks_ofBays (e : Ev) (b : BayIx) : ∀ u ∈ (e.entryChecks b).2, u.OfBays s := by
  simp only [Ev.entryChecks]
  split
  · exact ofBays_entered s b
  · repeat' split
    all_goals simp [Task.OfBays, FaultCode.bayCodes]

theorem Ev.arrive_ofBays (e : Ev) (b : BayIx) : ∀ u ∈ (e.arrive b).2, u.OfBays s := by
  have hjudged (e' : Ev) : ∀ u ∈ (if e'.s.sliding b then e'.entryChecks b else (e', [])).2, u.OfBays s := by
    split
    · exact e'.entryChecks_ofBays b
    · exact ofBays_nil s
  unfold Ev.arrive
  split
  · exact hjudged _
  · exact ofBays_nil s

theorem Ev.presence_ofBays (e : Ev) (b : BayIx) : ∀ u ∈ (e.presence b).2, u.OfBays s := by
  simp only [Ev.presence]
  split <;> simp [Task.OfBays]

theorem Ev.raiseConflict_ofBays (e : Ev) (b : BayIx) : ∀ u ∈ (e.raiseConflict b).2, u.OfBays s := by
  simp only [Ev.raiseConflict]
  split <;> simp [Task.OfBays, FaultCode.bayCodes]

theorem Ev.raise_ofBays (e : Ev) (b : BayIx) {c : FaultCode} (d : Nat) (hc : c ∈ FaultCode.bayCodes) :
    ∀ u ∈ (e.raise b c d).2, u.OfBays e.s := by
  have heffect : ∀ u ∈ [Task.effect (e.s.response c).platformEffect c], u.OfBays e.s := by simp [Task.OfBays, hc]
  have hentered := ofBays_append heffect (ofBays_entered e.s b)
  simp only [Ev.raise]
  split
  · simp only [Ev.raiseNested]
    repeat' split
    · exact ofBays_nil e.s
    · exact heffect
    · exact ofBays_nil e.s
  · repeat' split
    · exact hentered
    · exact hentered
    · exact heffect
    · exact hentered

theorem Ev.raiseAtEntry_ofBays (e : Ev) (b : BayIx) {c : FaultCode} (d : Nat) (hc : c ∈ FaultCode.bayCodes) :
    ∀ u ∈ (e.raiseAtEntry b c d).2, u.OfBays e.s := by
  refine ofBays_append (e.raise_ofBays b d hc) ?_
  split <;> simp [Task.OfBays]

theorem Ev.derive_ofBays (e : Ev) (b : BayIx) : ∀ u ∈ (e.derive b).2, u.OfBays e.s := by
  have hnext : ∀ u ∈ entered b ++ [.fireBack b], u.OfBays e.s := ofBays_append (ofBays_entered e.s b) (by simp [Task.OfBays])
  simp only [Ev.derive]
  split
  · exact hnext
  · exact List.forall_mem_cons.mpr ⟨⟨by simp [FaultCode.bayCodes], rfl⟩, hnext⟩
  all_goals exact hnext

theorem Ev.deriveBack_ofBays (e : Ev) (b : BayIx) : ∀ u ∈ ((e.on (fun s => s.restoreBay b)).derive b).2, u.OfBays e.s :=
  fun u hu => (Ev.derive_ofBays _ b u hu).of_kept (State.kept_restoreBay e.s b).symm

theorem Ev.fireBack_ofBays (e : Ev) (b : BayIx) : ∀ u ∈ (e.fireBack b).2, u.OfBays s := by
  simp only [Ev.fireBack]
  repeat' split
  · exact ofBays_nil s
  · exact ofBays_entered s b
  · exact e.openClaim_ofBays b

theorem Ev.linkLoss_ofBays (e : Ev) (b : BayIx) : ∀ u ∈ (e.linkLoss b).2, u.OfBays s := by
  simp only [Ev.linkLoss]
  repeat' split
  all_goals first | exact e.closeClaim_ofBays b | exact e.stopBay_ofBays b | exact ofBays_nil s

theorem Ev.act_ofBays (e : Ev) (a : BayAction) (b : BayIx) : ∀ u ∈ (e.act a b).2, u.OfBays e.s := by
  cases a with
  | opens => exact e.openClaim_ofBays b
  | closes => exact e.closeClaim_ofBays b
  | stop => exact e.stopBay_ofBays b
  | hold | free => exact ofBays_nil e.s
  | isolate => exact ofBays_entered e.s b
  | restore => exact ofBays_append (ofBays_entered e.s b) (by simp [Task.OfBays])
  | clearFault => exact fun u hu => (Ev.derive_ofBays _ b u hu).of_kept (State.kept_clearFrame e.s .clearFault b).symm

theorem Ev.enterHalted_ofBays (e : Ev) (c : HaltCause) : ∀ u ∈ (e.enterHalted c).2, u.OfBays s := by
  unfold Ev.enterHalted
  split
  · exact ofBays_nil s
  · refine ofBays_append (ofBays_map (f := .haltStop) (fun _ => trivial) _) ?_
    split
    · exact ofBays_map (f := .fireRelease) (fun _ => trivial) _
    · exact ofBays_nil s

theorem Ev.effect_ofBays (e : Ev) (p : PlatformEffect) (c : FaultCode) : ∀ u ∈ (e.effect p c).2, u.OfBays s := by
  cases p with
  | none => exact ofBays_nil s
  | closeMap =>
    simp only [Ev.effect, Ev.closeMapEffect]
    split
    · exact List.forall_mem_cons.mpr ⟨trivial, ofBays_map (f := .closeMember false) (fun _ => trivial) _⟩
    · exact ofBays_nil s
  | halt => exact e.enterHalted_ofBays _

theorem Ev.formGap_ofBays (e : Ev) : ∀ u ∈ e.formGap.2, u.OfBays s := by
  unfold Ev.formGap
  split
  · exact ofBays_nil s
  · exact ofBays_map (f := .presence) (fun _ => trivial) _

/-- They begin tasks of bays alone. -/
theorem Task.OfBays.tasks (h : u.OfBays e.s) : ∀ v ∈ (u.perform e).2, v.OfBays e.s := by
  cases u with
  | formGap => exact e.formGap_ofBays
  | presence b => exact e.presence_ofBays b
  | arrive b => exact e.arrive_ofBays b
  | obstruct atEntry b => exact e.obstruct_ofBays atEntry b
  | conflict b => exact e.raiseConflict_ofBays b
  | raise b c d => exact e.raise_ofBays b d h
  | raiseAtEntry b c d => exact e.raiseAtEntry_ofBays b d h
  | effect p c => exact e.effect_ofBays p c
  | openMember again b => exact e.openMember_ofBays again b
  | closeMember reported b => exact e.closeMember_ofBays reported b
  | haltStop b => exact e.stopBay_ofBays b
  | fireOpen b =>
    simp only [Task.perform, Ev.fireOpen]
    split
    · exact e.openClaim_ofBays b
    · exact ofBays_nil e.s
  | fireRelease b =>
    simp only [Task.perform, Ev.fireRelease]
    split
    · exact ofBays_entered e.s b
    · exact ofBays_nil e.s
  | fireBack b => exact e.fireBack_ofBays b
  | fireClose b =>
    simp only [Task.perform, Ev.fireClose]
    split
    · exact e.closeClaim_ofBays b
    · exact ofBays_nil e.s
  | fireUndo b =>
    simp only [Task.perform, Ev.fireUndo]
    split
    · exact e.deriveBack_ofBays b
    · exact ofBays_nil e.s
  | linkLoss b => exact e.linkLoss_ofBays b
  | exitClose b =>
    simp only [Task.perform, Ev.exitClose]
    split
    · exact e.closeClaim_ofBays b
    · exact ofBays_nil e.s
  | command a b =>
    simp only [Task.perform, Ev.command]
    split
    · exact ofBays_nil e.s
    · exact Ev.act_ofBays { e with accepted := e.accepted ++ [b] } a b
  | fireSet _ | raiseFace _ _ | postExpired _ | departWatch => exact h.elim

/-- Each of them acts on one bay, but for the examination of the gap result and a platform effect. -/
theorem Task.OfBays.part (h : u.OfBays e.s) :
    BayPart e (u.perform e) ∨ u = .formGap
      ∨ ∃ p c, u = .effect p c ∧ c ∈ FaultCode.bayCodes ∧ p = (e.s.response c).platformEffect := by
  cases u with
  | formGap => exact .inr (.inl rfl)
  | effect p c => exact .inr (.inr ⟨p, c, rfl, h⟩)
  | presence b => exact .inl (.presence e b)
  | arrive b => exact .inl (.arrive e b)
  | obstruct atEntry b => exact .inl (.obstruct e atEntry b)
  | conflict b => exact .inl (.raiseConflict e b)
  | raise b c d => exact .inl (.raise e b c d)
  | raiseAtEntry b c d => exact .inl (.raiseAtEntry e b c d)
  | openMember again b => exact .inl (.openMember e again b)
  | closeMember reported b => exact .inl (.closeMember e reported b)
  | haltStop b => exact .inl (.stopBay e b)
  | fireOpen b => exact .inl (.fireOpen e b)
  | fireRelease b => exact .inl (.fireRelease e b)
  | fireBack b => exact .inl (.fireBack e b)
  | fireClose b => exact .inl (.fireClose e b)
  | fireUndo b => exact .inl (.fireUndo e b)
  | linkLoss b => exact .inl (.linkLoss e b)
  | exitClose b => exact .inl (.exitClose e b)
  | command a b => exact .inl (.command e a b)
  | fireSet _ | raiseFace _ _ | postExpired _ | departWatch => exact h.elim

/-! ### What they leave alone -/

theorem Ev.formGap_phases (e : Ev) (b : BayIx) : (e.formGap.1.s.bay b).phase = (e.s.bay b).phase := by
  unfold Ev.formGap
  split
  · rfl
  · simp only [Ev.setGap, Ev.on_s, State.bay, State.setGap_bays]

theorem Ev.formGap_latch (e : Ev) : e.formGap.1.s.release.latch = e.s.release.latch := (Follows.formGap e).latch

theorem Ev.effect_phases (e : Ev) (p : PlatformEffect) (c : FaultCode) (b : BayIx) :
    ((e.effect p c).1.s.bay b).phase = (e.s.bay b).phase := by
  cases p with
  | none => rfl
  | closeMap =>
    simp only [Ev.effect, Ev.closeMapEffect]
    split <;> rfl
  | halt =>
    simp only [Ev.effect, Ev.enterHalted]
    split <;> rfl

/-- Where an effect brings HALTED, every bay is about to stop (spec/08 R151). -/
theorem Ev.effect_halts (e : Ev) (p : PlatformEffect) (c : FaultCode) (h : e.s.mode.mode ≠ .halted) :
    (e.effect p c).1.s.mode.mode ≠ .halted ∨ ∀ b, .haltStop b ∈ (e.effect p c).2 := by
  cases p with
  | none => exact .inl h
  | closeMap =>
    refine .inl ?_
    simp only [Ev.effect, Ev.closeMapEffect]
    split <;> exact h
  | halt =>
    refine .inr fun b => ?_
    have hrunning : (e.s.mode.mode == .halted) = false := beq_eq_false_iff_ne.mpr h
    simp only [Ev.effect, Ev.enterHalted, hrunning, Bool.false_eq_true, if_false]
    exact List.mem_append_left _ (List.mem_map_of_mem (mem_allBays b))

theorem Task.OfBays.latch (h : u.OfBays e.s) : (u.perform e).1.s.release.latch = e.s.release.latch := by
  rcases h.part with hpart | rfl | ⟨p, c, rfl, -, -⟩
  · exact hpart.latch
  · exact e.formGap_latch
  · exact (Follows.effect e p c).latch

/-- Tasks of bays, to their end or to the bound, neither set nor clear the fire latch. -/
theorem run_latch (n : Nat) (ts : List Task) (e : Ev) (h : ∀ u ∈ ts, u.OfBays e.s) :
    (run n ts e).s.release.latch = e.s.release.latch := by
  induction n generalizing ts e with
  | zero => cases ts <;> rfl
  | succ n ih =>
    cases ts with
    | nil => rfl
    | cons t ts =>
      have ht := h t List.mem_cons_self
      rw [run_cons, ih _ _ (fun u hu => ?_), ht.latch]
      exact Task.OfBays.of_kept (ofBays_append ht.tasks (fun v hv => h v (List.mem_cons_of_mem t hv)) u hu)
        (Task.kept_perform t e)

theorem Ev.finish_latch (e : Ev) (h : ∀ u ∈ ts, u.OfBays e.s) : (e.finish ts).s.release.latch = e.s.release.latch := by
  rw [Ev.finish, Ev.on_s, State.settle_latch, run_latch _ _ _ h]

/-- Where no bay code hands an effect on, they leave the mode alone. -/
theorem Task.OfBays.mode (h : u.OfBays e.s) (hhands : BayCodesHandNothing e.s) : (u.perform e).1.s.mode = e.s.mode := by
  rcases h.part with hpart | rfl | ⟨p, c, rfl, hc, hp⟩
  · exact hpart.mode
  · exact e.formGap_mode
  · rw [hhands c hc] at hp
    rw [hp]
    rfl

theorem BayCodesHandNothing.of_kept (h : BayCodesHandNothing s) (hkept : t.kept = s.kept) : BayCodesHandNothing t := by
  intro c hc
  rw [← h c hc]
  simp only [State.response, State.kept_store (State.kept_same hkept)]

theorem run_mode (n : Nat) (ts : List Task) (e : Ev) (h : ∀ u ∈ ts, u.OfBays e.s) (hhands : BayCodesHandNothing e.s) :
    (run n ts e).s.mode = e.s.mode := by
  induction n generalizing ts e with
  | zero => cases ts <;> rfl
  | succ n ih =>
    cases ts with
    | nil => rfl
    | cons t ts =>
      have ht := h t List.mem_cons_self
      have hkept := Task.kept_perform t e
      rw [run_cons, ih _ _ (fun u hu => ?_) (hhands.of_kept hkept), ht.mode hhands]
      exact Task.OfBays.of_kept (ofBays_append ht.tasks (fun v hv => h v (List.mem_cons_of_mem t hv)) u hu) hkept

theorem Ev.finish_mode (e : Ev) (h : ∀ u ∈ ts, u.OfBays e.s) (hhands : BayCodesHandNothing e.s) :
    (e.finish ts).s.mode = e.s.mode := by
  rw [Ev.finish, Ev.on_s, State.settle_mode, run_mode _ _ _ h hhands]

/-! ### The fire latch set -/

/-- With the latch set, a bay that still closes is about to be stopped, released or opened. -/
structure FirePending (ts : List Task) (e : Ev) : Prop where
  fire : e.s.fire = true
  tasks : ∀ u ∈ ts, u.OfBays e.s
  shuts : ∀ b, e.s.sliding b = true → (e.s.bay b).phase.shuts = true →
    .haltStop b ∈ ts ∨ .fireRelease b ∈ ts ∨ e.s.mode.mode ≠ .halted ∧ .fireOpen b ∈ ts

theorem Phase.isMoving_of_shuts {q : Phase} (h : q.shuts = true) : q.isMoving = true := by
  cases q <;> first | rfl | exact absurd h nofun

/-- A SLIDING bay that has been stopped closes no more. -/
theorem Ev.stopBay_ends (hk : e.s.sliding b = true) : ((e.stopBay b).1.s.bay b).phase.shuts = false := by
  unfold Ev.stopBay
  split
  · rw [Ev.enter_bay_self]; rfl
  · next hstill =>
    rw [Bool.eq_false_iff]
    exact fun hs => hstill (by rw [hk, Phase.isMoving_of_shuts hs]; rfl)

theorem Ev.fireRelease_ends (hk : e.s.sliding b = true) : ((e.fireRelease b).1.s.bay b).phase.shuts = false := by
  have hreleased : ((e.enterReleased b .fireUnlock).s.bay b).phase = .released :=
    (congrFun (congrArg Outlook.phase (Ev.outlook_enterReleased e b .fireUnlock)) b).trans (Function.update_self _ _ _)
  simp only [Ev.fireRelease]
  split
  · rw [hreleased]; rfl
  · next hpassed =>
    rw [Bool.eq_false_iff]
    intro hs
    refine hpassed ?_
    cases hphase : (e.s.bay b).phase <;> simp_all [Phase.shuts]

/-- The fire opening of a SLIDING bay that closes, outside HALTED (spec/05 R107). -/
theorem Ev.fireOpen_ends (hk : e.s.sliding b = true) (hmode : e.s.mode.mode ≠ .halted) (hs : (e.s.bay b).phase.shuts = true) :
    ((e.fireOpen b).1.s.bay b).phase.shuts = false := by
  have hjudged : e.s.judgeOpen b = .moves .opening := by
    cases hphase : (e.s.bay b).phase <;> simp_all [State.judgeOpen, Phase.shuts]
  have hclaims : e.fireOpen b = e.openClaim b := by
    cases hphase : (e.s.bay b).phase <;> simp_all [Ev.fireOpen, Phase.shuts]
  rw [hclaims, Ev.openClaim, hjudged, Ev.enter_bay_self]
  rfl

theorem Task.OfBays.shuts (h : u.OfBays e.s) (hfire : e.s.fire = true)
    (hs : ((u.perform e).1.s.bay b).phase.shuts = true) : (e.s.bay b).phase.shuts = true := by
  rcases h.part with hpart | rfl | ⟨p, c, rfl, -, -⟩
  · exact hpart.shuts hfire hs
  · rwa [Task.perform, Ev.formGap_phases] at hs
  · rwa [Task.perform, Ev.effect_phases] at hs

/-- Outside HALTED a task of bays leaves the mode so, or has every bay stopped. -/
theorem Task.OfBays.halts (h : u.OfBays e.s) (hmode : e.s.mode.mode ≠ .halted) :
    (u.perform e).1.s.mode.mode ≠ .halted ∨ ∀ b, .haltStop b ∈ (u.perform e).2 := by
  rcases h.part with hpart | rfl | ⟨p, c, rfl, -, -⟩
  · exact .inl (by rwa [hpart.mode])
  · exact .inl (by rwa [Task.perform, Ev.formGap_mode])
  · exact e.effect_halts p c hmode

theorem FirePending.perform (u : Task) (ts : List Task) (e : Ev) (h : FirePending (u :: ts) e) :
    FirePending ((u.perform e).2 ++ ts) (u.perform e).1 := by
  have hu := h.tasks u List.mem_cons_self
  have hkept := Task.kept_perform u e
  refine ⟨?_, fun v hv => ?_, fun b hk hs => ?_⟩
  · rw [State.fire, hu.latch]
    exact h.fire
  · exact Task.OfBays.of_kept (ofBays_append hu.tasks (fun w hw => h.tasks w (List.mem_cons_of_mem u hw)) v hv) hkept
  · rw [State.kept_sliding (State.kept_same hkept)] at hk
    have hbefore := hu.shuts h.fire hs
    have still {v : Task} (hv : v ∈ u :: ts) (hends : u = v → False) : v ∈ (u.perform e).2 ++ ts :=
      List.mem_append_right _ ((List.mem_cons.mp hv).resolve_left (fun heq => hends heq.symm))
    have ended (h : ((u.perform e).1.s.bay b).phase.shuts = false) : False := by
      rw [h] at hs; exact absurd hs nofun
    rcases h.shuts b hk hbefore with hmem | hmem | ⟨hmode, hmem⟩
    · exact .inl (still hmem (by rintro rfl; exact ended (Ev.stopBay_ends hk)))
    · exact .inr (.inl (still hmem (by rintro rfl; exact ended (Ev.fireRelease_ends hk))))
    · rcases hu.halts hmode with hrunning | hstops
      · exact .inr (.inr ⟨hrunning, still hmem (by rintro rfl; exact ended (Ev.fireOpen_ends hk hmode hbefore))⟩)
      · exact .inl (List.mem_append_left _ (hstops b))

theorem FireLaw.of_shuts (h : ∀ b, s.sliding b = true → (s.bay b).phase.shuts ≠ true) : FireLaw s := by
  intro _ _ b hk
  have hopen := h b hk
  refine ⟨?_, ?_, ?_⟩ <;>
  · intro hphase
    rw [hphase] at hopen
    exact hopen rfl

theorem State.settle_sliding (s : State) (b : BayIx) : s.settle.sliding b = s.sliding b := by
  have hworking := congrArg Store.working s.settle_store
  dsimp only at hworking
  simp only [State.sliding, State.kind, State.bayRecord, hworking]

/-- With the latch set, the tasks carried to their end leave no SLIDING bay closing. -/
theorem FirePending.settle_run (h : FirePending ts e) (n : Nat) : FireLaw (run n ts e).s.settle := by
  intro hstalled
  refine FireLaw.of_shuts (fun b hk hs => ?_) hstalled
  rw [State.settle_stalled] at hstalled
  rw [State.settle_sliding] at hk
  rw [State.settle_phase] at hs
  rcases run_agenda FirePending FirePending.perform n ts e h with hstall | hend
  · rw [hstalled] at hstall; exact absurd hstall nofun
  · rcases hend.shuts b hk hs with hmem | hmem | ⟨-, hmem⟩ <;> exact absurd hmem List.not_mem_nil

/-- What a source that sets the latch does first: the record, then every bay is to be opened, or in HALTED released
(spec/05 R105, R107, R109). -/
theorem Ev.fireSet_pending (h : e.s.release.latch = none) (f : FireSource) :
    FirePending (e.fireSet f).2 (e.fireSet f).1 ∧ (e.fireSet f).1.s.release.latch = some f := by
  have hclear : e.s.fire = false := by simp [State.fire, h]
  have hlatch (k : ReleaseKind) : (({ e.s with release := { e.s.release with latch := some f } } : State).openRecord k none
      (some f)).release.latch = some f := State.openRecord_latch _ _ _ _
  simp only [Ev.fireSet, hclear, Bool.false_eq_true, if_false]
  refine ⟨⟨?_, ?_, fun b _ _ => ?_⟩, hlatch _⟩
  · rw [Ev.on_s, State.fire, hlatch]; rfl
  · split
    · exact ofBays_map (f := .fireRelease) (fun _ => trivial) _
    · exact ofBays_map (f := .fireOpen) (fun _ => trivial) _
  · split
    · exact .inr (.inl (List.mem_map_of_mem (mem_allBays b)))
    · next hmode => exact .inr (.inr ⟨by simpa using hmode, List.mem_map_of_mem (mem_allBays b)⟩)

/-- A source sets the latch, and once its tasks are carried to their end no SLIDING bay closes. -/
theorem Ev.finish_fireSet (e : Ev) (h : e.s.release.latch = none) (f : FireSource) :
    (e.finish [.fireSet f]).s.release.latch = some f ∧ FireLaw (e.finish [.fireSet f]).s := by
  obtain ⟨hpending, hlatch⟩ := Ev.fireSet_pending h f
  obtain ⟨k, hk⟩ := Nat.exists_eq_succ_of_ne_zero (n := Config.eventBound) (by decide)
  rw [Ev.finish, Ev.on_s, hk, Nat.succ_eq_add_one, run_cons, List.append_nil]
  refine ⟨?_, hpending.settle_run k⟩
  rw [State.settle_latch, Task.perform, run_latch _ _ _ hpending.tasks]
  exact hlatch

/-- KEY_RESET clears the latch while neither FIRE_INPUT nor PANEL_OPEN is active (spec/05 R110, R111). -/
theorem Ev.finish_fireReset (e : Ev) (hfire : e.s.fire = true) (hinput : e.s.functionLevel .fireInput = false)
    (hpanel : e.s.functionLevel .panelOpen = false) : (e.fireReset.1.finish e.fireReset.2).s.release.latch = none := by
  have hreset : e.fireReset.1.s.release.latch = none ∧ ∀ u ∈ e.fireReset.2, u.OfBays e.fireReset.1.s := by
    simp only [Ev.fireReset, hfire, hinput, hpanel, Bool.not_true, Bool.or_self, Bool.false_eq_true, if_false]
    refine ⟨State.restoreRecord_latch _ _, ?_⟩
    split
    · exact ofBays_map (f := .fireUndo) (fun _ => trivial) _
    · refine ofBays_append (ofBays_map (f := .fireClose) (fun _ => trivial) _) ?_
      split
      · exact ofBays_map (f := .linkLoss) (fun _ => trivial) _
      · exact ofBays_nil _
  rw [Ev.finish_latch _ hreset.2, hreset.1]

/-- The end of MAINTENANCE, where no bay code hands an effect on (spec/08 R150). -/
theorem Ev.finish_leaveMaintenance (e : Ev) (h : BayCodesHandNothing e.s) :
    (e.leaveMaintenance.1.finish e.leaveMaintenance.2).s.mode = { e.s.mode with mode := .service } :=
  Ev.finish_mode _ (ofBays_map (f := .exitClose) (fun _ => trivial) _) h

end

end Sys2Proof.Machine
end

section
/-! The change of a general line, by the function of the line (spec/03 R61). -/

namespace Sys2Proof.Machine

section

variable {s : State} {n : LineIx} {f : LineFunction}

/-- A function that another line holds, or none. -/
theorem State.changeLevel_functionLevel (h : (s.lineRecord n).function ≠ f) :
    (s.changeLevel (.general n)).functionLevel f = s.functionLevel f := by
  have hholder : (s.changeLevel (.general n)).holder f = s.holder f := rfl
  simp only [State.functionLevel, hholder]
  split
  · next m hm =>
    have hm' : (s.lineRecord m).function = f := by simpa using List.find?_some hm
    rw [State.changeLevel_line_ne]
    rintro rfl
    exact h hm'
  · rfl

/-- The event of a general line whose filtered level has just changed. -/
def State.lineChanged (s : State) (n : LineIx) : Ev := (Ev.start s).on (fun u => u.changeLevel (.general n))

@[simp] theorem State.lineChanged_s (s : State) (n : LineIx) : (s.lineChanged n).s = s.changeLevel (.general n) := rfl

/-- The change of a line that is neither a berthing sensor nor a general input reaches the owner of its function. -/
theorem Ev.filteredChange_function (hfunction : (s.lineRecord n).function = f) (hsensor : f ≠ .berthSensor)
    (hgeneral : f ≠ .generalInput) :
    (Ev.start s).filteredChange (.general n) =
      (s.lineChanged n).functionChange f (!(s.line n).line.level) n := by
  have hrecord : ((s.changeLevel (.general n)).lineRecord n).function = f := hfunction
  have hlevel := s.changeLevel_line_self n
  cases f <;> simp_all [Ev.filteredChange, Ev.generalChange, State.lineChanged]

/-- The event of such a change, by what the owner begins with. -/
theorem exec_function_expires {p : Ev × List Task} (hruns : FilterRuns s (.general n)) (hfunction : (s.lineRecord n).function = f)
    (hsensor : f ≠ .berthSensor) (hgeneral : f ≠ .generalInput)
    (hp : (s.lineChanged n).functionChange f (!(s.line n).line.level) n = p) :
    exec (.filterHoldExpires (.general n)) s = .next (p.1.finish p.2).s := by
  rw [exec_filterHoldExpires hruns, State.event, Ev.filteredChange_function hfunction hsensor hgeneral, hp]

theorem BaysStand.settle {u : State} (h : BaysStand s u) : BaysStand s u.settle := fun b => (u.settle_core b).trans (h b)

theorem TrainStands.settle {u : State} (h : TrainStands s u) : TrainStands s u.settle :=
  ⟨u.settle_train.trans h.1, u.settle_gap.trans h.2⟩

theorem Ev.finish_nil (e : Ev) : (e.finish []).s = e.s.settle := by rw [Ev.finish, run_nil, Ev.on_s]

/-- KEY_RESET while FIRE_INPUT or PANEL_OPEN is active posts a record, and no more (spec/05 R110). -/
theorem Ev.fireReset_ignored {e : Ev} (hfire : e.s.fire = true)
    (hactive : e.s.functionLevel .fireInput = true ∨ e.s.functionLevel .panelOpen = true) :
    e.fireReset = (e.on (fun s => s.post .fireResetIgnored none
      (flagCode (e.s.functionLevel .fireInput) + 2 * flagCode (e.s.functionLevel .panelOpen))), []) := by
  have hstand : (e.s.functionLevel .fireInput || e.s.functionLevel .panelOpen) = true := by simpa using hactive
  simp only [Ev.fireReset, hfire, hstand, Bool.not_true, Bool.false_eq_true, if_false, if_true]

/-- An edge that is enabled, of a general input that has just changed (spec/03 R64). -/
theorem State.generalEdge_changeLevel
    (hedge : (if (s.line n).line.level then (s.lineRecord n).falling else (s.lineRecord n).rising) = true) :
    (s.changeLevel (.general n)).generalEdge n =
      ((s.changeLevel (.general n)).setLine n
        { (s.changeLevel (.general n)).line n with changeLatch := true }).post .lineChanged none
          (highLow (bayNumber n) (flagCode (!(s.line n).line.level))) := by
  have hrecord : (s.changeLevel (.general n)).lineRecord n = s.lineRecord n := rfl
  simp only [State.generalEdge, hrecord, State.changeLevel_line_self]
  rw [if_pos]
  cases hlevel : (s.line n).line.level <;> simp_all

theorem Ev.filteredChange_generalInput (hfunction : (s.lineRecord n).function = .generalInput) :
    (Ev.start s).filteredChange (.general n) = ((Ev.start s).on (fun u => (u.changeLevel (.general n)).generalEdge n), []) := by
  have hrecord : ((s.changeLevel (.general n)).lineRecord n).function = .generalInput := hfunction
  simp only [Ev.filteredChange, Ev.generalChange, Ev.on_s, Ev.start_s, hrecord]
  rfl

/-- A line whose owner begins with the fire latch sets it, with the law of the latch (spec/05 R107, R108). -/
theorem exec_sets_fire {g : FireSource} (hruns : FilterRuns s (.general n)) (hfunction : (s.lineRecord n).function = f)
    (hsensor : f ≠ .berthSensor) (hgeneral : f ≠ .generalInput) (hlatch : s.release.latch = none)
    (hsets : (s.lineChanged n).functionChange f (!(s.line n).line.level) n = (s.lineChanged n, [.fireSet g])) :
    ∃ t, exec (.filterHoldExpires (.general n)) s = .next t ∧ t.release.latch = some g ∧ FireLaw t := by
  obtain ⟨hset, hlaw⟩ := Ev.finish_fireSet (s.lineChanged n) (by rw [State.lineChanged_s]; exact hlatch) g
  have hexec := exec_function_expires hruns hfunction hsensor hgeneral hsets
  dsimp only at hexec
  generalize ((s.lineChanged n).finish [.fireSet g]).s = t at hset hlaw hexec
  exact ⟨t, hexec, hset, hlaw⟩

/-- Settles O12: each function by its owner. -/
theorem generalLinesReachTheirOwners : Obligations.GeneralLinesReachTheirOwners := by
  intro s n hruns
  have hother (f : LineFunction) (h : (s.lineRecord n).function ≠ f) :
      (s.lineChanged n).s.functionLevel f = s.functionLevel f := State.changeLevel_functionLevel h
  refine ⟨fun hfunction hlevel hlatch => ?_, fun hfunction hlevel hlatch => ?_, fun hfunction hlevel hfire hactive => ?_,
    fun hfunction hlevel hfire hinput hpanel => ?_, fun hfunction => ?_, fun hfunction hlevel hframe => ?_,
    fun hfunction hedge => ?_, fun hfunction hlevel hmode hhands => ?_⟩
  · have hsets : (s.lineChanged n).functionChange .fireInput (!(s.line n).line.level) n
        = (s.lineChanged n, [.fireSet .fireInput]) := by rw [hlevel]; rfl
    exact exec_sets_fire hruns hfunction nofun nofun hlatch hsets
  · have hsets : (s.lineChanged n).functionChange .panelOpen (!(s.line n).line.level) n
        = (s.lineChanged n, [.fireSet .panelOpen]) := by rw [hlevel]; rfl
    exact exec_sets_fire hruns hfunction nofun nofun hlatch hsets
  · have hinput := hother .fireInput (by rw [hfunction]; nofun)
    have hpanel := hother .panelOpen (by rw [hfunction]; nofun)
    have hresets : (s.lineChanged n).functionChange .keyReset (!(s.line n).line.level) n = (s.lineChanged n).fireReset := by
      rw [hlevel]; rfl
    rw [Ev.fireReset_ignored (e := s.lineChanged n) hfire (by rwa [hinput, hpanel])] at hresets
    have hexec := exec_function_expires hruns hfunction nofun nofun hresets
    rw [Ev.finish_nil] at hexec
    exact ⟨_, hexec, ReleaseStands.settle rfl, BaysStand.settle (fun _ => rfl), TrainStands.settle ⟨rfl, rfl⟩,
      FaceStands.settle ⟨rfl, rfl, rfl, rfl⟩⟩
  · have hresets : (s.lineChanged n).functionChange .keyReset (!(s.line n).line.level) n = (s.lineChanged n).fireReset := by
      rw [hlevel]; rfl
    exact ⟨_, exec_function_expires hruns hfunction nofun nofun hresets, Ev.finish_fireReset _ hfire
      ((hother .fireInput (by rw [hfunction]; nofun)).trans hinput)
      ((hother .panelOpen (by rw [hfunction]; nofun)).trans hpanel)⟩
  · have hexec := exec_function_expires hruns hfunction nofun nofun rfl
    rw [Ev.functionChange, Ev.finish_nil] at hexec
    exact ⟨_, hexec, State.settle_keyLevel _, BaysStand.settle (fun _ => rfl), TrainStands.settle ⟨rfl, rfl⟩,
      ReleaseStands.settle rfl, State.settle_mode _⟩
  · have hraises : (s.lineChanged n).functionChange .fieldSupplyOk (!(s.line n).line.level) n
        = (s.lineChanged n, [.raiseFace .fieldSupplyLost (bayNumber n)]) := by rw [hlevel]; rfl
    exact ⟨_, exec_function_expires hruns hfunction nofun nofun hraises, (Ev.finish_raiseFace _ _ _).trans
      (State.recordPlatform_inactive (s := s.changeLevel (.general n)) hframe _ _)⟩
  · have hexec := exec_filterHoldExpires hruns
    rw [State.event, Ev.filteredChange_generalInput hfunction, Ev.finish_nil, Ev.on_s, Ev.start_s,
      State.generalEdge_changeLevel hedge] at hexec
    refine ⟨_, hexec, ?_, BaysStand.settle (fun _ => rfl), TrainStands.settle ⟨rfl, rfl⟩, ReleaseStands.settle rfl,
      FaceStands.settle ⟨rfl, rfl, rfl, rfl⟩⟩
    have hline := congrArg GeneralLine.changeLatch
      (State.line_setLine_self (s.changeLevel (.general n)) n { (s.changeLevel (.general n)).line n with changeLatch := true })
    rw [State.line, State.settle_lines]
    exact hline
  · have hleaves : (s.lineChanged n).functionChange .maintenanceKey (!(s.line n).line.level) n
        = (s.lineChanged n).leaveMaintenance := by
      have hmaintenance : (s.lineChanged n).s.mode.mode = .maintenance := hmode
      simp only [Ev.functionChange, hlevel, hmaintenance, Bool.not_true, Bool.not_false, beq_self_eq_true, Bool.and_self,
        if_true]
    exact ⟨_, exec_function_expires hruns hfunction nofun nofun hleaves, Ev.finish_leaveMaintenance _ hhands⟩

end

end Sys2Proof.Machine
end

section
/-! The platform secure value by its table, and the laws of the proof (spec/04 R81 to R84, R90). -/

namespace Sys2Proof.Machine

/-! ### The conditions -/

theorem State.meetsBayCondition_iff (s : State) (b : BayIx) :
    s.meetsBayCondition b = true ↔
      (s.kind b ≠ .absent → (s.bay b).phase = .closedLocked
        ∨ s.kind b = .sliding ∧ (s.bay b).phase = .isolated ∧ (s.bay b).lines.closed.level = true
            ∧ (s.bay b).lines.locked.level = true) := by
  rw [State.meetsBayCondition]
  cases s.kind b <;> simp [Bay.bothProofs]

/-- The withheld set, an entry for each condition that fails (spec/04 R81). -/
theorem State.withheldNow_eq (s : State) :
    s.withheldNow =
      { mode := decide (s.mode.mode ≠ .service ∧ s.mode.mode ≠ .maintenance)
        fire := s.fire
        link := decide (s.supervision.state = .expired)
        bays := decide (∃ b, ¬s.meetsBayCondition b = true)
        fault := decide (∃ b, (s.bay b).phase = .faulted)
        gap := decide (s.gap.result ≠ .none ∧ s.gap.result ≠ .clear) } := by
  have hbays : s.holdingBay.isSome = decide (∃ b, ¬s.meetsBayCondition b = true) := by
    rw [Bool.eq_iff_iff]
    simp [State.holdingBay, mem_allBays]
  have hfault : allBays.any (fun b => (s.bay b).phase == .faulted) = decide (∃ b, (s.bay b).phase = .faulted) := by
    rw [Bool.eq_iff_iff]
    simp [mem_allBays]
  have hmode : (!(s.mode.mode == .service || s.mode.mode == .maintenance))
      = decide (s.mode.mode ≠ .service ∧ s.mode.mode ≠ .maintenance) := by
    rw [Bool.eq_iff_iff]
    simp
  have hgap : (!(s.gap.result == .none || s.gap.result == .clear))
      = decide (s.gap.result ≠ .none ∧ s.gap.result ≠ .clear) := by
    rw [Bool.eq_iff_iff]
    simp
  rw [State.withheldNow, hbays, hfault, hmode, hgap]
  rfl

theorem State.withheldNow_authority_iff (s : State) :
    s.withheldNow.authority = false ↔
      (s.mode.mode = .service ∨ s.mode.mode = .maintenance) ∧ s.fire = false ∧ s.supervision.state ≠ .expired := by
  rw [s.withheldNow_eq, Withheld.authority]
  simp only [Bool.or_eq_false_iff, decide_eq_false_iff_not, ← not_or, not_not, and_assoc]

theorem State.withheldNow_face_iff (s : State) :
    s.withheldNow.face = false ↔
      (∀ b, (s.bay b).phase ≠ .faulted) ∧ (s.gap.result = .none ∨ s.gap.result = .clear)
        ∧ ∀ b, s.meetsBayCondition b = true := by
  rw [s.withheldNow_eq, Withheld.face]
  simp only [Bool.or_eq_false_iff, decide_eq_false_iff_not, not_exists, ← not_or, not_not, and_assoc]
  exact and_rotate

/-! ### The table -/

theorem secureValue_eq_secure_iff (w : Withheld) (key : Bool) (mode : Mode) :
    secureValue w key mode = .secure ↔ w.authority = false ∧ w.face = false := by
  rw [secureValue]
  cases w.authority <;> cases w.face <;> simp [ite_eq_iff]

theorem secureValue_eq_bypassed_iff (w : Withheld) (key : Bool) (mode : Mode) :
    secureValue w key mode = .bypassed ↔ key = true ∧ mode = .service ∧ w.authority = false ∧ ¬w.face = false := by
  rw [secureValue]
  cases w.authority <;> cases w.face <;> simp

/-! ### SECURE_OUT -/

/-- A line that holds SECURE_OUT is driven active for SECURE and BYPASSED (spec/04 R90). -/
theorem State.drivenLevel_secureOut {s : State} {n : LineIx} (hfunction : (s.lineRecord n).function = .secureOut) :
    s.drivenLevel n = some (s.proof.value == .secure || s.proof.value == .bypassed) := by
  rw [State.drivenLevel, hfunction]
  cases s.proof.value <;> rfl

/-- The general lines of a part that runs, once STARTING is over, are at their driven levels (spec/03 R66). -/
theorem State.pinsNow_line {s : State} (hruns : s.runs = true) (hmode : s.mode.mode ≠ .starting) (n : LineIx) :
    s.pinsNow.lines[n.val] = s.drivenRaw n := by
  obtain ⟨⟨hsupply, hreset⟩, -⟩ : (s.power.supplyInRange = true ∧ s.power.resetAsserted = false) ∧ s.stalled = false := by
    simpa [State.runs] using hruns
  simp [State.pinsNow, hsupply, hreset, hmode, allLines]

/-- Settles O53: where the proof follows, its fields are those of an evaluation, and each is read off its conditions. -/
theorem secureValueByItsTable : Obligations.SecureValueByItsTable := by
  intro s hfollows hmode
  have hproof : s.proof = s.proofNow := hfollows hmode
  have hvalue : s.proof.value = secureValue s.withheldNow s.proof.keyLevel s.mode.mode := congrArg Proof.value hproof
  refine ⟨?_, ?_, ?_, fun hpins hruns n hfunction => ?_⟩
  · have hwithheld : s.proof.withheld = s.withheldNow := congrArg Proof.withheld hproof
    rw [hwithheld, s.withheldNow_eq]
    simp only [State.meetsBayCondition_iff, Classical.not_imp, not_or, State.fire]
  · rw [hvalue, secureValue_eq_secure_iff, s.withheldNow_authority_iff, s.withheldNow_face_iff]
    simp only [State.meetsBayCondition_iff, and_assoc]
  · rw [hvalue, secureValue_eq_bypassed_iff, s.withheldNow_authority_iff, s.withheldNow_face_iff]
    simp only [State.meetsBayCondition_iff]
    tauto
  · have hline : s.pins.lines[n.val] = s.drivenRaw n := by rw [hpins, State.pinsNow_line hruns hmode]
    rw [hline, State.drivenRaw, State.drivenLevel_secureOut hfunction, Option.map_some]

end Sys2Proof.Machine
end

section
/-! ACK_RELEASE (spec/05 R116). -/

namespace Sys2Proof.Machine

/-- Settles O43: the owner's checks in their order; an accepted request replaces the log alone. -/
theorem ackReleaseUpdatesTheLog : Obligations.AckReleaseUpdatesTheLog := by
  intro body s hadmits
  have hlog : (s.takeFrame .station).release.log = s.release.log := rfl
  refine ⟨fun hrange => ?_, fun n hoperand hnone => ?_, fun target hoperand hheld =>
    ⟨ackIn (acksRecord target) s.release.log, ?_, rfl⟩⟩
  · refine exec_station_refused (q := .ackRelease) rfl hadmits ?_ rfl
    simp only [ownerOf, ownerAckRelease, hrange]
  · refine exec_station_refused (q := .ackRelease) rfl hadmits ?_ rfl
    have hany : s.release.log.any (acksRecord (some n)) = false := by simpa [acksRecord] using hnone
    simp only [ownerOf, ownerAckRelease, hoperand, hlog, hany]
    rfl
  · refine exec_station_settled (q := .ackRelease)
      (v := { s with release := { s.release with log := ackIn (acksRecord target) s.release.log } }) rfl hadmits rfl ?_
    have hknown : (target.isSome && !s.release.log.any (acksRecord target)) = false := by
      cases target with
      | none => rfl
      | some n =>
        obtain ⟨r, hr, hn⟩ := hheld n rfl
        simpa [acksRecord] using ⟨r, hr, hn⟩
    simp only [ownerOf, ownerAckRelease, hoperand, hlog, hknown]
    rfl

end Sys2Proof.Machine
end

section
/-! A map with no bound: the release key (spec/05 R100). -/

namespace Sys2Proof.Machine

/-- A CLOSED_LOCKED bay whose release key is about to go active. -/
def releasingBay : Bay :=
  { Bay.reset with phase := .closedLocked, lines := { BayLines.reset with releaseKey := changingLine false } }

/-- The state of which the release key goes active: a map longer than the bound, being scanned. -/
def longRelease : State := crowded overlong .sliding releasingBay .scanning

/-- Its event, once the filtered level has changed. -/
def keyTurned : Ev := (Ev.start longRelease).on (fun u => u.changeLevel (.bay 0 .releaseKey))

theorem keyTurned_bay : keyTurned.s.bay 0 = { releasingBay with lines := releasingBay.lines.changed .releaseKey } := by
  have hchanged := (BayBecomes.changeLevel longRelease 0 .releaseKey).bay
  rwa [longRelease, crowded_bay] at hchanged

/-- The bay is released by its key (spec/05 R100). -/
theorem keyTurned_releases : (Ev.start longRelease).filteredChange (.bay 0 .releaseKey)
    = (keyTurned.enterReleased 0 .key, Sys2Proof.Machine.entered 0) := by
  have hkind : keyTurned.s.kind 0 = .sliding :=
    crowded_kind (n := overlong) (k := .sliding) (x := releasingBay) (g := .scanning)
  have hinput : (Ev.start longRelease).filteredChange (.bay 0 .releaseKey) = keyTurned.bayInput 0 .releaseKey := rfl
  rw [hinput]
  simp only [Ev.bayInput, hkind, Ev.keyActive, keyTurned_bay]
  rfl

theorem keyTurned_map_length : keyTurned.s.train.map.length = overlong :=
  crowded_map_length (k := .sliding) (x := releasingBay) (g := .scanning)

theorem Ev.enterReleased_phase (e : Ev) (b : BayIx) (k : ReleaseKind) : ((e.enterReleased b k).s.bay b).phase = .released :=
  (congrFun (congrArg Outlook.phase (Ev.outlook_enterReleased e b k)) b).trans (Function.update_self _ _ _)

/-- It has left CLOSED_LOCKED, and the scan is given up (spec/03 R76). -/
theorem longRelease_endless : Endless ((Ev.start longRelease).filteredChange (.bay 0 .releaseKey)).2
    ((Ev.start longRelease).filteredChange (.bay 0 .releaseKey)).1 := by
  have hreleased := BayPart.enterReleased keyTurned 0 .key
  have hgap := gapNow_crowded_unlocked (k := .sliding) (x := releasingBay) (g := .scanning) overlong_ne_zero hreleased.train
    (congrArg GapScan.result hreleased.gap) (by rw [Ev.enterReleased_phase]; nofun)
  have hmap : Config.eventBound < (keyTurned.enterReleased 0 .key).s.train.map.length := by
    rw [hreleased.train, keyTurned_map_length]
    exact eventBound_lt_overlong
  rw [keyTurned_releases]
  exact .entered [] hgap hmap

/-- Refutes O10: the release key of a bay of a map longer than the bound, being scanned, goes active; the scan is given up, and
the event stalls. -/
theorem not_releaseKeyReleasesAndRestores : ¬Obligations.ReleaseKeyReleasesAndRestores := by
  intro h
  have hfilter : FilterRuns longRelease (.bay 0 .releaseKey) := crowded_filterRuns rfl
  obtain ⟨hactive, -⟩ := h longRelease 0 (by simp [longRelease, State.sliding])
    (crowded_gapFresh_scanning overlong_ne_zero rfl rfl) hfilter
  have hbay : longRelease.bay 0 = releasingBay := crowded_bay 0
  obtain ⟨t, hexec, -, -, -, -, -, -, -, -, hevent⟩ := hactive (by rw [hbay]; rfl) (by rw [hbay]; nofun) (by rw [hbay]; nofun)
    (by rw [hbay]; nofun)
  exact not_bayEvent_of_endless crowded_stalled hfilter hexec longRelease_endless hevent

end Sys2Proof.Machine
end

section
/-! What a step comes to, for a law of the phases: nothing that such a law reads, a restart, or an event, which begins in one of
few ways (spec/05 R107, spec/08 R151). -/

namespace Sys2Proof.Machine

/-! ### What a law of the phases reads -/

/-- The phases stand, and with them which bays are SLIDING, the fire latch, the mode and the stall. -/
structure PhasesStand (s t : State) : Prop where
  phase : ∀ b, (t.bay b).phase = (s.bay b).phase
  sliding : ∀ b, t.sliding b = s.sliding b
  latch : t.release.latch = s.release.latch
  mode : t.mode.mode = s.mode.mode
  stalled : t.stalled = s.stalled

section

variable {s t u : State}

theorem PhasesStand.refl (s : State) : PhasesStand s s := ⟨fun _ => rfl, fun _ => rfl, rfl, rfl, rfl⟩

theorem PhasesStand.trans (h : PhasesStand s t) (k : PhasesStand t u) : PhasesStand s u :=
  ⟨fun b => (k.phase b).trans (h.phase b), fun b => (k.sliding b).trans (h.sliding b), k.latch.trans h.latch,
    k.mode.trans h.mode, k.stalled.trans h.stalled⟩

theorem PhasesStand.of_law (h : AllLawStands s t) (hlatch : t.release.latch = s.release.latch)
    (hmode : t.mode.mode = s.mode.mode) (hstalled : t.stalled = s.stalled) : PhasesStand s t :=
  ⟨fun b => (h.bays b id).phase, h.sliding, hlatch, hmode, hstalled⟩

theorem PhasesStand.of_fields (hbays : t.bays = s.bays) (hrecords : t.store.working.bays = s.store.working.bays)
    (hlatch : t.release.latch = s.release.latch) (hmode : t.mode.mode = s.mode.mode) (hstalled : t.stalled = s.stalled) :
    PhasesStand s t :=
  ⟨fun b => by simp only [State.bay, hbays], fun b => by simp only [State.sliding, State.kind, State.bayRecord, hrecords],
    hlatch, hmode, hstalled⟩

/-- What no task touches, with the phases, the latch and the mode. -/
theorem PhasesStand.of_kept (hkept : t.kept = s.kept) (hphase : ∀ b, (t.bay b).phase = (s.bay b).phase)
    (hlatch : t.release.latch = s.release.latch) (hmode : t.mode.mode = s.mode.mode) : PhasesStand s t :=
  ⟨hphase, State.kept_sliding (State.kept_same hkept), hlatch, hmode, State.kept_stalled hkept⟩

theorem PhasesStand.fire (h : PhasesStand s t) : t.fire = s.fire := by rw [State.fire, State.fire, h.latch]

theorem PhasesStand.setBay (s : State) (b : BayIx) (x : Bay) (h : x.phase = (s.bay b).phase) : PhasesStand s (s.setBay b x) :=
  ⟨fun c => congrFun (congrArg Outlook.phase (State.outlook_setBay_same s b x h)) c, fun _ => rfl, rfl, rfl, rfl⟩

theorem PhasesStand.onBay (e : Ev) (b : BayIx) (f : Bay → Bay) (h : ∀ x, (f x).phase = x.phase) :
    PhasesStand e.s (e.onBay b f).s := .setBay _ _ _ (h _)

theorem PhasesStand.clearFrame (s : State) (c : ClearCause) (b : BayIx) : PhasesStand s (s.clearFrame c b) :=
  (PhasesStand.setBay s b { s.bay b with frame := (s.bay b).frame.clear } rfl).trans (.of_fields rfl rfl rfl rfl rfl)

theorem PhasesStand.clearTarget (s : State) : (target : Option BayIx) → PhasesStand s (s.clearTarget target)
  | none => .of_fields rfl rfl rfl rfl rfl
  | some b => .clearFrame s _ b

theorem PhasesStand.setGap (s : State) (g : GapResult) : PhasesStand s (s.setGap g) :=
  .of_fields (by simp) (by simp) (by simp) (by simp) (by cases g <;> rfl)

theorem PhasesStand.setInputLine (s : State) (l : InputLine) (x : Line) : PhasesStand s (s.setInputLine l x) :=
  .of_law (.setInputLine l x) (by simp) (by simp) (by simp)

theorem PhasesStand.setPort (s : State) (l : Link) (p : Port) : PhasesStand s (s.setPort l p) := by
  cases l <;> exact .of_fields rfl rfl rfl rfl rfl

theorem PhasesStand.takeFrame (s : State) (l : Link) : PhasesStand s (s.takeFrame l) := by
  have hcount (u : State) : PhasesStand u u.countFrame := by
    simp only [State.countFrame]
    repeat' split
    all_goals exact .of_fields rfl rfl rfl rfl rfl
  cases l with
  | station => exact .setPort s .station _
  | signalling => exact (PhasesStand.setPort s .signalling _).trans (hcount _)

/-- What is done after the answer's event. -/
theorem PhasesStand.carryOut (a : Answer) (l : Link) (k : Byte) : PhasesStand a.outcome.s (a.carryOut l k) := by
  have hrecorded (u : State) (r : Result) : PhasesStand u (u.recordAuthority l k r) := by
    unfold State.recordAuthority
    split
    · exact .of_fields rfl rfl rfl rfl rfl
    · exact .refl u
  have howed (u : State) (p : Bool) (r : Result) (c : List Byte) : PhasesStand u ((u.formPins.prepare l p).owe l k r c) := by
    cases l <;> exact .of_fields rfl rfl rfl rfl rfl
  exact (hrecorded _ _).trans (howed _ _ _ _)

theorem PhasesStand.settle (s : State) : PhasesStand s s.settle :=
  ⟨s.settle_phase, s.settle_sliding, s.settle_latch, by rw [State.settle_mode], s.settle_stalled⟩

theorem PhasesStand.formMembers (s : State) : PhasesStand s s.formMembers :=
  .of_kept s.kept_formMembers (fun b => ((LawStands.formMembers s).bays b id).phase)
    (foldl_same State.formPresence (fun u => u.release.latch) (fun _ _ => by simp) _ _) (by rw [State.formMembers_mode])

theorem PhasesStand.compareDwell (s : State) : PhasesStand s s.compareDwell := by
  have hlatch : s.compareDwell.release.latch = s.release.latch ∧ s.compareDwell.stalled = s.stalled := by
    simp only [State.compareDwell]
    repeat' split
    all_goals exact ⟨rfl, rfl⟩
  exact .of_law (.compareDwell s) hlatch.1 (by rw [State.compareDwell_mode]) hlatch.2

/-- Time moves timers and the dwell clock alone. -/
theorem PhasesStand.tick (s : State) : PhasesStand s s.tick := by
  unfold State.tick
  split
  · exact ⟨fun b => by rw [State.count_bay]; rfl, fun _ => rfl, rfl, rfl, rfl⟩
  · exact .refl s

end

/-! ### How events begin -/

/-- How an event begins from a state: with the phases as they stand and some tasks, or in one of the ways that move a bay, the
latch, the mode or a kind. -/
inductive EventStart (s : State) : (Ev → Ev × List Task) → Prop
  | stands {f : Ev → Ev × List Task} (h : PhasesStand s (f (Ev.start s)).1.s) : EventStart s f
  | endStarting : EventStart s Ev.endStarting
  | filteredChange (l : InputLine) : EventStart s (fun e => e.filteredChange l)
  | toClosing (b : BayIx) (h : (s.bay b).phase.shuts = true) : EventStart s (fun e => e.toClosing b)
  | forceClosing (b : BayIx) (x : Timer) (h : (s.bay b).phase.shuts = true) : EventStart s (fun e => e.forceClosing b x)
  | enterHalted (c : HaltCause) : EventStart s (fun e => e.enterHalted c)
  | enterMaintenance : EventStart s (fun e => (e.on State.enterMaintenance, []))
  | leaveMaintenance : EventStart s Ev.leaveMaintenance
  | writeBay (b : BayIx) (r : BayRecord) (h : r.kind ≠ s.kind b → (s.bay b).phase.admitsKindChange = true) :
      EventStart s (fun e => e.writeBay b r)
  | writeLine (n : LineIx) (r : LineRecord) : EventStart s (fun e => e.writeLine n r)

theorem EventStart.tasks {s : State} (ts : List Task) : EventStart s (fun e => (e, ts)) := .stands (.refl s)

/-- What a step comes to. Beside its event nothing that a law of the phases reads is changed. -/
inductive StepComes (s t : State) : Prop
  | stands (h : PhasesStand s t)
  | restart (u : State) (c : RestartCause) (h : t = u.restart c)
  | event (u : State) (f : Ev → Ev × List Task) (hbefore : PhasesStand s u) (hruns : u.stalled = false) (h : EventStart u f)
      (hafter : PhasesStand (u.event f) t)

section

variable {s t u : State}

theorem StepComes.refl (s : State) : StepComes s s := .stands (.refl s)

theorem StepComes.of_start (h : PhasesStand s u) (k : StepComes u t) : StepComes s t := by
  cases k with
  | stands k => exact .stands (h.trans k)
  | restart v c k => exact .restart v c k
  | event v f hbefore hruns k hafter => exact .event v f (h.trans hbefore) hruns k hafter

/-- An event of a part that runs. -/
theorem StepComes.of_event {f : Ev → Ev × List Task} (hruns : s.runs = true) (h : EventStart s f) : StepComes s (s.event f) :=
  .event s f (.refl s) (State.stalled_of_runs hruns) h (.refl _)

theorem State.runs_of_active (h : s.active = true) : s.runs = true := (Bool.and_eq_true_iff.mp h).1

theorem StepComes.event_if {q : Bool} {f : Ev → Ev × List Task} (hactive : q = true → s.active = true)
    (hf : q = true → EventStart s f) : StepComes s (if q then s.event f else s) := by
  split
  · next hq => exact .of_event (State.runs_of_active (hactive hq)) (hf hq)
  · exact .refl s

/-! ### Requests -/

/-- What an owner's answer comes to: nothing that a law of the phases reads, or an event. -/
inductive Answer.Comes (s : State) : Answer → Prop
  | still (a : Answer) (hmoves : a.moves = false) (htasks : a.tasks = []) (h : PhasesStand s a.ev.s) : Answer.Comes s a
  | event (f : Ev → Ev × List Task) (reply : Ev → Result × List Byte) (h : EventStart s f) :
      Answer.Comes s (Answer.event s f reply)

theorem Answer.Comes.refuse (s : State) (r : Result) : (Answer.refuse s r).Comes s := .still _ rfl rfl (.refl s)

theorem Answer.Comes.settled (h : PhasesStand s t) (content : List Byte) : (Answer.settled t content).Comes s :=
  .still _ rfl rfl h

/-- An event that changes nothing that a law of the phases reads before its tasks. -/
theorem Answer.Comes.stands {f : Ev → Ev × List Task} {reply : Ev → Result × List Byte}
    (h : PhasesStand s (f (Ev.start s)).1.s) : (Answer.event s f reply).Comes s := .event f reply (.stands h)

theorem PhasesStand.setTrace (s : State) (bays : Nat) (on : Bool) : PhasesStand s (s.setTrace bays on) :=
  .of_law (.setTrace s bays on) rfl rfl rfl

theorem PhasesStand.extendDwell (s : State) (step : Nat) : PhasesStand s (s.extendDwell step) :=
  have hextended : PhasesStand s (({ s with train := { s.train with
      dwellLimit := s.train.extended step, due := (s.extendFlags (s.train.extended step)).1
      overstay := (s.extendFlags (s.train.extended step)).2 } } : State).post .dwellExtended none (s.train.extended step)) :=
    .of_fields rfl rfl rfl rfl rfl
  hextended.trans (.compareDwell _)

/-- A map is formed, or opened again (spec/02 R44, R45). -/
theorem PhasesStand.enabled (h : PhasesStand s u) (k : EventKind) (v : Nat) :
    PhasesStand s (((u.setGap .pending).formMembers).post k none v) :=
  ((h.trans (.setGap u _)).trans (.formMembers _)).trans (.of_fields rfl rfl rfl rfl rfl)

theorem PhasesStand.openMap (e : Ev) (map : List BayIx) (excluded : List (BayIx × Reason)) (dwell : Nat) :
    PhasesStand e.s (e.openMap map excluded dwell).1.s :=
  have hformed : PhasesStand e.s { e.s with train := { e.s.train with
      map := map, state := .enabled, dwellLimit := dwell, dwellElapsed := 0, due := false, overstay := false } } :=
    .of_fields rfl rfl rfl rfl rfl
  hformed.enabled _ _

theorem PhasesStand.reopenMap (e : Ev) : PhasesStand e.s e.reopenMap.1.s :=
  have hopened : PhasesStand e.s { e.s with train := { e.s.train with state := .enabled } } := .of_fields rfl rfl rfl rfl rfl
  hopened.enabled _ _

theorem PhasesStand.returnEmpty (e : Ev) (k : EventKind) (v : Nat) : PhasesStand e.s (e.returnEmpty k v).1.s :=
  .of_fields rfl rfl rfl rfl rfl

theorem PhasesStand.departWatch (e : Ev) : PhasesStand e.s e.departWatch.1.s := by
  unfold Ev.departWatch
  split
  · exact .returnEmpty e _ _
  · exact .refl _

theorem PhasesStand.depart (e : Ev) : PhasesStand e.s e.depart.1.s := by
  unfold Ev.depart
  refine .trans ?_ (.departWatch _)
  exact .of_fields rfl rfl rfl rfl rfl

theorem PhasesStand.commit (s : State) : PhasesStand s s.commit := by
  simp only [State.commit]
  split <;> exact .of_fields rfl rfl rfl rfl rfl

theorem State.admitsKindChange_of_writeBay {b : BayIx} {r : BayRecord} (h : ¬s.bayConflict b r = true)
    (hkind : r.kind ≠ s.kind b) : (s.bay b).phase.admitsKindChange = true := by
  by_contra hphase
  refine h ?_
  simp [State.bayConflict, bne_iff_ne.mpr hkind, Bool.eq_false_iff.mpr hphase]

theorem ownerOf_comes (k : RequestKind) (body : List Byte) (s : State) : (ownerOf k body s).Comes s := by
  have refuse {r : Result} : (Answer.refuse s r).Comes s := .refuse s r
  have settled {t : State} {content : List Byte} (h : PhasesStand s t) : (Answer.settled t content).Comes s := .settled h content
  have begins {f : Ev → Ev × List Task} {reply : Ev → Result × List Byte} (h : PhasesStand s (f (Ev.start s)).1.s) :
      (Answer.event s f reply).Comes s := .stands h
  have written {w : Records} {reply : Ev → Result × List Byte} (hw : w.bays = s.store.working.bays) :
      (Answer.event s (fun e => (e.on (fun u => u.setWorking w), [])) reply).Comes s :=
    .stands (.of_fields rfl hw rfl rfl rfl)
  cases k with
  | poll | readTrain | readMap => exact settled (.refl s)
  | readStatus | freezeConfig => exact settled (.of_fields rfl rfl rfl rfl rfl)
  | prepareRestart => exact .still _ rfl rfl (.refl s)
  | readBays | readReleases | readConfig =>
    simp only [ownerOf, ownerReadBays, ownerReadReleases, ownerReadConfig]
    split
    · exact refuse
    · exact settled (.refl s)
  | readLines | takeEvents =>
    simp only [ownerOf, ownerReadLines, ownerTakeEvents]
    split
    · exact refuse
    · exact settled (.of_fields rfl rfl rfl rfl rfl)
  | setAttention =>
    simp only [ownerOf, ownerSetAttention]
    split
    · exact settled (.of_fields rfl rfl rfl rfl rfl)
    · exact refuse
  | readFault =>
    simp only [ownerOf, ownerReadFault]
    split
    · exact refuse
    · split
      · exact settled (.clearTarget s _)
      · exact settled (.refl s)
  | setTrace =>
    simp only [ownerOf, ownerSetTrace]
    split
    · exact refuse
    · exact settled (.setTrace s _ _)
  | ackRelease | setOutput =>
    simp only [ownerOf, ownerAckRelease, ownerSetOutput]
    repeat' split
    · exact refuse
    · exact refuse
    · exact settled (.of_fields rfl rfl rfl rfl rfl)
  | restart =>
    simp only [ownerOf, ownerRestart]
    split
    · exact settled (.of_fields rfl rfl rfl rfl rfl)
    · exact refuse
  | fixGeometry =>
    simp only [ownerOf, ownerFixGeometry]
    repeat' split
    · exact refuse
    · exact refuse
    · exact settled (.of_fields rfl rfl rfl rfl rfl)
    · exact .still _ rfl rfl (.of_fields rfl rfl rfl rfl rfl)
  | announce | berth =>
    simp only [ownerOf, ownerAnnounce, ownerBerth]
    repeat' split
    all_goals first | exact refuse | exact begins (.of_fields rfl rfl rfl rfl rfl)
  | cancel =>
    simp only [ownerOf, ownerCancel]
    split
    · exact begins (.returnEmpty (Ev.start s) _ _)
    · exact refuse
  | openMap =>
    have hrefused (x : List (BayIx × Reason)) : (Answer.emptyMap s x).Comes s := .still _ rfl rfl (.refl s)
    simp only [ownerOf, ownerOpenMap]
    repeat' split
    all_goals first
      | exact refuse
      | exact hrefused _
      | exact begins (.openMap (Ev.start s) _ _ _)
      | exact begins (.reopenMap (Ev.start s))
  | closeMap =>
    simp only [ownerOf, ownerCloseMap]
    repeat' split
    · exact refuse
    · exact refuse
    · exact begins (.of_fields rfl rfl rfl rfl rfl)
  | depart =>
    simp only [ownerOf, ownerDepart]
    repeat' split
    · exact refuse
    · exact refuse
    · exact begins (.depart (Ev.start s))
    · exact refuse
  | resume =>
    simp only [ownerOf, ownerResume]
    split
    · exact begins (.of_fields rfl rfl rfl rfl rfl)
    · exact refuse
  | bayCommand =>
    simp only [ownerOf, ownerBayCommand]
    repeat' split
    · exact refuse
    · exact refuse
    · exact .event _ _ (.tasks _)
  | emergencyOpen => exact .event _ _ (.tasks _)
  | halt => exact .event _ _ (.enterHalted _)
  | extendDwell =>
    simp only [ownerOf, ownerExtendDwell]
    repeat' split
    · exact refuse
    · exact begins (.extendDwell s _)
    · exact refuse
  | enterMaintenance =>
    simp only [ownerOf, ownerEnterMaintenance]
    repeat' split
    · exact refuse
    · exact refuse
    · exact refuse
    · exact .event _ _ .enterMaintenance
  | leaveMaintenance =>
    simp only [ownerOf, ownerLeaveMaintenance]
    split
    · exact .event _ _ .leaveMaintenance
    · exact refuse
  | writeBay =>
    simp only [ownerOf, ownerWriteBay]
    repeat' split
    · exact refuse
    · exact refuse
    · exact refuse
    · next hfree => exact .event _ _ (.writeBay _ _ (State.admitsKindChange_of_writeBay hfree))
  | writeProfile | writeResponse =>
    simp only [ownerOf, ownerWriteProfile, ownerWriteResponse]
    repeat' split
    · exact refuse
    · exact refuse
    · exact refuse
    · exact written rfl
  | eraseProfile =>
    simp only [ownerOf, ownerEraseProfile]
    split
    · exact refuse
    · exact refuse
    · exact written rfl
  | writeLine =>
    simp only [ownerOf, ownerWriteLine]
    repeat' split
    · exact refuse
    · exact refuse
    · exact refuse
    · exact .event _ _ (.writeLine _ _)
  | writePlatform =>
    simp only [ownerOf, ownerWritePlatform]
    split
    · exact refuse
    · exact refuse
    · exact begins (.of_fields rfl rfl rfl rfl rfl)
  | commit =>
    simp only [ownerOf, ownerCommit]
    split
    · exact refuse
    · exact begins (.commit s)

/-- An answer carried out for a part that runs. -/
theorem Answer.Comes.carryOut {a : Answer} (h : a.Comes s) (hruns : s.stalled = false) (l : Link) (k : Byte) :
    StepComes s (a.carryOut l k) := by
  have hcarried := PhasesStand.carryOut a l k
  cases h with
  | still _ hmoves htasks h =>
    rw [Answer.outcome_still _ htasks hmoves] at hcarried
    exact .stands (h.trans hcarried)
  | event f reply h => exact .event s f (.refl s) hruns h hcarried

theorem judge_comes (l : Link) (k : RequestKind) (body : List Byte) (s : State) : (judge l k body (ownerOf k) s).Comes s := by
  unfold judge
  split
  · exact .refuse s _
  · exact ownerOf_comes k body s

theorem State.receive_comes (s : State) (l : Link) (k : Byte) {answer : State → Answer} (h : ∀ u, (answer u).Comes u) :
    StepComes s (s.receive l k answer) := by
  unfold State.receive
  split
  · exact .refl s
  · next hruns =>
    repeat' split
    · exact .stands (.setPort s l _)
    · exact .stands (.setPort s .signalling _)
    · refine .of_start (.takeFrame s l) ((h _).carryOut ?_ l k)
      rw [State.takeFrame_stalled]
      exact State.stalled_of_runs (by simpa using hruns)

theorem State.request_comes (s : State) (l : Link) (k : RequestKind) (body : List Byte) :
    StepComes s (s.request l k body (ownerOf k)) := s.receive_comes l _ (judge_comes l k body)

theorem State.receiveFrame_comes (s : State) (l : Link) (k : Byte) (body : List Byte) :
    StepComes s (s.receiveFrame l k body) := by
  unfold State.receiveFrame
  split
  · exact s.request_comes l _ body
  · exact s.receive_comes l k (fun u => .refuse u _)

theorem State.completeFrame_comes (s : State) (l : Link) (length : Byte) (bytes : List Byte) :
    StepComes s (s.completeFrame l length bytes) := by
  unfold State.completeFrame
  repeat' split
  · exact s.receiveFrame_comes l _ _
  · exact .stands (.setPort s l _)
  · exact .stands (.setPort s l _)

/-! ### Every command, and the passing of time -/

theorem State.beginRestart_comes (s : State) (p : Power) : StepComes s ({ s with power := p }).beginRestart := by
  unfold State.beginRestart
  split
  · exact .restart _ _ rfl
  · exact .stands (.of_fields rfl rfl rfl rfl rfl)

theorem execRawLevelChange_comes (s : State) (l : InputLine) (high : Bool) :
    ∃ t, execRawLevelChange l high s = .next t ∧ StepComes s t := by
  refine ⟨_, rfl, ?_⟩
  have hraw : PhasesStand s (s.setRaw l high) := .setInputLine s l _
  split
  · exact .refl s
  · split
    · next hactive =>
      have hruns : (s.setRaw l high).active = true := by simpa [State.setRaw] using (Bool.and_eq_true_iff.mp hactive).1
      unfold State.filterTakes
      repeat' split
      · exact .stands (hraw.trans (.setInputLine _ l _))
      · exact .of_start hraw (.of_event (State.runs_of_active hruns) (.filteredChange l))
      · exact .stands (hraw.trans (.setInputLine _ l _))
    · exact .stands hraw

theorem State.limitRow_comes (s : State) (b : BayIx) (p : Bay → Bool) (c : FaultCode) : StepComes s (s.limitRow b p c) := by
  unfold State.limitRow
  split
  · next x htimer =>
    exact .of_event (State.runs_of_active (State.phaseTimerIn_some htimer).1) (.stands (.onBay (Ev.start s) b _ (fun _ => rfl)))
  · exact .refl s

theorem State.capRunning_some {b : BayIx} {x : Timer} (h : s.capRunning b = some x) :
    s.active = true ∧ (s.bay b).phase = .warning := by
  unfold State.capRunning at h
  split at h
  · next hp => exact (Bool.and_eq_true_iff.mp hp).imp_right beq_iff_eq.mp
  · exact absurd h nofun

theorem State.supervisionRunning_some {x : Timer} (h : s.supervisionRunning = some x) : s.active = true := by
  unfold State.supervisionRunning at h
  split at h
  · next hp => exact (Bool.and_eq_true_iff.mp hp).1
  · exact absurd h nofun

/-- The warning or the pause of a bay ends (spec/01 R11, R13). -/
theorem State.closingRow_comes (s : State) (b : BayIx) (p : Bay → Bool)
    (hp : ∀ x : Bay, p x = true → x.phase.shuts = true) : StepComes s (match s.phaseTimerIn b p with
      | some _ => s.event (fun e => e.toClosing b)
      | none => s) := by
  split
  · next htimer =>
    obtain ⟨hactive, hphase⟩ := State.phaseTimerIn_some htimer
    exact .of_event (State.runs_of_active hactive) (.toClosing b (hp _ hphase))
  · exact .refl s

theorem PhasesStand.recordPassed (s : State) : PhasesStand s s.recordPassed := by
  simp only [State.recordPassed]
  repeat' split
  all_goals exact .of_fields rfl rfl rfl rfl rfl

theorem PhasesStand.reachDwell (s : State) (threshold : Nat) : PhasesStand s (s.reachDwell threshold) :=
  have hreached : PhasesStand s { s with train := { s.train with dwellElapsed := max s.train.dwellElapsed threshold } } :=
    .of_fields rfl rfl rfl rfl rfl
  hreached.trans (.compareDwell _)

/-- The commands that are no requests, one by one. -/
theorem exec_other_comes {i : Instr} (h : requestOf i = none) (s : State) : ∃ t, exec i s = .next t ∧ StepComes s t := by
  cases i with
  | powerOn =>
    refine ⟨_, rfl, ?_⟩
    split
    · exact .refl s
    · exact s.beginRestart_comes _
  | resetNReleased =>
    refine ⟨_, rfl, ?_⟩
    split
    · exact s.beginRestart_comes _
    · exact .refl s
  | supplyOutOfRange | resetNAsserted =>
    refine ⟨_, rfl, ?_⟩
    split <;> exact .stands (.of_fields rfl rfl rfl rfl rfl)
  | loadingEnds =>
    refine ⟨_, rfl, ?_⟩
    split
    · next hstarting => exact .of_event (Bool.and_eq_true_iff.mp hstarting).1 .endStarting
    · exact .refl s
  | rawLevelChange l high => exact execRawLevelChange_comes s l high
  | filterHoldExpires l => exact ⟨_, rfl, .event_if (by simp +contextual) (fun _ => .filteredChange l)⟩
  | unlockLimitExpires b | openLimitExpires b | closeLimitExpires b | lockLimitExpires b =>
    exact ⟨_, rfl, s.limitRow_comes b _ _⟩
  | warningPeriodExpires b =>
    refine ⟨_, rfl, s.closingRow_comes b _ (fun x hx => ?_)⟩
    rw [beq_iff_eq.mp (Bool.and_eq_true_iff.mp hx).1]
    rfl
  | reopenPauseExpires b =>
    refine ⟨_, rfl, s.closingRow_comes b _ (fun x hx => ?_)⟩
    rw [beq_iff_eq.mp (Bool.and_eq_true_iff.mp hx).1]
    rfl
  | curtainHoldLimitExpires b =>
    refine ⟨_, rfl, ?_⟩
    split
    · next x hcap =>
      obtain ⟨hactive, hwarning⟩ := State.capRunning_some hcap
      exact .of_event (State.runs_of_active hactive) (.forceClosing b x (by rw [hwarning]; rfl))
    · exact .refl s
  | stuckTimerExpires b sensor =>
    refine ⟨_, rfl, .event_if (by simp +contextual) (fun _ => .stands ?_)⟩
    cases sensor <;> exact .onBay (Ev.start s) b _ (fun _ => rfl)
  | gapScanTimerExpires =>
    have hclears : PhasesStand s ((Ev.start s).setGap .clear).1.s := .setGap s .clear
    exact ⟨_, rfl, .event_if (by simp +contextual) (fun _ => .stands (f := fun e => e.setGap .clear) hclears)⟩
  | supervisionTimerExpires =>
    refine ⟨_, rfl, ?_⟩
    split
    · next x hrunning =>
      exact .of_event (State.runs_of_active (State.supervisionRunning_some hrunning))
        (.stands (.of_fields rfl rfl rfl rfl rfl))
    · exact .refl s
  | dwellDue =>
    exact ⟨_, rfl, .event_if (by simp +contextual [State.dwellSupervised]) (fun _ => .stands (.reachDwell s _))⟩
  | dwellOverstay =>
    exact ⟨_, rfl, .event_if (by simp +contextual [State.dwellSupervised]) (fun _ => .stands (.reachDwell s _))⟩
  | recordWriteCompletes verified =>
    refine ⟨_, rfl, .event_if (by simp +contextual) (fun _ => .stands ?_)⟩
    cases verified with
    | true => exact .recordPassed s
    | false => exact .of_fields rfl rfl rfl rfl rfl
  | interByteGap l =>
    refine ⟨_, rfl, ?_⟩
    split
    · exact .stands (.setPort s l _)
    · exact .refl s
  | frameCrcMismatch l =>
    refine ⟨_, rfl, ?_⟩
    repeat' split
    · exact .refl s
    · exact .stands (.setPort s l _)
    · exact .stands (.setPort s l _)
  | byteWhileReplyOwed l =>
    refine ⟨_, rfl, ?_⟩
    split
    · exact .stands (.setPort s l _)
    · exact .refl s
  | replySent l =>
    refine ⟨_, rfl, ?_⟩
    split
    · dsimp only
      split
      · exact .restart _ _ rfl
      · exact .stands (.setPort s l _)
    · exact .refl s
  | unknownKind l k body => exact ⟨_, rfl, s.receiveFrame_comes l k body⟩
  | byteReceived l x =>
    refine ⟨_, rfl, ?_⟩
    repeat' split
    · exact .refl s
    · exact .stands (.setPort s l _)
    · exact .stands (.setPort s l _)
    · exact s.completeFrame_comes l _ _
  | _ => exact absurd h (by simp [requestOf])

theorem exec_comes (i : Instr) (s : State) : ∃ t, exec i s = .next t ∧ StepComes s t := by
  rcases h : requestOf i with _ | ⟨l, k, body⟩
  · exact exec_other_comes h s
  · exact ⟨_, exec_request h s, s.request_comes l k body⟩

theorem step_comes (h : step s = .next t) : StepComes s t := by
  have hexec (i : Instr) (u : State) (h : exec i u = .next t) : StepComes u t := by
    obtain ⟨t', ht, hcomes⟩ := exec_comes i u
    cases h.symm.trans ht
    exact hcomes
  rcases hp : s.pending with _ | ⟨c, rest⟩
  · rcases hd : s.dueCommand with _ | c
    · cases h.symm.trans (step_of_none_due hp hd)
      exact .stands (.tick s)
    · exact hexec c s (step_of_due hp hd ▸ h)
  · have hpending : PhasesStand s { s with pending := rest } := .of_fields rfl rfl rfl rfl rfl
    exact .of_start hpending (hexec c _ (step_of_pending hp ▸ h))

end

end Sys2Proof.Machine
end

section
/-! The law of the fire latch (spec/05 R107, R108): with the latch set, a SLIDING bay that still closes is about to be stopped,
released or opened by a task that waits. -/

namespace Sys2Proof.Machine

/-! ### Bays about to open -/

/-- A SLIDING bay is closing, or is about to. -/
def State.ClosesAt (s : State) (b : BayIx) : Prop := s.sliding b = true ∧ (s.bay b).phase.shuts = true

/-- A task that waits stops a bay, releases it or, outside HALTED, opens it (spec/05 R107, R109; spec/08 R151). -/
def AboutToOpen (ts : List Task) (s : State) (b : BayIx) : Prop :=
  .haltStop b ∈ ts ∨ .fireRelease b ∈ ts ∨ s.mode.mode ≠ .halted ∧ .fireOpen b ∈ ts

/-- With the latch set, every SLIDING bay that closes is about to open. -/
def FireMinded (ts : List Task) (s : State) : Prop := s.fire = true → ∀ b, s.ClosesAt b → AboutToOpen ts s b

/-- A part of an event that begins in a state. While the latch is set no bay begins to close by it; a latch that it sets has the
bays that close opened; and where it brings HALTED it has every bay stopped. -/
structure FireKept (s : State) (p : Ev × List Task) : Prop where
  latch : p.1.s.fire = true → s.fire = true ∨ FireMinded p.2 p.1.s
  closes : s.fire = true → ∀ b, p.1.s.ClosesAt b → s.ClosesAt b
  halts : s.mode.mode ≠ .halted → p.1.s.mode.mode ≠ .halted ∨ ∀ b, .haltStop b ∈ p.2

section

variable {s t : State} {e : Ev} {b : BayIx} {ts us : List Task} {p : Ev × List Task}

theorem PhasesStand.closesAt (h : PhasesStand s t) (hb : t.ClosesAt b) : s.ClosesAt b := by
  obtain ⟨hk, hs⟩ := hb
  rw [h.sliding] at hk
  rw [h.phase] at hs
  exact ⟨hk, hs⟩

theorem AboutToOpen.mono (h : AboutToOpen ts s b) (hus : ∀ u ∈ ts, u ∈ us) : AboutToOpen us s b :=
  h.imp (hus _) (Or.imp (hus _) (And.imp_right (hus _)))

theorem AboutToOpen.of_mode (h : AboutToOpen ts s b) (hmode : t.mode.mode = s.mode.mode) : AboutToOpen ts t b := by
  rwa [AboutToOpen, hmode]

/-- What was about to open is so still, since HALTED comes with the stopping of every bay. -/
theorem FireKept.aboutToOpen (h : FireKept s p) (hb : AboutToOpen ts s b) (hts : ∀ u ∈ ts, u ∈ us)
    (hp : ∀ u ∈ p.2, u ∈ us) : AboutToOpen us p.1.s b := by
  rcases hb.mono hts with hmem | hmem | ⟨hmode, hmem⟩
  · exact .inl hmem
  · exact .inr (.inl hmem)
  · rcases h.halts hmode with hrunning | hstops
    · exact .inr (.inr ⟨hrunning, hmem⟩)
    · exact .inl (hp _ (hstops b))

/-- The bays that close after a part are about to open, if those that closed before it and close still were. -/
theorem FireKept.minded (h : FireKept s p)
    (hb : s.fire = true → ∀ b, s.ClosesAt b → p.1.s.ClosesAt b → AboutToOpen ts s b) (hts : ∀ u ∈ ts, u ∈ us)
    (hp : ∀ u ∈ p.2, u ∈ us) : FireMinded us p.1.s := by
  intro hfire b hcloses
  rcases h.latch hfire with hset | hminded
  · exact h.aboutToOpen (hb hset b (h.closes hset b hcloses) hcloses) hts hp
  · exact (hminded hfire b hcloses).mono hp

theorem FireMinded.followed (h : FireMinded ts e.s) (hp : FireKept e.s p) : FireMinded (ts ++ p.2) p.1.s :=
  hp.minded (fun hfire b hb _ => h hfire b hb) (fun _ => List.mem_append_left _) (fun _ => List.mem_append_right _)

/-! ### Parts of an event -/

theorem FireKept.of_stands (h : PhasesStand s p.1.s) : FireKept s p :=
  ⟨fun hfire => .inl (by rwa [h.fire] at hfire), fun _ _ => h.closesAt, fun hmode => .inl (by rwa [h.mode])⟩

theorem FireKept.done (e : Ev) : FireKept e.s (e, ts) := .of_stands (.refl _)

/-- A part may begin after a change that leaves the phases as they were. -/
theorem FireKept.of_start (h : PhasesStand s e.s) (k : FireKept e.s p) : FireKept s p :=
  ⟨fun hfire => (k.latch hfire).imp_left (fun hset => by rwa [h.fire] at hset),
    fun hfire b hb => h.closesAt (k.closes (by rwa [h.fire]) b hb), fun hmode => k.halts (by rwa [h.mode])⟩

/-- A part may end with a change that leaves the phases as they are. -/
theorem FireKept.ends {e' : Ev} (k : FireKept s (e, ts)) (h : PhasesStand e.s e'.s) : FireKept s (e', ts) := by
  refine ⟨fun hfire => ?_, fun hfire b hb => k.closes hfire b (h.closesAt hb), fun hmode => ?_⟩
  · rw [h.fire] at hfire
    exact (k.latch hfire).imp_right (fun hminded _ b hb => (hminded hfire b (h.closesAt hb)).of_mode h.mode)
  · rw [h.mode]
    exact k.halts hmode

/-- A part that acts on one bay. -/
theorem BayPart.fireKept (h : BayPart e p) (hkept : p.1.s.kept = e.s.kept) : FireKept e.s p := by
  refine ⟨fun hfire => .inl ?_, fun hfire b ⟨hk, hs⟩ => ⟨?_, h.shuts hfire hs⟩, fun hmode => .inl (by rwa [h.mode])⟩
  · rwa [State.fire, h.latch] at hfire
  · rwa [State.kept_sliding (State.kept_same hkept)] at hk

theorem PhasesStand.formGap (e : Ev) : PhasesStand e.s e.formGap.1.s :=
  .of_kept e.kept_formGap e.formGap_phases e.formGap_latch (by rw [e.formGap_mode])

theorem FireKept.enterHalted (e : Ev) (c : HaltCause) : FireKept e.s (e.enterHalted c) := by
  unfold Ev.enterHalted
  split
  · exact .done e
  · exact ⟨.inl, fun _ _ => id, fun _ => .inr fun b => List.mem_append_left _ (List.mem_map_of_mem (mem_allBays b))⟩

theorem FireKept.changeMode (e : Ev) {m : Mode} (hm : m ≠ .halted) : FireKept e.s (e.on (fun s => s.changeMode m), ts) :=
  ⟨.inl, fun _ _ => id, fun _ => .inl hm⟩

theorem FireKept.effect (e : Ev) (x : PlatformEffect) (c : FaultCode) : FireKept e.s (e.effect x c) := by
  cases x with
  | none => exact .done e
  | closeMap =>
    simp only [Ev.effect, Ev.closeMapEffect]
    split
    · exact .of_stands (.of_fields rfl rfl rfl rfl rfl)
    · exact .done e
  | halt => exact .enterHalted e _

theorem PhasesStand.raiseFace (e : Ev) (c : FaultCode) (d : Nat) : PhasesStand e.s (e.raiseFace c d).1.s :=
  .of_kept (e.kept_raiseFace c d) (fun b => by simp [Ev.raiseFace, State.bay]) (by simp [Ev.raiseFace]) (by simp [Ev.raiseFace])

theorem FirePending.minded (h : FirePending ts e) : FireMinded ts e.s := fun _ b ⟨hk, hs⟩ => h.shuts b hk hs

theorem FireKept.fireSet (e : Ev) (f : FireSource) : FireKept e.s (e.fireSet f) := by
  by_cases hfire : e.s.fire = true
  · have hset : e.fireSet f = (e, []) := by rw [Ev.fireSet, if_pos hfire]
    rw [hset]
    exact .done e
  · have hlatch : e.s.release.latch = none := by simpa [State.fire] using hfire
    refine ⟨fun _ => .inr (Ev.fireSet_pending hlatch f).1.minded, fun hset => absurd hset hfire, fun hmode => .inl ?_⟩
    simpa [Ev.fireSet, hfire] using hmode

/-- A latch that is cleared asks nothing of the bays (spec/05 R111, R112). -/
theorem FireKept.fireReset (e : Ev) : FireKept e.s e.fireReset := by
  have hclears (us : List Task) : FireKept e.s (e.on (fun s =>
      ({ s with release := { s.release with latch := none } }).restoreRecord
        (fun r => r.kind == ReleaseKind.fireLatch)), us) := by
    refine ⟨fun hfire => ?_, fun _ b hb => ?_, fun hmode => .inl (by simpa using hmode)⟩
    · simp [State.fire, State.restoreRecord_latch] at hfire
    · simpa [State.ClosesAt, State.sliding, State.kind, State.bayRecord, State.bay] using hb
  simp only [Ev.fireReset]
  repeat' split
  · exact .done e
  · exact .of_stands (.of_fields rfl rfl rfl rfl rfl)
  all_goals exact hclears _

/-! ### Every task -/

theorem Task.fireKept (t : Task) (e : Ev) : FireKept e.s (t.perform e) := by
  have hkept : (t.perform e).1.s.kept = e.s.kept := Task.kept_perform t e
  cases t with
  | formGap => exact .of_stands (.formGap e)
  | presence b => exact (BayPart.presence e b).fireKept hkept
  | arrive b => exact (BayPart.arrive e b).fireKept hkept
  | obstruct atEntry b => exact (BayPart.obstruct e atEntry b).fireKept hkept
  | conflict b => exact (BayPart.raiseConflict e b).fireKept hkept
  | raise b c d => exact (BayPart.raise e b c d).fireKept hkept
  | raiseAtEntry b c d => exact (BayPart.raiseAtEntry e b c d).fireKept hkept
  | raiseFace c d => exact .of_stands (.raiseFace e c d)
  | effect x c => exact .effect e x c
  | openMember again b => exact (BayPart.openMember e again b).fireKept hkept
  | closeMember reported b => exact (BayPart.closeMember e reported b).fireKept hkept
  | haltStop b => exact (BayPart.stopBay e b).fireKept hkept
  | fireSet f => exact .fireSet e f
  | fireOpen b => exact (BayPart.fireOpen e b).fireKept hkept
  | fireRelease b => exact (BayPart.fireRelease e b).fireKept hkept
  | fireBack b => exact (BayPart.fireBack e b).fireKept hkept
  | fireClose b => exact (BayPart.fireClose e b).fireKept hkept
  | fireUndo b => exact (BayPart.fireUndo e b).fireKept hkept
  | linkLoss b => exact (BayPart.linkLoss e b).fireKept hkept
  | postExpired period => exact .of_stands (.of_fields rfl rfl rfl rfl rfl)
  | departWatch => exact .of_stands (.departWatch e)
  | exitClose b => exact (BayPart.exitClose e b).fireKept hkept
  | command a b => exact (BayPart.command e a b).fireKept hkept

/-- A task at the front that stops, releases or opens a bay has done so: a bay that closes after it waits for another. -/
theorem AboutToOpen.rest {u : Task} (h : AboutToOpen (u :: ts) e.s b) (hbefore : e.s.ClosesAt b)
    (hafter : (u.perform e).1.s.ClosesAt b) : AboutToOpen ts e.s b := by
  obtain ⟨hk, hs⟩ := hbefore
  have hcloses : ((u.perform e).1.s.bay b).phase.shuts ≠ false := by rw [hafter.2]; nofun
  have waits {v : Task} (hv : v ∈ u :: ts) (hends : v = u → ((u.perform e).1.s.bay b).phase.shuts = false) : v ∈ ts :=
    (List.mem_cons.mp hv).resolve_left (fun heq => hcloses (hends heq))
  rcases h with hmem | hmem | ⟨hmode, hmem⟩
  · exact .inl (waits hmem (by rintro rfl; exact Ev.stopBay_ends hk))
  · exact .inr (.inl (waits hmem (by rintro rfl; exact Ev.fireRelease_ends hk)))
  · exact .inr (.inr ⟨hmode, waits hmem (by rintro rfl; exact Ev.fireOpen_ends hk hmode hs)⟩)

theorem FireMinded.perform (u : Task) (ts : List Task) (e : Ev) (h : FireMinded (u :: ts) e.s) :
    FireMinded ((u.perform e).2 ++ ts) (u.perform e).1.s :=
  (u.fireKept e).minded (fun hfire b hbefore hafter => (h hfire b hbefore).rest hbefore hafter)
    (fun _ => List.mem_append_right _) (fun _ => List.mem_append_left _)

/-! ### How events begin -/

theorem Bay.inputAction_shuts {x : Bay} {i : BayInput} {q : Phase} (h : x.inputAction i = .enters q) : q.shuts = false := by
  simp only [Bay.inputAction] at h
  repeat' split at h
  all_goals (cases h <;> rfl)

theorem BayPart.slidingInput (e : Ev) (b : BayIx) (i : BayInput) : BayPart e (e.slidingInput b i) := by
  simp only [Ev.slidingInput]
  split
  · exact .done e
  · next q hq => exact .opens b q (Ev.outlook_enter _ _ _) (formGap_mem_entered b) (Bay.inputAction_shuts hq)
  · exact .done e
  · exact .still (Ev.outlook_onBay _ _ _ (fun _ => rfl))
  · exact .done e

theorem BayPart.sensorInput (e : Ev) (b : BayIx) (sensor : Sensor) : BayPart e (e.sensorInput b sensor) := by
  cases sensor <;> exact .still (Ev.outlook_onBay _ _ _ (fun _ => by split <;> rfl))

theorem BayPart.bayInput (e : Ev) (b : BayIx) (i : BayInput) : BayPart e (e.bayInput b i) := by
  unfold Ev.bayInput
  split
  · exact .done e
  · cases i with
    | curtain => exact .sensorInput e b _
    | gap => exact .sensorInput e b _
    | releaseKey =>
      dsimp only
      split
      · exact .keyActive e b
      · exact .keyInactive e b
    | _ => exact .slidingInput e b _
  · cases i <;> first | exact .done e | exact .doorInput e b
  · cases i <;> first | exact .done e | exact .doorInput e b

theorem FireKept.leaveMaintenance (e : Ev) : FireKept e.s e.leaveMaintenance := .changeMode e nofun

theorem FireKept.functionChange (e : Ev) (f : LineFunction) (level : Bool) (n : LineIx) :
    FireKept e.s (e.functionChange f level n) := by
  unfold Ev.functionChange
  repeat' split
  all_goals first
    | exact .done e
    | exact .fireReset e
    | exact .leaveMaintenance e
    | exact .of_stands (.of_fields rfl rfl rfl rfl rfl)

theorem FireKept.berthSensor (e : Ev) (n : LineIx) : FireKept e.s (e.berthSensor n) := by
  unfold Ev.berthSensor
  repeat' split
  all_goals first
    | exact .done e
    | exact .of_stands (.departWatch e)
    | exact .of_stands (.of_fields rfl rfl rfl rfl rfl)

theorem PhasesStand.generalEdge (s : State) (n : LineIx) : PhasesStand s (s.generalEdge n) := by
  simp only [State.generalEdge]
  repeat' split
  all_goals exact .of_fields rfl rfl rfl rfl rfl

theorem FireKept.generalChange (e : Ev) (n : LineIx) : FireKept e.s (e.generalChange n) := by
  unfold Ev.generalChange
  split
  · exact .berthSensor e n
  · exact .of_stands (.generalEdge e.s n)
  · exact .functionChange e _ _ n

theorem FireKept.filteredChange (e : Ev) (l : InputLine) : FireKept e.s (e.filteredChange l) := by
  refine .of_start (e := e.on (fun s => s.changeLevel l)) (.setInputLine e.s l _) ?_
  cases l with
  | general n => exact .generalChange _ n
  | bay b i => exact (BayPart.bayInput _ b i).fireKept (Ev.kept_bayInput _ b i)

/-- A bay that has closed so far goes on to CLOSING (spec/01 R11, R13). -/
theorem FireKept.toClosing (e : Ev) (b : BayIx) (h : (e.s.bay b).phase.shuts = true) : FireKept e.s (e.toClosing b) :=
  BayPart.fireKept (.moves b .closing (Ev.outlook_enter _ _ _) (formGap_mem_entered b) (fun _ _ => h)) (Ev.kept_enter e b _)

theorem FireKept.forceClosing (e : Ev) (b : BayIx) (x : Timer) (h : (e.s.bay b).phase.shuts = true) :
    FireKept e.s (e.forceClosing b x) := by
  have hforced := PhasesStand.onBay (e.enter b .closing) b (fun x => { x with forced := true }) (fun _ => rfl)
  exact (FireKept.toClosing e b h).ends (hforced.trans (.of_fields rfl rfl rfl rfl rfl))

end

end Sys2Proof.Machine
end

section
/-! The fire latch's law through the writes of records, the end of STARTING and every event (spec/05 R107). -/

namespace Sys2Proof.Machine

section

variable {s t : State} {e : Ev} {b : BayIx} {ts : List Task}

/-! ### Records written -/

theorem PhasesStand.writeLine (s : State) (n : LineIx) (r : LineRecord) : PhasesStand s (s.writeLine n r) := by
  simp only [State.writeLine]
  split <;> exact .of_fields rfl rfl rfl rfl rfl

theorem FireKept.compareOwner (e : Ev) (before : State) (f : LineFunction) (n : LineIx) :
    FireKept e.s (e.compareOwner before f n) := by
  simp only [Ev.compareOwner]
  split
  · exact .functionChange e _ _ n
  · exact .done e

theorem FireKept.placedChange (e : Ev) (before : State) : FireKept e.s (e.placedChange before) := .done e

theorem PhasesStand.receiveStanding (e : Ev) (f : LineFunction) : PhasesStand e.s (e.receiveStanding f).s := by
  unfold Ev.receiveStanding
  split
  · exact .of_fields rfl rfl rfl rfl rfl
  · exact .refl _

/-- A part after a part. -/
theorem FireMinded.andThen {p : Ev × List Task} {f : Ev → Ev × List Task} (hp : FireMinded p.2 p.1.s)
    (hf : FireKept p.1.s (f p.1)) : FireMinded (Ev.andThen p f).2 (Ev.andThen p f).1.s := hp.followed hf

theorem FireMinded.of_stands (h : FireMinded ts s) (k : PhasesStand s t) : FireMinded ts t := fun hfire b hb =>
  (h (by rwa [k.fire] at hfire) b (k.closesAt hb)).of_mode k.mode

theorem FireMinded.writeLine (h : FireMinded [] e.s) (n : LineIx) (r : LineRecord) :
    FireMinded (e.writeLine n r).2 (e.writeLine n r).1.s := by
  have hwritten : FireMinded [] (e.on (fun s => s.writeLine n r)).s := h.of_stands (.writeLine e.s n r)
  have howners (f : LineFunction) {g : Ev → Ev × List Task} (hg : ∀ e, FireKept e.s (g e)) :
      FireMinded (Ev.andThen ((e.on (fun s => s.writeLine n r)).compareOwner e.s f n) g).2
        (Ev.andThen ((e.on (fun s => s.writeLine n r)).compareOwner e.s f n) g).1.s :=
    .andThen (hwritten.followed (.compareOwner _ _ _ _)) (hg _)
  refine .andThen ?_ (.placedChange _ _)
  split
  · exact hwritten.of_stands (.receiveStanding _ _)
  · exact howners _ (fun e2 => .compareOwner e2 _ _ n)

/-- A bay's record says nothing of the kind of another. -/
theorem State.setBayRecord_sliding {c : BayIx} (s : State) (r : BayRecord) (h : c = b → r.kind = s.kind b) :
    (s.setBayRecord b r).sliding c = s.sliding c := by
  have hkind : (s.setBayRecord b r).kind c = s.kind c := by
    by_cases hc : c = b
    · subst hc
      rw [← h rfl]
      simp [State.kind, State.bayRecord, State.setBayRecord, State.setWorking]
    · have hv : b.val ≠ c.val := fun hv => hc (Fin.ext hv.symm)
      simp [State.kind, State.bayRecord, State.setBayRecord, State.setWorking, Vector.getElem_set_ne, hv]
  rw [State.sliding, State.sliding, hkind]

theorem Phase.shuts_of_admitsKindChange {q : Phase} (h : q.admitsKindChange = true) : q.shuts = false := by
  cases q <;> first | rfl | exact absurd h nofun

theorem FireKept.restartBay (e : Ev) (b : BayIx) : FireKept e.s (e.restartBay b) := by
  have hcleared : PhasesStand e.s (e.clearForKind b).s := by
    unfold Ev.clearForKind
    split
    · exact .clearFrame e.s _ b
    · exact .refl _
  rw [Ev.restartBay_eq]
  refine .of_start (hcleared.trans (.onBay _ b Bay.startedAgain (fun _ => rfl))) ?_
  split
  · exact (BayPart.derive _ b).fireKept (Ev.kept_derive _ b)
  · exact BayPart.fireKept (.opens b .notFitted (Ev.outlook_enter _ _ _) (formGap_mem_entered b) rfl) (Ev.kept_enter _ b _)

/-- No kind changes while its bay closes (spec/01 R2). -/
theorem FireKept.writeBay (e : Ev) (b : BayIx) (r : BayRecord)
    (h : r.kind ≠ e.s.kind b → (e.s.bay b).phase.admitsKindChange = true) : FireKept e.s (e.writeBay b r) := by
  simp only [Ev.writeBay]
  split
  · next hchanges =>
    have hrestarted := FireKept.restartBay (e.on (fun s => s.setBayRecord b r)) b
    refine ⟨hrestarted.latch, fun hfire c hc => ?_, hrestarted.halts⟩
    obtain ⟨hk, hs⟩ := hrestarted.closes hfire c hc
    refine ⟨?_, hs⟩
    rwa [Ev.on_s, State.setBayRecord_sliding] at hk
    rintro rfl
    have hadmits := h (bne_iff_ne.mp hchanges)
    exact absurd (hs.symm.trans (Phase.shuts_of_admitsKindChange hadmits)) nofun
  · next hsame =>
    have hkind : r.kind = e.s.kind b := by simpa using hsame
    exact .of_stands ⟨fun _ => rfl, fun c => e.s.setBayRecord_sliding r (fun _ => hkind), rfl, rfl, rfl⟩

/-! ### The end of STARTING -/

theorem State.startRelease_phase (s : State) (c : BayIx) : ((s.startRelease c).bay b).phase = (s.bay b).phase :=
  ((LawStands.startRelease s c).bays b id).phase

theorem Ev.startConflict_phase (e : Ev) (c : BayIx) : ((e.startConflict c).s.bay b).phase = (e.s.bay b).phase := by
  unfold Ev.startConflict
  split
  · exact congrFun (congrArg Outlook.phase (Ev.outlook_takeDerivedConflict e c)) b
  · rfl

theorem State.deriveAll_shuts (s : State) (b : BayIx) : (s.deriveAll.bay b).phase.shuts = false := by
  refine foldl_each State.deriveAtStart (fun _ _ => True) (fun c u => (u.bay c).phase.shuts = false) (fun c u _ => ?_)
    (fun _ _ _ _ _ => trivial) (fun c d u hne hu => ?_) nodup_allBays s (fun _ _ => trivial) b (mem_allBays b)
  · rw [State.deriveAtStart, State.bay_setBay_self]
    exact derivedPhase_shuts _ _
  · rwa [State.deriveAtStart, State.bay_setBay_ne _ _ _ _ hne]

theorem State.startFaulted_phase (s : State) (b : BayIx) :
    (s.startFaulted.bay b).phase = (s.readLines.deriveAll.bay b).phase := by
  rw [State.startFaulted, Ev.startFaults_eq]
  refine (foldl_same Ev.startConflict (fun e => (e.s.bay b).phase) (fun e c => e.startConflict_phase c) _ _).trans ?_
  rw [Ev.on_s, State.bay, (State.startStoreFault_same _).2.1]
  rfl

/-- No bay closes when STARTING ends: each is in its derived phase (spec/01 R23). -/
theorem Ev.endStarting_shuts (s : State) (b : BayIx) : ((Ev.endStarting (Ev.start s)).1.s.bay b).phase.shuts = false := by
  have hreleased := foldl_same State.startRelease (fun u => (u.bay b).phase) (fun u c => u.startRelease_phase c) allBays
    s.startFaulted.startMode
  rw [Ev.endStarting_s, State.standingKey_bay, hreleased]
  have hmode (u : State) : u.startMode.bay b = u.bay b := rfl
  rw [hmode, s.startFaulted_phase]
  exact State.deriveAll_shuts _ b

/-! ### Every event and every step -/

/-- With the latch set no SLIDING bay closes, if none did before and however the event begins, but for those about to open. -/
theorem EventStart.minded {f : Ev → Ev × List Task} (h : EventStart s f) (hs : FireMinded [] s) :
    FireMinded (f (Ev.start s)).2 (f (Ev.start s)).1.s := by
  have kept {p : Ev × List Task} (k : FireKept s p) : FireMinded p.2 p.1.s := hs.followed (e := Ev.start s) k
  cases h with
  | stands h => exact kept (.of_stands h)
  | endStarting =>
    intro _ b ⟨_, hb⟩
    rw [Ev.endStarting_shuts] at hb
    exact absurd hb nofun
  | filteredChange l => exact kept (.filteredChange (Ev.start s) l)
  | toClosing b h => exact kept (.toClosing (Ev.start s) b h)
  | forceClosing b x h => exact kept (.forceClosing (Ev.start s) b x h)
  | enterHalted c => exact kept (.enterHalted (Ev.start s) c)
  | enterMaintenance => exact kept ⟨.inl, fun _ _ => id, fun _ => .inl nofun⟩
  | leaveMaintenance => exact kept (.leaveMaintenance (Ev.start s))
  | writeBay b r h => exact kept (.writeBay (Ev.start s) b r h)
  | writeLine n r => exact FireMinded.writeLine (e := Ev.start s) hs n r

/-- With no task that waits, that every closing bay is about to open is the law itself. -/
theorem fireLaw_iff_minded : FireLaw s ↔ (s.stalled = false → FireMinded [] s) := by
  have hnone (b : BayIx) : ¬AboutToOpen [] s b := by simp [AboutToOpen]
  have hshuts (q : Phase) : (q ≠ .warning ∧ q ≠ .closing ∧ q ≠ .reopening) ↔ ¬q.shuts = true := by
    cases q <;> simp [Phase.shuts]
  simp only [FireLaw, FireMinded, State.ClosesAt, hnone, hshuts, imp_false, not_and]

theorem FireLaw.of_stands (h : FireLaw s) (k : PhasesStand s t) : FireLaw t :=
  fireLaw_iff_minded.mpr fun hstalled => (fireLaw_iff_minded.mp h (by rwa [k.stalled] at hstalled)).of_stands k

theorem FireLaw.event {f : Ev → Ev × List Task} (h : FireLaw s) (hruns : s.stalled = false) (hf : EventStart s f) :
    FireLaw (s.event f) := by
  refine FireLaw.of_stands (fireLaw_iff_minded.mpr fun hstalled => ?_) (.settle _)
  rcases run_agenda (fun ts e => FireMinded ts e.s) FireMinded.perform Config.eventBound _ _
    (hf.minded (fireLaw_iff_minded.mp h hruns)) with hstall | hend
  · exact absurd (hstall.symm.trans hstalled) nofun
  · exact hend

theorem FireLaw.restart (u : State) (c : RestartCause) : FireLaw (u.restart c) := fun _ hfire => absurd hfire nofun

/-- Settles O57: with the fire latch set no part of an event has a bay begin to close, and the part that sets it has every
SLIDING bay that closes opened, released or stopped before the event ends. -/
theorem fireLawKept : Obligations.FireLawKept := by
  intro s t h hstep
  cases step_comes hstep with
  | stands k => exact h.of_stands k
  | restart u c k => rw [k]; exact .restart u c
  | event u f hbefore hruns hf hafter => exact ((h.of_stands hbefore).event hruns hf).of_stands hafter

end

end Sys2Proof.Machine
end

section
/-! The counted frame, POLL and RESUME (spec/06 R118, R125; spec/04 R93, R94). -/

namespace Sys2Proof.Machine

section

variable {s : State} {body : List Byte}

/-! ### The counted frame -/

/-- In SERVICE with a period set, the counted frame arms supervision. -/
theorem State.countFrame_arms (h : s.supervision.state = .disarmed) (hmode : s.mode.mode = .service)
    (hperiod : s.platform.supervisionPeriod ≠ 0) :
    s.countFrame.supervision = { s.supervision with
      state := .armed, timer := some { limit := s.platform.supervisionPeriod, elapsed := 0 } } := by
  simp [State.countFrame, h, hmode, hperiod, Timer.start]

/-- In another mode, or with the period 0, DISARMED supervision stays so. -/
theorem State.countFrame_staysDisarmed (h : s.supervision.state = .disarmed)
    (hno : s.mode.mode ≠ .service ∨ s.platform.supervisionPeriod = 0) : s.countFrame = s := by
  rcases hno with hmode | hperiod
  · simp [State.countFrame, h, hmode]
  · simp [State.countFrame, h, hperiod]

theorem State.countFrame_restarts (h : s.supervision.state = .armed) (hperiod : s.platform.supervisionPeriod ≠ 0) :
    s.countFrame.supervision =
      { s.supervision with timer := some { limit := s.platform.supervisionPeriod, elapsed := 0 } } := by
  simp [State.countFrame, h, hperiod, Timer.start]

theorem State.countFrame_disarms (h : s.supervision.state = .armed) (hperiod : s.platform.supervisionPeriod = 0) :
    s.countFrame.supervision = { s.supervision with state := .disarmed, timer := none } := by
  simp [State.countFrame, h, hperiod]

/-- Only RESUME leaves EXPIRED. -/
theorem State.countFrame_staysExpired (h : s.supervision.state = .expired) : s.countFrame = s := by
  simp [State.countFrame, h]

/-! ### POLL -/

/-- A signalling request whose owner settles it on the state with the frame taken. -/
theorem exec_signalling_settled {i : Instr} {q : RequestKind} {content : List Byte}
    (hi : requestOf i = some (.signalling, q, body)) (h : Admits .signalling q body s)
    (howner : ownerOf q body (s.takeFrame .signalling) = .settled (s.takeFrame .signalling) content) :
    exec i s = .next (signallingAnswer s q.code .done content) := by
  have hcarried := Answer.carryOut_signalling s (.settled (s.takeFrame .signalling) content) q.code
    (by rw [Answer.outcome_settled]; rfl) rfl
  rw [exec_request hi, State.request_admits _ _ _ _ _ h, howner, hcarried, Answer.outcome_settled]
  simp only [Ev.start, State.takeFrame_signalling_eq]
  rfl

/-- Settles O27: one lemma for each row of the counted frame's table, and POLL is settled with an empty content. -/
theorem pollAnswersAndArms : Obligations.PollAnswersAndArms := fun _ s =>
  ⟨fun h => exec_signalling_settled rfl h rfl, s.countFrame_same, State.countFrame_arms,
    fun h hno => congrArg State.supervision (State.countFrame_staysDisarmed h hno), State.countFrame_restarts,
    State.countFrame_disarms, fun h => congrArg State.supervision (State.countFrame_staysExpired h)⟩

/-! ### RESUME -/

theorem State.resume_supervision (u : State) :
    u.resume.supervision = { state := .armed, timer := some { limit := u.platform.supervisionPeriod, elapsed := 0 }
                             expiredAt := none } := rfl

theorem State.resume_only (u : State) : TrainOnly u u.resume := by
  have hrearmed : TrainOnly u { u with supervision := u.resume.supervision } := ⟨rfl, rfl, rfl⟩
  exact hrearmed.post _ _ _

/-- RESUME is accepted in EXPIRED alone; taking the frame neither enters nor leaves it. -/
theorem ownerResume_eq (body : List Byte) (s : State) :
    ownerResume body (s.takeFrame .signalling) =
      if s.supervision.state = .expired then
        .event (s.takeFrame .signalling) (fun e => (e.on State.resume, [])) doneReply
      else .refuse (s.takeFrame .signalling) .sequence := by
  simp only [ownerResume, beq_iff_eq, State.takeFrame_expired]

/-- What an accepted RESUME answers: its event has no task, so the state with the frame taken is resumed and settled. -/
theorem exec_resume_accepted (h : Admits .signalling .resume body s) (hexpired : s.supervision.state = .expired) :
    exec (.resume .signalling body) s =
      .next (signallingDone s (s.takeFrame .signalling).resume.settle RequestKind.resume.code .done []) := by
  have howner := ownerResume_eq body s
  rw [if_pos hexpired] at howner
  exact exec_signalling_event (i := .resume .signalling body) rfl h howner
    (e' := ((Ev.start (s.takeFrame .signalling)).on State.resume).on State.settle) (by rw [Ev.finish, run_nil])
    (State.settle_signalling _) rfl

/-- Settles O36: the event of an accepted RESUME changes supervision and the event queue alone. -/
theorem resumeRearmsSupervision : Obligations.ResumeRearmsSupervision := by
  intro body s h
  refine ⟨fun hexpired => ?_, fun hstate => ?_⟩
  · have htaken := TrainOnly.takeFrame s .signalling
    have honly := htaken.trans (s.takeFrame .signalling).resume_only
    have hperiod : (s.takeFrame .signalling).platform = s.platform := htaken.read State.platform rfl
    refine ⟨_, exec_resume_accepted h hexpired, signallingDone_answered .resume, ?supervision, ⟨?train, ?gap⟩,
      BaysStand.signallingDone honly.settle_baysStand, ReleaseStands.signallingDone (ReleaseStands.settle honly.releaseStands),
      FaceStands.signallingDone (FaceStands.settle honly.faceStands),
      signallingDone_event honly.stands.settle (StoreStands.settle honly.storeStands)
        (LinesStand.settle honly.linesStand) ?station ?preparation⟩
    case supervision => rw [signallingDone_supervision, State.settle_supervision, State.resume_supervision, hperiod]
    case train => rw [signallingDone_train, State.settle_train]; exact s.takeFrame_train
    case gap => rw [signallingDone_gap, State.settle_gap]; exact s.takeFrame_gap
    case station => rw [State.settle_station]; exact s.takeFrame_stationPort
    case preparation => rw [State.settle_mode]; exact honly.read (fun u => u.mode.preparation) rfl
  · exact exec_signalling_refused rfl h (by rw [ownerOf, ownerResume_eq, if_neg hstate]) rfl

end

end Sys2Proof.Machine
end

section
/-! Granted retries (spec/07 R132, R133): the movement of a bay restarts from its beginning. -/

namespace Sys2Proof.Machine

/-! ### What a granted retry does -/

/-- A bay as a granted retry leaves it. -/
def Bay.retriedBy (s : State) (b : BayIx) (x : Bay) : Bay :=
  ({ x with retry := x.retry + 1, reclose := 0 } : Bay).enter (s.bayRecord b) s.platform x.restartPhase

/-- The four phases a movement restarts in (spec/07 R133). -/
theorem Bay.restartPhase_cases (x : Bay) : x.restartPhase = .unlocking ∨ x.restartPhase = .opening
    ∨ x.restartPhase = .closedUnlocked ∨ x.restartPhase = .closing := by
  unfold Bay.restartPhase
  repeat' split
  all_goals simp

theorem Bay.restartPhase_keepsMovement (x : Bay) : x.restartPhase.endsMovement = false := by
  rcases x.restartPhase_cases with h | h | h | h <;> rw [h] <;> rfl

theorem Bay.restartPhase_ne_closedLocked (x : Bay) : x.restartPhase ≠ .closedLocked := by
  rcases x.restartPhase_cases with h | h | h | h <;> simp [h]

theorem Bay.restartPhase_ne_warning (x : Bay) : x.restartPhase ≠ .warning := by
  rcases x.restartPhase_cases with h | h | h | h <;> simp [h]

section

variable {s t : State} {b : BayIx} {x : Bay} {e : Ev} {c : FaultCode}

theorem BayBecomes.retry (h : BayBecomes b s x e.s) (c : FaultCode) :
    BayBecomes b s (x.retriedBy s b) (e.retry b c).s := by
  have hcounted := h.onBay (fun y => { y with retry := y.retry + 1, reclose := 0 })
  have hposted := hcounted.post .faultRetry (some b) (highLow c.number (x.retry + 1))
  simp only [Ev.retry, h.bay]
  exact BayBecomes.enter (e := (e.onBay b _).on _) hposted x.restartPhase

/-- A code with a retry granted and no platform effect restarts the movement, whatever its action (spec/07 R131). -/
theorem Ev.raise_retries (h : BayBecomes b s x e.s) (d : Nat) (hgranted : s.retryGranted b c = true)
    (heffect : (s.response c).platformEffect = .none) (hfaulted : x.phase ≠ .faulted)
    (hmovement : x.movement = (s.bay b).movement) (hretry : x.retry = (s.bay b).retry) :
    e.raise b c d = (e.retry b c, .effect .none c :: Sys2Proof.Machine.entered b) := by
  have hunfaulted : (x.phase == .faulted) = false := by simp [hfaulted]
  rw [← h.retryGranted c hmovement hretry] at hgranted
  rw [← h.response c] at heffect
  simp only [Ev.raise, h.bay, hunfaulted, hgranted, heffect]
  rfl

/-- Such a code, carried out to the end, where the restart phase is entered quietly under the presence formed there. -/
theorem Runs.retried (h : BayBecomes b s x e.s) (d : Nat) (hgap : GapFresh s)
    (hlevel : x.lines.gap.level = (s.bay b).lines.gap.level) (hgranted : s.retryGranted b c = true)
    (heffect : (s.response c).platformEffect = .none) (hphase : x.phase = (s.bay b).phase) (hfaulted : x.phase ≠ .faulted)
    (hlocked : x.phase ≠ .closedLocked) (hmovement : x.movement = (s.bay b).movement) (hretry : x.retry = (s.bay b).retry)
    (hstarting : e.starting = false)
    (hquiet : ∀ p, (x.lines.curtain.level = false → p ≠ .blocking) →
      ({ x.retriedBy s b with presence := p } : Bay).EntersQuietly) :
    ∃ e' p, Runs 4 [.raise b c d] e e' ∧ BayBecomes b s { x.retriedBy s b with presence := p } e'.s := by
  have hretried := h.retry c
  have hpresence (hcurtain : x.lines.curtain.level = false) : (e.retry b c).s.presenceNow b ≠ .blocking :=
    State.presenceNow_ne_blocking _ _ (by rw [hretried.bay]; exact hcurtain)
  obtain ⟨e', hruns, _, hbay⟩ := Runs.entered hretried
    (hretried.gapFresh hgap x.restartPhase_ne_closedLocked (hphase ▸ hlocked) hlevel) (by simp [Ev.retry]) hstarting
    x.restartPhase_ne_warning (fun _ => hquiet _ hpresence)
  refine ⟨e', _, .single ?_, hbay⟩
  rw [Task.perform, Ev.raise_retries h d hgranted heffect hfaulted hmovement hretry]
  exact .step rfl hruns

theorem BayBecomes.retried {q : Phase} {limit : Nat} {p : Presence}
    (h : BayBecomes b s { x.retriedBy s b with presence := p } t) (hrestart : x.restartPhase = q)
    (hlimit : phaseTimer (s.bayRecord b) s.platform q = some (.start limit))
    (hmovement : x.movement = (s.bay b).movement) (hretry : x.retry = (s.bay b).retry)
    (hframe : x.frame = (s.bay b).frame) : Retried s t.settle b q limit := by
  have hkeeps := x.restartPhase_keepsMovement
  refine ⟨(h.settle_field Bay.phase fun _ => rfl).trans hrestart, (h.settle_field Bay.movement fun _ => rfl).trans ?movement,
    (h.settle_field Bay.retry fun _ => rfl).trans ?retry, (h.settle_field Bay.reclose fun _ => rfl).trans ?reclose,
    (h.settle_field Bay.timer fun _ => rfl).trans ?timer, (h.settle_field Bay.frame fun _ => rfl).trans hframe⟩
  case movement => simp [Bay.retriedBy, Bay.enter_movement, hkeeps, hmovement]
  case retry => simp [Bay.retriedBy, Bay.enter_retry, hkeeps, hretry]
  case reclose => simp [Bay.retriedBy, Bay.enter_reclose]
  case timer =>
    rw [← hrestart] at hlimit
    exact hlimit

/-! ### Phase limits -/

/-- A phase limit that runs out, answered with a retry. -/
theorem State.limitRow_retries {y : Timer} {q : Phase} {limit : Nat} (p : Bay → Bool) (hactive : s.active = true)
    (hgap : GapFresh s) (htimer : (s.bay b).timer = some y) (hp : p (s.bay b) = true) (hfaulted : (s.bay b).phase ≠ .faulted)
    (hlocked : (s.bay b).phase ≠ .closedLocked) (hgranted : s.retryGranted b c = true)
    (heffect : (s.response c).platformEffect = .none) (hrestart : (s.bay b).restartPhase = q)
    (hlimit : phaseTimer (s.bayRecord b) s.platform q = some (.start limit))
    (hquiet : ∀ z : Bay, z.phase = q → z.lines = (s.bay b).lines →
      ((s.bay b).lines.curtain.level = false → z.presence ≠ .blocking) → z.EntersQuietly) :
    Retried s (s.limitRow b p c) b q limit ∧ LinesStand s (s.limitRow b p c) ∧ ReleaseStands s (s.limitRow b p c)
      ∧ BayEvent b s (s.limitRow b p c) := by
  have hrow : s.limitRow b p c = s.event (fun e => e.limitExpires b c y) := by
    simp [State.limitRow, State.phaseTimerIn, hactive, hp, htimer]
  have hdropped : BayBecomes b s { s.bay b with timer := none } ((Ev.start s).limitExpires b c y).1.s :=
    (BayBecomes.refl b s).onBay (e := Ev.start s) (fun z => { z with timer := none })
  obtain ⟨e', _, hruns, hbay⟩ := Runs.retried hdropped y.limit hgap rfl hgranted heffect rfl hfaulted hlocked rfl rfl rfl
    (fun _ hpresence => hquiet _ hrestart rfl hpresence)
  rw [hrow, State.event_of_runs hruns (by decide)]
  exact ⟨hbay.retried hrestart hlimit rfl rfl rfl, hbay.linesStand rfl, hbay.releaseStands, hbay.bayEvent rfl⟩

end

/-- A bay that enters a phase other than CLOSING and REOPENING, with no proof that ends it, no DRIVE_FAULT and no conflict. -/
theorem Bay.entersQuietly_unproved {x : Bay} (hproof : x.proofNext = none) (hclosing : x.phase ≠ .closing)
    (hreopening : x.phase ≠ .reopening) (hdrive : x.lines.driveFault.level = false) (hconflict : x.lines.conflict = false) :
    x.EntersQuietly :=
  ⟨hproof, by simp [hreopening], by simp [hclosing], by simp [hdrive], by simp [hconflict]⟩

/-- Settles O15: each limit row is the same event, which restarts in the phase whose limit ran; what differs is the reason why
nothing at its entry raises a further code. -/
theorem phaseLimitRetriesTheMovement : Obligations.PhaseLimitRetriesTheMovement := by
  intro s b x hactive hgap htimer ⟨_, hdrive, hconflict⟩ hopen
  have row {q : Phase} {c : FaultCode} {limit : Nat} (p : Bay → Bool) :=
    State.limitRow_retries (q := q) (c := c) (limit := limit) p hactive hgap htimer
  have quiet {z : Bay} (hlines : z.lines = (s.bay b).lines) (hproof : z.proofNext = none) (hclosing : z.phase ≠ .closing)
      (hreopening : z.phase ≠ .reopening) : z.EntersQuietly :=
    Bay.entersQuietly_unproved hproof hclosing hreopening (hlines ▸ hdrive) (hlines ▸ hconflict)
  refine ⟨fun hphase hmovement hgranted heffect hclosed hlocked => ⟨_, rfl, ?unlocking⟩,
    fun hphase hmovement hgranted heffect hclosed => ⟨_, rfl, ?opening⟩,
    fun hphase hmovement hgranted heffect hclosed hobstructed hcurtain => ⟨_, rfl, ?closing⟩,
    fun hphase hmovement hgranted heffect hclosed hlocked => ⟨_, rfl, ?locking⟩⟩
  case unlocking | locking =>
    refine row _ (by simp [hphase]) (by simp [hphase]) (by simp [hphase]) hgranted heffect
      (by simp [Bay.restartPhase, hmovement, hclosed]) rfl (fun z hz hlines _ => ?_)
    exact quiet hlines (by simp [Bay.proofNext, hz, hlines, hlocked]) (by simp [hz]) (by simp [hz])
  case opening =>
    refine row _ (by simp [Bay.openLimitRuns, hphase]) (by simp [hphase]) (by simp [hphase]) hgranted heffect
      (by simp [Bay.restartPhase, hmovement, hclosed]) rfl (fun z hz hlines _ => ?_)
    exact quiet hlines (by simp [Bay.proofNext, hz, hlines, hopen]) (by simp [hz]) (by simp [hz])
  case closing =>
    refine row _ (by simp [hphase]) (by simp [hphase]) (by simp [hphase]) hgranted heffect
      (by simp [Bay.restartPhase, hmovement, hclosed]) rfl (fun z hz hlines hpresence => ?_)
    exact Bay.entersQuietly_closing hz (hlines ▸ hclosed) (hlines ▸ hobstructed) (.inl (hpresence hcurtain))
      (hlines ▸ hdrive) (hlines ▸ hconflict)

end Sys2Proof.Machine
end

section
/-! The law of HALTED (spec/08 R151, R152): in HALTED no part of an event has a bay begin to move, and the part that brings
HALTED has every bay stopped. -/

namespace Sys2Proof.Machine

/-! ### Phases that begin to move -/

/-- No bay begins to move. -/
def NoneStarts (s t : State) : Prop := ∀ b, (t.bay b).phase.isMoving = true → (s.bay b).phase.isMoving = true

section

variable {s t u : State} {e e' : Ev} {b : BayIx} {q : Phase}

theorem NoneStarts.refl (s : State) : NoneStarts s s := fun _ => id

theorem NoneStarts.of_phases (h : ∀ b, (t.bay b).phase = (s.bay b).phase) : NoneStarts s t := fun b hb => by rwa [h] at hb

theorem NoneStarts.of_outlook (h : t.outlook = s.outlook) : NoneStarts s t :=
  .of_phases fun b => congrFun (congrArg Outlook.phase h) b

theorem NoneStarts.of_start (h : t.outlook = s.outlook) (k : NoneStarts t u) : NoneStarts s u :=
  fun b hb => NoneStarts.of_outlook h b (k b hb)

/-- A bay that moves passes to another phase. -/
theorem NoneStarts.goesOn (h : t.outlook = s.outlook.move b q)
    (hq : q.isMoving = true → (s.bay b).phase.isMoving = true) : NoneStarts s t := by
  intro c hc
  have hphase : (t.bay c).phase = Function.update (fun c => (s.bay c).phase) b q c := congrFun (congrArg Outlook.phase h) c
  rw [hphase] at hc
  by_cases hcb : c = b
  · subst hcb
    rw [Function.update_self] at hc
    exact hq hc
  · rwa [Function.update_of_ne hcb] at hc

/-- A bay comes to a phase in which it does not move. -/
theorem NoneStarts.rests (h : t.outlook = s.outlook.move b q) (hq : q.isMoving = false) : NoneStarts s t :=
  .goesOn h fun hs => absurd (hs.symm.trans hq) nofun

/-! ### Claims and stops -/

/-- In HALTED every claim is refused (spec/08 R152). -/
theorem Ev.openClaim_halted (b : BayIx) (h : e.s.mode.mode = .halted) : e.openClaim b = (e, []) := by
  have hrefused : e.s.judgeOpen b = .refused .phase := by simp [State.judgeOpen, h]
  rw [Ev.openClaim, hrefused]

theorem Ev.closeClaim_halted (b : BayIx) (h : e.s.mode.mode = .halted) : e.closeClaim b = (e, []) := by
  have hrefused : ∃ r, e.s.judgeClose b = .refused r := by
    unfold State.judgeClose
    split
    · exact ⟨_, rfl⟩
    · exact ⟨.phase, by simp [h]⟩
  obtain ⟨r, hr⟩ := hrefused
  rw [Ev.closeClaim, hr]

theorem Ev.handOpen_halted (b : BayIx) (h : e.s.mode.mode = .halted) : (e.handOpen b).1.s = e.s := by
  unfold Ev.handOpen
  repeat' split
  · rfl
  · rfl
  · rw [Ev.openClaim_halted b h]

theorem Ev.openMember_halted (again : Bool) (b : BayIx) (h : e.s.mode.mode = .halted) : (e.openMember again b).1.s = e.s := by
  unfold Ev.openMember
  repeat' split
  all_goals first | rfl | exact Ev.handOpen_halted b h

theorem Ev.closeMember_halted (reported : Bool) (b : BayIx) (h : e.s.mode.mode = .halted) :
    (e.closeMember reported b).1.s = e.s := by
  have hsay (r : Reason) : ((if reported then e.report b r else e, []) : Ev × List Task).1.s = e.s := by
    cases reported <;> rfl
  simp only [Ev.closeMember]
  split
  · exact hsay _
  · split
    · exact hsay _
    · split
      · exact hsay _
      · rw [Ev.closeClaim_halted b h]

theorem NoneStarts.of_eq (h : t = s) : NoneStarts s t := h ▸ .refl s

theorem NoneStarts.openClaim (b : BayIx) (h : e.s.mode.mode = .halted) : NoneStarts e.s (e.openClaim b).1.s :=
  .of_eq (by rw [Ev.openClaim_halted b h])

theorem NoneStarts.closeClaim (b : BayIx) (h : e.s.mode.mode = .halted) : NoneStarts e.s (e.closeClaim b).1.s :=
  .of_eq (by rw [Ev.closeClaim_halted b h])

theorem NoneStarts.stopBay (e : Ev) (b : BayIx) : NoneStarts e.s (e.stopBay b).1.s := by
  unfold Ev.stopBay
  split
  · exact .rests (Ev.outlook_enter e b .stopped) rfl
  · exact .refl _

/-- A SLIDING bay that has been stopped moves no more (spec/08 R151). -/
theorem Ev.stopBay_rests (hk : e.s.sliding b = true) : ((e.stopBay b).1.s.bay b).phase.isMoving = false := by
  unfold Ev.stopBay
  split
  · rw [Ev.enter_bay_self]; rfl
  · next hstill => simpa [hk] using hstill

/-! ### Checks at entry and faults -/

theorem Bay.proofNext_moves {x : Bay} (h : x.proofNext = some q) (hq : q.isMoving = true) : x.phase.isMoving = true := by
  unfold Bay.proofNext at h
  repeat' split at h
  all_goals first
    | (rw [‹x.phase = _›]; rfl)
    | (cases h <;> exact absurd hq nofun)

theorem NoneStarts.obstruct (e : Ev) (atEntry : Bool) (b : BayIx) : NoneStarts e.s (e.obstruct atEntry b).1.s := by
  simp only [Ev.obstruct]
  split
  · exact .refl _
  · next hphase =>
    have hclosing : (e.s.bay b).phase = .closing := by simpa using hphase
    split
    · refine .goesOn (b := b) (q := .reopening) ?_ (fun _ => by rw [hclosing]; rfl)
      split <;> simp [-Ev.onBay_s]
    · exact .refl _

theorem NoneStarts.entryChecks (e : Ev) (b : BayIx) : NoneStarts e.s (e.entryChecks b).1.s := by
  simp only [Ev.entryChecks]
  split
  · next q hq => exact .goesOn (Ev.outlook_enter e b q) (Bay.proofNext_moves hq)
  · repeat' split
    all_goals exact .of_outlook (Ev.outlook_pauseAtEntry e b)

theorem NoneStarts.judgeEntry (e : Ev) (b : BayIx) :
    NoneStarts e.s (if e.s.sliding b then e.entryChecks b else (e, [])).1.s := by
  split
  · exact .entryChecks e b
  · exact .refl _

theorem NoneStarts.arrive (e : Ev) (b : BayIx) : NoneStarts e.s (e.arrive b).1.s := by
  have hformed : (if e.starting then e.s else e.s.formPresence b).outlook = e.s.outlook := by
    split
    · rfl
    · exact State.outlook_formPresence _ _
  unfold Ev.arrive
  split
  · exact .of_start hformed (.judgeEntry _ b)
  · exact .refl _

theorem NoneStarts.raiseNested (e : Ev) (b : BayIx) (c : FaultCode) : NoneStarts e.s (e.raiseNested b c).1.s := by
  simp only [Ev.raiseNested]
  repeat' split
  all_goals exact .of_outlook (by simp)

/-- In HALTED no retry is granted (spec/07 R132). -/
theorem State.retryGranted_halted (b : BayIx) (c : FaultCode) (h : s.mode.mode = .halted) : s.retryGranted b c = false := by
  have hforbidden (m : Movement) : s.restartForbidden m = true := by cases m <;> simp [State.restartForbidden, h]
  simp [State.retryGranted, hforbidden]

theorem NoneStarts.raise (b : BayIx) (c : FaultCode) (d : Nat) (h : e.s.mode.mode = .halted) :
    NoneStarts e.s (e.raise b c d).1.s := by
  simp only [Ev.raise, State.retryGranted_halted b c h, Bool.false_eq_true, if_false]
  repeat' split
  · exact .raiseNested e b c
  · exact .rests (b := b) (q := .stopped) (by simp) rfl
  · exact .of_outlook (by simp)
  · exact .rests (b := b) (q := .faulted) (by simp) rfl

/-! ### Releases and derived phases -/

theorem derivedPhase_rests (k : BayKind) (i : BayLines) : (derivedPhase k i).isMoving = false := by
  unfold derivedPhase
  repeat' split
  all_goals rfl

theorem NoneStarts.derive (e : Ev) (b : BayIx) : NoneStarts e.s (e.derive b).1.s := by
  have hrests := derivedPhase_rests (e.s.kind b) (e.s.bay b).lines
  have hentered : ((e.onBay b (fun x => { x with movement := .none, retry := 0, reclose := 0 })).enter b
      (derivedPhase (e.s.kind b) (e.s.bay b).lines)).s.outlook
      = e.s.outlook.move b (derivedPhase (e.s.kind b) (e.s.bay b).lines) := by
    simp [-Ev.onBay_s]
  simp only [Ev.derive]
  split
  · refine .rests (b := b) ?_ hrests
    split
    · exact hentered
    · rw [Ev.on_s, State.outlook_openRecord, hentered]
  · exact .rests ((Ev.outlook_takeDerivedConflict _ _).trans hentered) hrests
  all_goals exact .rests hentered hrests

theorem NoneStarts.deriveBack (e : Ev) (b : BayIx) : NoneStarts e.s ((e.on (fun s => s.restoreBay b)).derive b).1.s :=
  .of_start (State.outlook_restoreBay _ _) (.derive _ b)

theorem NoneStarts.enterReleased (e : Ev) (b : BayIx) (k : ReleaseKind) : NoneStarts e.s (e.enterReleased b k).s :=
  .rests (Ev.outlook_enterReleased e b k) rfl

theorem NoneStarts.fireSet (e : Ev) (f : FireSource) : NoneStarts e.s (e.fireSet f).1.s := by
  unfold Ev.fireSet
  split
  · exact .refl _
  · exact .of_phases fun b => by simp [State.bay]

theorem NoneStarts.fireOpen (b : BayIx) (h : e.s.mode.mode = .halted) : NoneStarts e.s (e.fireOpen b).1.s := by
  simp only [Ev.fireOpen]
  split
  · exact .openClaim b h
  · exact .refl _

theorem NoneStarts.fireRelease (e : Ev) (b : BayIx) : NoneStarts e.s (e.fireRelease b).1.s := by
  simp only [Ev.fireRelease]
  split
  · exact .enterReleased e b _
  · exact .refl _

theorem NoneStarts.fireBack (b : BayIx) (h : e.s.mode.mode = .halted) : NoneStarts e.s (e.fireBack b).1.s := by
  simp only [Ev.fireBack]
  repeat' split
  · exact .refl _
  · exact .enterReleased e b _
  · exact .openClaim b h

theorem NoneStarts.fireClose (b : BayIx) (h : e.s.mode.mode = .halted) : NoneStarts e.s (e.fireClose b).1.s := by
  simp only [Ev.fireClose]
  split
  · exact .closeClaim b h
  · exact .refl _

theorem NoneStarts.fireUndo (e : Ev) (b : BayIx) : NoneStarts e.s (e.fireUndo b).1.s := by
  unfold Ev.fireUndo
  split
  · exact .deriveBack e b
  · exact .refl _

theorem NoneStarts.linkLoss (b : BayIx) (h : e.s.mode.mode = .halted) : NoneStarts e.s (e.linkLoss b).1.s := by
  simp only [Ev.linkLoss]
  repeat' split
  all_goals first | exact .closeClaim b h | exact .stopBay e b | exact .refl _

theorem NoneStarts.exitClose (b : BayIx) (h : e.s.mode.mode = .halted) : NoneStarts e.s (e.exitClose b).1.s := by
  simp only [Ev.exitClose]
  split
  · exact .closeClaim b h
  · exact .refl _

/-! ### BAY_COMMAND on one bay -/

theorem NoneStarts.isolate (e : Ev) (b : BayIx) : NoneStarts e.s (e.isolate b).1.s := by
  refine .rests (b := b) (q := .isolated) ?_ rfl
  simp only [Ev.isolate]
  split <;> simp

theorem NoneStarts.restore (e : Ev) (b : BayIx) : NoneStarts e.s (e.restore b).1.s := by
  have hheld : ((e.enter b .closedLocked).onBay b (fun x => { x with hold := true })).s.outlook
      = e.s.outlook.move b .closedLocked := by
    simp [-Ev.onBay_s]
  simp only [Ev.restore]
  split
  · exact .rests (b := b) (q := .released) (by rw [Ev.outlook_enterReleased, hheld, Outlook.move_move]) rfl
  · exact .rests hheld rfl

theorem NoneStarts.act (a : BayAction) (b : BayIx) (h : e.s.mode.mode = .halted) : NoneStarts e.s (e.act a b).1.s := by
  cases a with
  | opens => exact .openClaim b h
  | closes => exact .closeClaim b h
  | stop => exact .stopBay e b
  | hold => exact .of_outlook (Ev.outlook_onBay _ _ _ (fun _ => rfl))
  | free => exact .of_outlook (Ev.outlook_onBay _ _ _ (fun _ => rfl))
  | isolate => exact .isolate e b
  | restore => exact .restore e b
  | clearFault => exact .of_start (State.outlook_clearFrame _ _ _) (.derive _ b)

theorem NoneStarts.command (a : BayAction) (b : BayIx) (h : e.s.mode.mode = .halted) : NoneStarts e.s (e.command a b).1.s := by
  unfold Ev.command
  split
  · exact .refl _
  · exact NoneStarts.act (e := { e with accepted := e.accepted ++ [b] }) a b h

/-! ### Every task -/

/-- In HALTED no task has a bay begin to move (spec/08 R152). -/
theorem Task.noneStarts (t : Task) (h : e.s.mode.mode = .halted) : NoneStarts e.s (t.perform e).1.s := by
  cases t with
  | formGap => exact .of_phases e.formGap_phases
  | presence b => exact .of_outlook (State.outlook_formPresence _ _)
  | arrive b => exact .arrive e b
  | obstruct atEntry b => exact .obstruct e atEntry b
  | conflict b => exact .of_eq (by simp only [Task.perform, Ev.raiseConflict]; split <;> rfl)
  | raise b c d => exact .raise b c d h
  | raiseAtEntry b c d => exact .raise b c d h
  | raiseFace c d => exact .of_phases (PhasesStand.raiseFace e c d).phase
  | effect x c => exact .of_phases (e.effect_phases x c)
  | openMember again b => exact .of_eq (Ev.openMember_halted again b h)
  | closeMember reported b => exact .of_eq (Ev.closeMember_halted reported b h)
  | haltStop b => exact .stopBay e b
  | fireSet f => exact .fireSet e f
  | fireOpen b => exact .fireOpen b h
  | fireRelease b => exact .fireRelease e b
  | fireBack b => exact .fireBack b h
  | fireClose b => exact .fireClose b h
  | fireUndo b => exact .fireUndo e b
  | linkLoss b => exact .linkLoss b h
  | postExpired period => exact .refl _
  | departWatch => exact .of_phases (PhasesStand.departWatch e).phase
  | exitClose b => exact .exitClose b h
  | command a b => exact .command a b h

end

end Sys2Proof.Machine
end

section
/-! In HALTED a SLIDING bay that still moves is about to be stopped: how every event begins, and what every step keeps
(spec/08 R151, R152). -/

namespace Sys2Proof.Machine

/-! ### Bays about to stop -/

/-- A SLIDING bay moves. -/
def State.MovesAt (s : State) (b : BayIx) : Prop := s.sliding b = true ∧ (s.bay b).phase.isMoving = true

/-- In HALTED, every SLIDING bay that moves is about to be stopped. -/
def HaltMinded (ts : List Task) (s : State) : Prop := s.mode.mode = .halted → ∀ b, s.MovesAt b → .haltStop b ∈ ts

/-- A part of an event that begins in a state: in HALTED no SLIDING bay begins to move by it, and where it brings HALTED it has
every bay stopped. -/
structure HaltKept (s : State) (p : Ev × List Task) : Prop where
  moves : s.mode.mode = .halted → ∀ b, p.1.s.MovesAt b → s.MovesAt b
  halts : s.mode.mode ≠ .halted → p.1.s.mode.mode ≠ .halted ∨ ∀ b, .haltStop b ∈ p.2

section

variable {s t : State} {e : Ev} {b : BayIx} {ts us : List Task} {p : Ev × List Task}

theorem PhasesStand.movesAt (h : PhasesStand s t) (hb : t.MovesAt b) : s.MovesAt b := by
  obtain ⟨hk, hm⟩ := hb
  rw [h.sliding] at hk
  rw [h.phase] at hm
  exact ⟨hk, hm⟩

theorem HaltMinded.of_stands (h : HaltMinded ts s) (k : PhasesStand s t) : HaltMinded ts t :=
  fun hmode b hb => h (by rwa [k.mode] at hmode) b (k.movesAt hb)

/-- The bays that move after a part are about to be stopped, if those that moved before it and move still were. -/
theorem HaltKept.minded (h : HaltKept s p)
    (hb : s.mode.mode = .halted → ∀ b, s.MovesAt b → p.1.s.MovesAt b → .haltStop b ∈ ts) (hts : ∀ u ∈ ts, u ∈ us)
    (hp : ∀ u ∈ p.2, u ∈ us) : HaltMinded us p.1.s := by
  intro hmode b hmoves
  by_cases hbefore : s.mode.mode = .halted
  · exact hts _ (hb hbefore b (h.moves hbefore b hmoves) hmoves)
  · exact hp _ ((h.halts hbefore).resolve_left (fun hrunning => hrunning hmode) b)

theorem HaltMinded.followed (h : HaltMinded ts e.s) (hp : HaltKept e.s p) : HaltMinded (ts ++ p.2) p.1.s :=
  hp.minded (fun hmode b hb _ => h hmode b hb) (fun _ => List.mem_append_left _) (fun _ => List.mem_append_right _)

/-- A part that leaves the kinds alone. Where it brings HALTED is said with the law of the fire latch. -/
theorem HaltKept.of_noneStarts (k : FireKept s p) (hkept : p.1.s.kept = s.kept)
    (h : s.mode.mode = .halted → NoneStarts s p.1.s) : HaltKept s p :=
  ⟨fun hmode b ⟨hk, hm⟩ => ⟨by rwa [State.kept_sliding (State.kept_same hkept)] at hk, h hmode b hm⟩, k.halts⟩

theorem HaltKept.of_stands (h : PhasesStand s p.1.s) : HaltKept s p :=
  ⟨fun _ _ => h.movesAt, (FireKept.of_stands h).halts⟩

/-- A part may begin after a change that leaves the phases as they were. -/
theorem HaltKept.of_start (h : PhasesStand s e.s) (k : HaltKept e.s p) : HaltKept s p :=
  ⟨fun hmode b hb => h.movesAt (k.moves (by rwa [h.mode]) b hb), fun hmode => k.halts (by rwa [h.mode])⟩

theorem Task.haltKept (t : Task) (e : Ev) : HaltKept e.s (t.perform e) :=
  .of_noneStarts (t.fireKept e) (Task.kept_perform t e) t.noneStarts

/-- A task at the front that stops a bay has done so: a bay that moves after it waits for another. -/
theorem HaltMinded.perform (u : Task) (ts : List Task) (e : Ev) (h : HaltMinded (u :: ts) e.s) :
    HaltMinded ((u.perform e).2 ++ ts) (u.perform e).1.s := by
  refine (u.haltKept e).minded (fun hmode b hbefore hafter => ?_) (fun _ => List.mem_append_right _)
    (fun _ => List.mem_append_left _)
  refine (List.mem_cons.mp (h hmode b hbefore)).resolve_left ?_
  rintro rfl
  exact absurd (hafter.2.symm.trans (Ev.stopBay_rests hbefore.1)) nofun

/-! ### How events begin -/

/-- Only UNLOCKING is left for a moving phase by an input (spec/01 R8). -/
theorem Bay.inputAction_moves {x : Bay} {i : BayInput} {q : Phase} (h : x.inputAction i = .enters q)
    (hq : q.isMoving = true) : x.phase.isMoving = true := by
  simp only [Bay.inputAction] at h
  repeat' split at h
  all_goals first
    | (rw [‹x.phase = _›]; rfl)
    | (cases h <;> exact absurd hq nofun)

theorem NoneStarts.slidingInput (e : Ev) (b : BayIx) (i : BayInput) : NoneStarts e.s (e.slidingInput b i).1.s := by
  simp only [Ev.slidingInput]
  split
  · exact .refl _
  · next q hq => exact .goesOn (Ev.outlook_enter e b q) (Bay.inputAction_moves hq)
  · exact .refl _
  · exact .of_outlook (Ev.outlook_onBay _ _ _ (fun _ => rfl))
  · exact .refl _

theorem NoneStarts.sensorInput (e : Ev) (b : BayIx) (sensor : Sensor) : NoneStarts e.s (e.sensorInput b sensor).1.s := by
  cases sensor <;> exact .of_outlook (Ev.outlook_onBay _ _ _ (fun _ => by split <;> rfl))

theorem NoneStarts.keyActive (e : Ev) (b : BayIx) : NoneStarts e.s (e.keyActive b).1.s := by
  unfold Ev.keyActive
  split
  all_goals first | exact .refl _ | exact .enterReleased e b _

theorem NoneStarts.keyInactive (e : Ev) (b : BayIx) : NoneStarts e.s (e.keyInactive b).1.s := by
  unfold Ev.keyInactive
  split
  · exact .deriveBack e b
  · exact .refl _

theorem NoneStarts.doorInput (e : Ev) (b : BayIx) : NoneStarts e.s (e.doorInput b).1.s := by
  simp only [Ev.doorInput]
  split
  · repeat' split
    · exact .refl _
    · exact .refl _
    · exact .enterReleased e b _
  · split
    · exact .rests (b := b) (q := .closedLocked) (by simp) rfl
    · exact .refl _
  all_goals exact .refl _

theorem NoneStarts.bayInput (e : Ev) (b : BayIx) (i : BayInput) : NoneStarts e.s (e.bayInput b i).1.s := by
  unfold Ev.bayInput
  split
  · exact .refl _
  · cases i with
    | curtain => exact .sensorInput e b _
    | gap => exact .sensorInput e b _
    | releaseKey =>
      dsimp only
      split
      · exact .keyActive e b
      · exact .keyInactive e b
    | _ => exact .slidingInput e b _
  · cases i <;> first | exact .refl _ | exact .doorInput e b
  · cases i <;> first | exact .refl _ | exact .doorInput e b

/-- A part that moves no bay. -/
theorem HaltKept.of_bays (k : FireKept s p) (hbays : p.1.s.bays = s.bays) (hstore : p.1.s.store = s.store) : HaltKept s p := by
  refine ⟨fun _ b hb => ?_, k.halts⟩
  simpa only [State.MovesAt, State.sliding, State.kind, State.bayRecord, State.bay, hbays, hstore] using hb

theorem HaltKept.fireReset (e : Ev) : HaltKept e.s e.fireReset := by
  refine .of_bays (.fireReset e) ?_ ?_ <;>
  · simp only [Ev.fireReset]
    repeat' split
    all_goals simp

theorem HaltKept.leaveMaintenance (e : Ev) : HaltKept e.s e.leaveMaintenance := .of_bays (.leaveMaintenance e) rfl rfl

theorem HaltKept.enterHalted (e : Ev) (c : HaltCause) : HaltKept e.s (e.enterHalted c) := by
  refine .of_bays (.enterHalted e c) ?_ ?_ <;>
  · unfold Ev.enterHalted
    split <;> rfl

theorem HaltKept.done (e : Ev) : HaltKept e.s (e, ts) := .of_stands (.refl _)

theorem HaltKept.functionChange (e : Ev) (f : LineFunction) (level : Bool) (n : LineIx) :
    HaltKept e.s (e.functionChange f level n) := by
  unfold Ev.functionChange
  repeat' split
  all_goals first
    | exact .done e
    | exact .fireReset e
    | exact .leaveMaintenance e
    | exact .of_stands (.of_fields rfl rfl rfl rfl rfl)

theorem HaltKept.generalChange (e : Ev) (n : LineIx) : HaltKept e.s (e.generalChange n) := by
  unfold Ev.generalChange
  split
  · unfold Ev.berthSensor
    repeat' split
    all_goals first
      | exact .done e
      | exact .of_stands (.departWatch e)
      | exact .of_stands (.of_fields rfl rfl rfl rfl rfl)
  · exact .of_stands (.generalEdge e.s n)
  · exact .functionChange e _ _ n

theorem HaltKept.filteredChange (e : Ev) (l : InputLine) : HaltKept e.s (e.filteredChange l) := by
  refine .of_start (e := e.on (fun s => s.changeLevel l)) (.setInputLine e.s l _) ?_
  cases l with
  | general n => exact .generalChange _ n
  | bay b i =>
    have hkept := Ev.kept_bayInput (e.on (fun s => s.changeLevel (.bay b i))) b i
    exact .of_noneStarts ((BayPart.bayInput _ b i).fireKept hkept) hkept (fun _ => .bayInput _ b i)

/-- A bay that has moved so far goes on to CLOSING (spec/01 R11, R13). -/
theorem HaltKept.toClosing (e : Ev) (b : BayIx) (h : (e.s.bay b).phase.shuts = true) : HaltKept e.s (e.toClosing b) :=
  .of_noneStarts (.toClosing e b h) (Ev.kept_enter e b _)
    (fun _ => .goesOn (Ev.outlook_enter e b .closing) (fun _ => Phase.isMoving_of_shuts h))

theorem HaltKept.forceClosing (e : Ev) (b : BayIx) (x : Timer) (h : (e.s.bay b).phase.shuts = true) :
    HaltKept e.s (e.forceClosing b x) := by
  have hforced := PhasesStand.onBay (e.enter b .closing) b (fun x => { x with forced := true }) (fun _ => rfl)
  have hposted : PhasesStand (e.toClosing b).1.s (e.forceClosing b x).1.s := hforced.trans (.of_fields rfl rfl rfl rfl rfl)
  exact ⟨fun hmode c hc => (HaltKept.toClosing e b h).moves hmode c (hposted.movesAt hc), (FireKept.forceClosing e b x h).halts⟩

theorem NoneStarts.restartBay (e : Ev) (b : BayIx) : NoneStarts e.s (e.restartBay b).1.s := by
  have hcleared : (e.clearForKind b).s.outlook = e.s.outlook := by
    unfold Ev.clearForKind
    split
    · exact State.outlook_clearFrame _ _ _
    · rfl
  rw [Ev.restartBay_eq]
  refine .of_start ((Ev.outlook_onBay _ b Bay.startedAgain (fun _ => rfl)).trans hcleared) ?_
  split
  · exact .derive _ b
  · exact .rests (b := b) (q := .notFitted) (Ev.outlook_enter _ _ _) rfl

theorem Ev.kept_restartBay (e : Ev) (b : BayIx) : (e.restartBay b).1.s.kept = e.s.kept := by
  have hcleared : (e.clearForKind b).s.kept = e.s.kept := by
    unfold Ev.clearForKind
    split
    · exact State.kept_clearFrame _ _ _
    · rfl
  have hstarted := (Ev.kept_onBay (e.clearForKind b) b Bay.startedAgain (fun _ => rfl)).trans hcleared
  rw [Ev.restartBay_eq]
  split
  · exact (Ev.kept_derive _ b).trans hstarted
  · exact (Ev.kept_enter _ b _).trans hstarted

theorem Phase.rests_of_admitsKindChange {q : Phase} (h : q.admitsKindChange = true) : q.isMoving = false := by
  cases q <;> first | rfl | exact absurd h nofun

/-- No kind changes while its bay moves (spec/01 R2). -/
theorem HaltKept.writeBay (e : Ev) (b : BayIx) (r : BayRecord)
    (h : r.kind ≠ e.s.kind b → (e.s.bay b).phase.admitsKindChange = true) : HaltKept e.s (e.writeBay b r) := by
  refine ⟨fun _ c ⟨hk, hm⟩ => ?_, (FireKept.writeBay e b r h).halts⟩
  have hrecord : (e.writeBay b r).1.s.sliding c = (e.s.setBayRecord b r).sliding c ∧ NoneStarts e.s (e.writeBay b r).1.s := by
    simp only [Ev.writeBay]
    split
    · exact ⟨State.kept_sliding (State.kept_same (Ev.kept_restartBay (e.on fun s => s.setBayRecord b r) b)) c,
        .restartBay (e.on fun s => s.setBayRecord b r) b⟩
    · exact ⟨rfl, .refl e.s⟩
  obtain ⟨hsliding, hmoving⟩ := hrecord
  refine ⟨?_, hmoving c hm⟩
  rwa [hsliding, State.setBayRecord_sliding] at hk
  rintro rfl
  by_contra hkind
  exact absurd ((hmoving c hm).symm.trans (Phase.rests_of_admitsKindChange (h hkind))) nofun

theorem HaltKept.compareOwner (e : Ev) (before : State) (f : LineFunction) (n : LineIx) :
    HaltKept e.s (e.compareOwner before f n) := by
  simp only [Ev.compareOwner]
  split
  · exact .functionChange e _ _ n
  · exact .done e

theorem HaltMinded.writeLine (h : HaltMinded [] e.s) (n : LineIx) (r : LineRecord) :
    HaltMinded (e.writeLine n r).2 (e.writeLine n r).1.s := by
  have hwritten : HaltMinded [] (e.on (fun s => s.writeLine n r)).s := h.of_stands (.writeLine e.s n r)
  refine HaltMinded.followed ?_ (.done _)
  split
  · exact hwritten.of_stands (.receiveStanding _ _)
  · exact (hwritten.followed (.compareOwner _ _ _ n)).followed (.compareOwner _ _ _ n)

/-! ### The end of STARTING -/

/-- Each bay has entered its derived phase, by its own lines and records (spec/01 R23). -/
theorem State.deriveAll_bay (s : State) (b : BayIx) : s.deriveAll.bay b
    = (s.bay b).enter (s.bayRecord b) s.platform (derivedPhase (s.kind b) (s.bay b).lines) := by
  have hstore (u : State) (d : BayIx) : (u.deriveAtStart d).store = u.store := rfl
  have hother (u : State) {c d : BayIx} (hne : c ≠ d) : (u.deriveAtStart d).bay c = u.bay c := State.bay_setBay_ne _ _ _ _ hne
  refine foldl_each State.deriveAtStart (fun c u => u.bay c = s.bay c ∧ u.store = s.store)
    (fun c u => u.bay c = (s.bay c).enter (s.bayRecord c) s.platform (derivedPhase (s.kind c) (s.bay c).lines))
    (fun c u ⟨hbay, hu⟩ => ?_) (fun c d u hne ⟨hbay, hu⟩ => ⟨(hother u hne).trans hbay, (hstore u d).trans hu⟩)
    (fun c d u hne hu => (hother u hne).trans hu) nodup_allBays s (fun _ _ => ⟨rfl, rfl⟩) b (mem_allBays b)
  simp only [State.deriveAtStart, State.bay_setBay_self, hbay, State.kind, State.bayRecord, State.platform, hu]

theorem State.deriveAll_phase (s : State) (b : BayIx) : (s.deriveAll.bay b).phase = derivedPhase (s.kind b) (s.bay b).lines := by
  rw [State.deriveAll_bay]
  rfl

/-- At the end of STARTING each bay is in its derived phase (spec/01 R23). -/
theorem Ev.endStarting_phase (s : State) (b : BayIx) :
    ((Ev.endStarting (Ev.start s)).1.s.bay b).phase = derivedPhase (s.readLines.kind b) (s.readLines.bay b).lines := by
  have hreleased := foldl_same State.startRelease (fun u => (u.bay b).phase) (fun u c => u.startRelease_phase c) allBays
    s.startFaulted.startMode
  have hmode (u : State) : u.startMode.bay b = u.bay b := rfl
  rw [Ev.endStarting_s, State.standingKey_bay, hreleased, hmode, s.startFaulted_phase, State.deriveAll_phase]

/-! ### Every event and every step -/

/-- In HALTED no SLIDING bay moves, if none did before and however the event begins, but for those about to be stopped. -/
theorem EventStart.haltMinded {f : Ev → Ev × List Task} (h : EventStart s f) (hs : HaltMinded [] s) :
    HaltMinded (f (Ev.start s)).2 (f (Ev.start s)).1.s := by
  have kept {p : Ev × List Task} (k : HaltKept s p) : HaltMinded p.2 p.1.s := hs.followed (e := Ev.start s) k
  cases h with
  | stands h => exact kept (.of_stands h)
  | endStarting =>
    intro _ b ⟨_, hb⟩
    rw [Ev.endStarting_phase, derivedPhase_rests] at hb
    exact absurd hb nofun
  | filteredChange l => exact kept (.filteredChange (Ev.start s) l)
  | toClosing b h => exact kept (.toClosing (Ev.start s) b h)
  | forceClosing b x h => exact kept (.forceClosing (Ev.start s) b x h)
  | enterHalted c => exact kept (.enterHalted (Ev.start s) c)
  | enterMaintenance => exact kept ⟨fun _ _ => id, fun _ => .inl nofun⟩
  | leaveMaintenance => exact kept (.leaveMaintenance (Ev.start s))
  | writeBay b r h => exact kept (.writeBay (Ev.start s) b r h)
  | writeLine n r => exact HaltMinded.writeLine (e := Ev.start s) hs n r

/-- With no task that waits, that every moving bay is about to be stopped is the law itself. -/
theorem haltedLaw_iff_minded : HaltedLaw s ↔ (s.stalled = false → HaltMinded [] s) := by
  simp only [HaltedLaw, HaltMinded, State.MovesAt, List.not_mem_nil, imp_false, not_and, Bool.not_eq_true]

theorem HaltedLaw.of_stands (h : HaltedLaw s) (k : PhasesStand s t) : HaltedLaw t :=
  haltedLaw_iff_minded.mpr fun hstalled => (haltedLaw_iff_minded.mp h (by rwa [k.stalled] at hstalled)).of_stands k

theorem HaltedLaw.event {f : Ev → Ev × List Task} (h : HaltedLaw s) (hruns : s.stalled = false) (hf : EventStart s f) :
    HaltedLaw (s.event f) := by
  refine HaltedLaw.of_stands (haltedLaw_iff_minded.mpr fun hstalled => ?_) (.settle _)
  rcases run_agenda (fun ts e => HaltMinded ts e.s) HaltMinded.perform Config.eventBound _ _
    (hf.haltMinded (haltedLaw_iff_minded.mp h hruns)) with hstall | hend
  · exact absurd (hstall.symm.trans hstalled) nofun
  · exact hend

theorem HaltedLaw.restart (u : State) (c : RestartCause) : HaltedLaw (u.restart c) := fun _ hmode => absurd hmode nofun

theorem HaltedLaw.step (h : HaltedLaw s) (hstep : step s = .next t) : HaltedLaw t := by
  cases step_comes hstep with
  | stands k => exact h.of_stands k
  | restart u c k => rw [k]; exact .restart u c
  | event u f hbefore hruns hf hafter => exact ((h.of_stands hbefore).event hruns hf).of_stands hafter

/-- Settles O58: in HALTED no part of an event has a bay begin to move, and the part that brings HALTED has every bay stopped
before the event ends; the drives follow the phases. -/
theorem haltedLawKept : Obligations.HaltedLawKept := by
  intro s t h hstep
  have hlaw := h.step hstep
  refine ⟨hlaw, fun hpins => ?_⟩
  obtain ⟨_, _, _, hdrives⟩ := pinsAndProofFollowEveryStep.1 s t hpins hstep
  exact hdrives hlaw

end

end Sys2Proof.Machine
end

section
/-! The front of the queue, the supply and RESET_N (spec/08 R146), and HALT, PREPARE_RESTART and RESTART (spec/08 R151, R156). -/

namespace Sys2Proof.Machine

/-! ### The front of the queue -/

theorem exec_next (c : Instr) (s : State) : ∃ t, exec c s = .next t := (exec_comes c s).imp fun _ h => h.1

theorem step_next (s : State) : ∃ t, step s = .next t := by
  rcases hp : s.pending with _ | ⟨c, rest⟩
  · rcases hd : s.dueCommand with _ | c
    · exact ⟨_, step_of_none_due hp hd⟩
    · rw [step_of_due hp hd]
      exact exec_next c s
  · rw [step_of_pending hp]
    exact exec_next c _

/-- Settles O1: the queue's front is what a step carries out, and every arm of the dispatch answers a next state. -/
theorem stepRunsTheFrontCommand : Obligations.StepRunsTheFrontCommand :=
  ⟨fun _ _ _ => step_of_pending rfl, exec_next, step_next⟩

/-! ### The beginning of a restart -/

section

variable {s : State}

theorem State.restart_bay (s : State) (c : RestartCause) (b : BayIx) :
    (s.restart c).bay b = { Bay.reset with lines := (s.bay b).lines.map Line.restart } := by
  simp [State.restart, State.bay]

theorem State.restart_line (s : State) (c : RestartCause) (n : LineIx) :
    (s.restart c).line n = { GeneralLine.reset with line := (s.line n).line.restart } := by
  simp [State.restart, State.line]

theorem BayLines.get_map (f : Line → Line) (l : BayLines) (i : BayInput) : (l.map f).get i = f (l.get i) := by cases i <;> rfl

theorem State.restart_inputLine (s : State) (c : RestartCause) (l : InputLine) :
    (s.restart c).inputLine l = (s.inputLine l).restart := by
  cases l with
  | bay b i => simp only [State.inputLine, State.restart_bay, BayLines.get_map]
  | general n => simp only [State.inputLine, State.restart_line]

/-- A restart brings every block to its restart value, whatever the supply and RESET_N have been (spec/08 R146). -/
theorem State.restart_restarted (s : State) (p : Power) (c : RestartCause) (hsupply : p.supplyInRange = true)
    (hreset : p.resetAsserted = false) : Restarted s (({ s with power := p } : State).restart c) c where
  power := by simp [State.restart, hsupply, hreset]
  mode := rfl
  uptime := rfl
  train := rfl
  gap := rfl
  proof := rfl
  release := rfl
  supervision := rfl
  platformFrame := rfl
  station := rfl
  signalling := rfl
  events := rfl
  pins := rfl
  bays := fun b => by rw [State.restart_bay]; exact ⟨rfl, rfl, rfl, rfl, rfl, rfl, rfl, rfl, rfl, rfl, rfl, rfl, rfl⟩
  latches := fun n => by rw [State.restart_line]; exact ⟨rfl, rfl⟩
  stored := rfl
  area := rfl
  working := rfl
  state := rfl
  dirty := rfl
  frozen := rfl
  filters := State.restart_inputLine _ c
  pending := rfl
  runs := rfl

/-- The restart begins with the cause that the supply and RESET_N give. -/
theorem State.beginRestart_restarted (s : State) (p : Power) (hsupply : p.supplyInRange = true)
    (hreset : p.resetAsserted = false) : Restarted s ({ s with power := p } : State).beginRestart p.cause := by
  have hbegins : ({ s with power := p } : State).beginRestart = ({ s with power := p } : State).restart p.cause := by
    simp [State.beginRestart, hsupply, hreset]
  rw [hbegins]
  exact s.restart_restarted p p.cause hsupply hreset

/-- The part stays stopped while the supply is out of range or RESET_N is asserted (spec/08 R146). -/
theorem State.beginRestart_stopped (s : State) (p : Power) (h : p.supplyInRange = false ∨ p.resetAsserted = true) :
    ({ s with power := p } : State).beginRestart = { s with power := p } := by
  rcases h with h | h <;> simp [State.beginRestart, h]

theorem execPowerOn_eq (h : s.power.supplyInRange = false) : exec .powerOn s
    = .next ({ s with power := { s.power with supplyInRange := true, supplyReturned := true } } : State).beginRestart := by
  show execPowerOn s = _
  simp [execPowerOn, h]

theorem execResetNReleased_eq (h : s.power.resetAsserted = true) : exec .resetNReleased s
    = .next ({ s with power := { s.power with resetAsserted := false } } : State).beginRestart := by
  show execResetNReleased s = _
  simp [execResetNReleased, h]

end

/-- Settles O4: what stops the part changes the power and the pins alone, and the restart begins as soon as the supply is in
range and RESET_N is not asserted. -/
theorem supplyAndResetStopAndRestart : Obligations.SupplyAndResetStopAndRestart := by
  intro s
  refine ⟨fun hsupply => ?out, fun hreset => ?asserted, fun hsupply hreset => ?on, fun hsupply hreset => ?onReset,
    fun hreset hsupply hseen => ?released, fun hreset hsupply => ?releasedOut⟩
  case out =>
    show execSupplyOutOfRange s = _
    simp [execSupplyOutOfRange, hsupply, State.powerDown]
  case asserted =>
    show execResetNAsserted s = _
    simp [execResetNAsserted, hreset, State.powerDown]
  case on => exact ⟨_, execPowerOn_eq hsupply, s.beginRestart_restarted _ rfl hreset⟩
  case onReset =>
    have hstopped := s.beginRestart_stopped { s.power with supplyInRange := true, supplyReturned := true } (.inr hreset)
    exact (execPowerOn_eq hsupply).trans (congrArg _ hstopped)
  case released =>
    refine ⟨_, execResetNReleased_eq hreset, ?_⟩
    have hrestarted := s.beginRestart_restarted { s.power with resetAsserted := false } hsupply rfl
    simpa only [Power.cause, hseen, if_true] using hrestarted
  case releasedOut =>
    have hstopped := s.beginRestart_stopped { s.power with resetAsserted := false } (.inl hsupply)
    exact (execResetNReleased_eq hreset).trans (congrArg _ hstopped)

/-! ### HALT -/

section

variable {s t : State} {e : Ev} {ts : List Task} {u : Task}

/-- The tasks of bays leave the mode alone, or bring HALTED. -/
theorem Task.OfBays.mode_or_halts (h : u.OfBays e.s) :
    (u.perform e).1.s.mode = e.s.mode ∨ e.s.mode.mode ≠ .halted ∧ (u.perform e).1.s.mode.mode = .halted := by
  rcases h.part with hpart | rfl | ⟨p, c, rfl, -, -⟩
  · exact .inl hpart.mode
  · exact .inl e.formGap_mode
  · cases p with
    | none => exact .inl rfl
    | closeMap =>
      simp only [Task.perform, Ev.effect, Ev.closeMapEffect]
      split <;> exact .inl rfl
    | halt =>
      simp only [Task.perform, Ev.effect, Ev.enterHalted]
      split
      · exact .inl rfl
      · next hmode => exact .inr ⟨by simpa using hmode, rfl⟩

/-- What every task of bays leaves of the mode stands when they have been carried to their end or to the bound. -/
theorem run_ofBays_mode (P : ModeControl → Prop) (hhalts : ∀ m m', P m → m.mode ≠ .halted → m'.mode = .halted → P m') (n : Nat)
    (ts : List Task) (e : Ev) (h : ∀ u ∈ ts, u.OfBays e.s) (he : P e.s.mode) : P (run n ts e).s.mode := by
  induction n generalizing ts e with
  | zero => cases ts <;> exact he
  | succ n ih =>
    cases ts with
    | nil => exact he
    | cons t ts =>
      have ht := h t List.mem_cons_self
      rw [run_cons]
      refine ih _ _ (fun u hu => ?_) ?_
      · exact Task.OfBays.of_kept (ofBays_append ht.tasks (fun v hv => h v (List.mem_cons_of_mem t hv)) u hu)
          (Task.kept_perform t e)
      · rcases ht.mode_or_halts with hsame | ⟨hrunning, hhalted⟩
        · rwa [hsame]
        · exact hhalts _ _ he hrunning hhalted

/-- In HALTED the mode and its cause stand (spec/08 R151). -/
theorem Ev.finish_mode_halted (e : Ev) (h : ∀ u ∈ ts, u.OfBays e.s) (hmode : e.s.mode.mode = .halted) :
    (e.finish ts).s.mode = e.s.mode := by
  have hrun := run_ofBays_mode (fun m => m = e.s.mode) (fun m m' hm hrunning _ => absurd (hm ▸ hmode) hrunning)
    Config.eventBound ts e h rfl
  rw [Ev.finish, Ev.on_s, State.settle_mode, hrun]

/-- In HALTED the platform is not secure (spec/04 R81, R82). -/
theorem Ev.finish_notSecure (h : (e.finish ts).s.mode.mode = .halted) : (e.finish ts).s.proof.value = .notSecure := by
  have hwithheld : (e.finish ts).s.withheldNow.mode = true := by rw [State.withheldNow, h]; rfl
  have hproof : (e.finish ts).s.proof = (e.finish ts).s.proofNow := by
    rw [Ev.finish, Ev.on_s]
    exact State.settle_proof _
  rw [hproof]
  simp [State.proofNow, secureValue, Withheld.authority, hwithheld]

/-- The entry to HALTED (spec/08 R151). -/
theorem Ev.enterHalted_mode (e : Ev) (c : HaltCause) (h : e.s.mode.mode ≠ .halted) :
    (e.enterHalted c).1.s.mode = { e.s.mode with mode := .halted, haltCause := c } := by
  have hrunning : (e.s.mode.mode == .halted) = false := beq_eq_false_iff_ne.mpr h
  simp only [Ev.enterHalted, hrunning, Bool.false_eq_true, if_false]
  rfl

/-- The entry to HALTED carried to its end. -/
theorem State.event_enterHalted (s : State) (c : HaltCause) (hruns : s.stalled = false) (h : s.mode.mode ≠ .halted) :
    (s.event (fun e => e.enterHalted c)).mode = { s.mode with mode := .halted, haltCause := c }
      ∧ HaltedLaw (s.event (fun e => e.enterHalted c)) ∧ (s.event (fun e => e.enterHalted c)).proof.value = .notSecure
      ∧ (s.event (fun e => e.enterHalted c)).platformFrame = s.platformFrame
      ∧ (s.event (fun e => e.enterHalted c)).release.latch = s.release.latch
      ∧ FieldStands s (s.event (fun e => e.enterHalted c)) ∧ LinesStand s (s.event (fun e => e.enterHalted c)) := by
  have hentered := (Ev.start s).enterHalted_mode c h
  have hmode := ((Ev.start s).enterHalted c).1.finish_mode_halted (ts := ((Ev.start s).enterHalted c).2)
    (Ev.enterHalted_ofBays _ c) (by rw [hentered])
  have hfollows := Follows.enterHalted (Ev.start s) c
  obtain ⟨hframe, hlatch, -⟩ := Ev.finish_follows ((Ev.start s).enterHalted c).1 hfollows.tasks
  have hkept := Ev.kept_enterHalted (Ev.start s) c
  have hbegun : LinesStand s ((Ev.start s).enterHalted c).1.s :=
    ⟨State.kept_lines (State.kept_same hkept), State.kept_bayLines (State.kept_same hkept)⟩
  obtain ⟨-, -, -, hlines, -⟩ := ((Ev.start s).enterHalted c).1.finish_stands ((Ev.start s).enterHalted c).2
  have hlaw := HaltedLaw.event (f := fun e => e.enterHalted c) (fun _ hhalted => absurd hhalted h) hruns (.enterHalted c)
  have hproof := Ev.finish_notSecure (by rw [hmode, hentered])
  have hfield := (FieldStands.of_kept hkept).trans (.finish _ ((Ev.start s).enterHalted c).2)
  rw [hentered] at hmode
  have hevent : s.event (fun e => e.enterHalted c)
      = (((Ev.start s).enterHalted c).1.finish ((Ev.start s).enterHalted c).2).s := by rw [State.event]
  rw [hevent] at hlaw ⊢
  generalize (((Ev.start s).enterHalted c).1.finish ((Ev.start s).enterHalted c).2).s = w at *
  exact ⟨hmode, hlaw, hproof, hframe.trans hfollows.platformFrame, hlatch.trans hfollows.latch, hfield, hbegun.trans hlines⟩

/-- A station request whose owner answers with an event, and with a reply that the event does not change. -/
theorem exec_station_event {q : RequestKind} {body : List Byte} {i : Instr} {f : Ev → Ev × List Task} {r : Result}
    {content : List Byte} (hi : requestOf i = some (.station, q, body)) (h : Admits .station q body s)
    (howner : ownerOf q body (s.takeFrame .station) = .event (s.takeFrame .station) f (fun _ => (r, content)))
    (hstation : ((s.takeFrame .station).event f).station = (s.takeFrame .station).station) (hr : r.isAuthority = false) :
    exec i s = .next (stationDone s ((s.takeFrame .station).event f) q.code r content) := by
  have houtcome : (Answer.event (s.takeFrame .station) f (fun _ => (r, content))).outcome.s = (s.takeFrame .station).event f := by
    rw [Answer.outcome_event, State.event]
  have hcarried := Answer.carryOut_station s (Answer.event (s.takeFrame .station) f (fun _ => (r, content))) q.code
    (by rw [houtcome]; exact hstation) hr rfl
  rw [exec_request hi, State.request_admits _ _ _ _ _ h, howner, hcarried, houtcome]
  rfl

/-- In HALTED a further entry to it changes nothing (spec/08 R151). -/
theorem State.event_enterHalted_halted (s : State) (c : HaltCause) (h : s.mode.mode = .halted) :
    s.event (fun e => e.enterHalted c) = s.settle := by
  have hstill : (Ev.start s).enterHalted c = (Ev.start s, []) := by simp [Ev.enterHalted, h]
  rw [State.event, hstill, Ev.finish, run_nil]
  rfl

/-- PREPARE_RESTART: its answer alone sets the preparation (spec/08 R156). -/
theorem exec_prepareRestart (s : State) (body : List Byte) (h : Admits .station .prepareRestart body s) :
    exec (.prepareRestart .station body) s
      = .next { stationAnswer s RequestKind.prepareRestart.code .done [] with mode := { s.mode with preparation := true } } := by
  rw [exec_request (k := .prepareRestart) rfl, State.request_admits _ _ _ _ _ h]
  rfl

end

/-- Settles O48: HALT is the one event of the entry to HALTED, PREPARE_RESTART and RESTART have no event. -/
theorem haltAndRestartByRequest : Obligations.HaltAndRestartByRequest := by
  refine ⟨fun body s hadmits => ⟨fun hmode => ?halts, fun hmode => ?halted⟩,
    fun body s => ⟨exec_prepareRestart s body, fun hadmits hprepared => ?restarts, fun hadmits hprepared => ?unprepared⟩⟩
  case halts =>
    obtain ⟨hentered, hlaw, hproof, hframe, hlatch, hfield, hlines⟩ :=
      (s.takeFrame .station).event_enterHalted .request (State.stalled_of_runs hadmits.1.1) hmode
    obtain ⟨hstation, hsignalling, -⟩ := hfield.links
    have honly := TrainOnly.takeFrame s .station
    have hexec := exec_station_event (i := .halt .station body) (q := .halt) (f := fun e => e.enterHalted .request)
      (r := .done) (content := []) rfl hadmits rfl hstation rfl
    generalize (s.takeFrame .station).event (fun e => e.enterHalted .request) = w at *
    refine ⟨_, hexec, stationDone_answered .halt, ?_, ?_, hproof,
      hfield.supervision, hframe, hlatch, (honly.stands.trans hfield.stands).stationDone,
      StoreStands.stationDone (StoreStands.trans honly.storeStands hfield.store), LinesStand.stationDone (honly.linesStand.trans hlines), hsignalling⟩
    · exact congrArg (fun m : ModeControl => { m with preparation := false }) hentered
    · exact hlaw.of_stands (.of_fields rfl rfl rfl rfl rfl)
  case halted =>
    have hsettled := (s.takeFrame .station).event_enterHalted_halted .request hmode
    obtain ⟨hbays, hrelease, ⟨-, hframe, -⟩, hevent⟩ :=
      (TrainOnly.takeFrame s .station).stationDone rfl RequestKind.halt.code .done []
    have hexec := exec_station_event (i := .halt .station body) (q := .halt) (f := fun e => e.enterHalted .request)
      (r := .done) (content := []) rfl hadmits rfl (by rw [hsettled]; exact State.settle_station _) rfl
    rw [hsettled] at hexec
    have htrain := (s.takeFrame .station).settle_train
    have hgap := (s.takeFrame .station).settle_gap
    have hsupervision := (s.takeFrame .station).settle_supervision
    have hmodeStands := (s.takeFrame .station).settle_mode
    generalize (s.takeFrame .station).settle = w at *
    refine ⟨_, hexec, stationDone_answered .halt, ?_, hbays, ⟨htrain, hgap⟩, hrelease, hsupervision, hframe, hevent⟩
    exact congrArg (fun m : ModeControl => { m with preparation := false }) hmodeStands
  case restarts =>
    have htaken : (s.takeFrame .station).mode.preparation = true := hprepared
    refine exec_station_settled (q := .restart) (v := { s with mode := { s.mode with restartAccepted := true } }) rfl hadmits
      rfl ?_
    rw [ownerOf, ownerRestart, if_pos htaken]
    rfl
  case unprepared =>
    have htaken : ¬(s.takeFrame .station).mode.preparation = true := by rw [State.takeFrame_station]; simp [hprepared]
    exact exec_station_refused (q := .restart) rfl hadmits (by rw [ownerOf, ownerRestart, if_neg htaken]) rfl

end Sys2Proof.Machine
end

section
/-! LOADING_ENDS (spec/08 R147): what the end of STARTING leaves of the lines, the bays, the mode, the release unit and the
platform frame, before its tasks and after them. -/

namespace Sys2Proof.Machine

/-! ### The filters -/

/-- Of the state s only lines have changed. -/
structure LinesOnly (s t : State) : Prop where
  rest : { t with lines := s.lines, bays := s.bays } = s
  trace : ∀ b, (t.bay b).trace = (s.bay b).trace

section

variable {s t : State} {b : BayIx}

theorem LinesOnly.read (h : LinesOnly s t) {α : Type} (f : State → α)
    (hf : f { t with lines := s.lines, bays := s.bays } = f t) : f t = f s := hf.symm.trans (congrArg f h.rest)

theorem LinesOnly.store (h : LinesOnly s t) : t.store = s.store := h.read State.store rfl
theorem LinesOnly.uptime (h : LinesOnly s t) : t.uptime = s.uptime := h.read State.uptime rfl
theorem LinesOnly.release (h : LinesOnly s t) : t.release = s.release := h.read State.release rfl

theorem LinesOnly.alone (h : LinesOnly s t) : AloneStands s t where
  stands :=
    { power := h.read State.power rfl, uptime := h.read State.uptime rfl, area := h.read (fun u => u.store.area) rfl
      frozen := h.read (fun u => u.store.frozen) rfl, pending := h.read State.pending rfl
      restartCause := h.read (fun u => u.mode.restartCause) rfl
      restartAccepted := h.read (fun u => u.mode.restartAccepted) rfl, mask := h.read (fun u => u.events.mask) rfl
      authority := h.read (fun u => u.events.authority) rfl, trace := h.trace, freeCount := h.read State.freeCount rfl }
  links := ⟨h.read State.station rfl, h.read State.signalling rfl, h.read (fun u => u.mode.preparation) rfl⟩
  store := h.read (fun u => { u.store with state := s.store.state }) rfl
  supervision := h.read State.supervision rfl

theorem State.readLines_bay (s : State) (b : BayIx) :
    s.readLines.bay b = { s.bay b with lines := (s.bay b).lines.map (fun l => { l with level := l.raw }) } := by
  unfold State.readLines
  rw [foldl_same (fun (u : State) n => u.refilter (.general n)) (fun u => u.bay b) (fun _ _ => rfl)]
  simp only [State.bay, mapVector_get]

theorem LinesOnly.readLines (s : State) : LinesOnly s s.readLines := by
  refine ⟨?_, fun b => by rw [State.readLines_bay]⟩
  unfold State.readLines
  exact foldl_same (fun (u : State) n => u.refilter (.general n)) (fun u : State => { u with lines := s.lines, bays := s.bays })
    (fun _ _ => rfl) allLines _

/-- The filters of general lines start afresh, one line after the other (spec/03 R58). -/
theorem State.refilterAll_line {s : State} (u : State) (hline : ∀ m, u.line m = s.line m) (hstore : u.store = s.store)
    (bs : List LineIx) (hbs : bs.Nodup) : ∀ n ∈ bs, (bs.foldl (fun (u : State) k => u.refilter (.general k)) u).line n
      = { s.line n with line := { (s.line n).line with level := s.logicalLevel (.general n), candidate := none } } := by
  have hother (u : State) {m k : LineIx} (hne : m ≠ k) : (u.refilter (.general k)).line m = u.line m :=
    State.line_setLine_ne _ _ _ _ hne
  have hkept (u : State) (k : LineIx) : (u.refilter (.general k)).store = u.store := State.setInputLine_store _ _ _
  refine foldl_each (fun (u : State) k => u.refilter (.general k)) (fun m u => u.line m = s.line m ∧ u.store = s.store)
    (fun m u => u.line m
      = { s.line m with line := { (s.line m).line with level := s.logicalLevel (.general m), candidate := none } })
    (fun m u ⟨hline, hu⟩ => ?_) (fun m k u hne ⟨hline, hu⟩ => ⟨(hother u hne).trans hline, (hkept u k).trans hu⟩)
    (fun m k u hne hu => (hother u hne).trans hu) hbs u (fun m _ => ⟨hline m, hstore⟩)
  simp only [State.refilter, State.setInputLine, State.line_setLine_self, State.inputLine, State.logicalLevel,
    State.lineRecord, hline, hu]

theorem State.readLines_line (s : State) (n : LineIx) : s.readLines.line n
    = { s.line n with line := { (s.line n).line with level := s.logicalLevel (.general n), candidate := none } } := by
  unfold State.readLines
  exact State.refilterAll_line { s with bays := _ } (fun _ => rfl) rfl allLines (List.nodup_finRange 24) n (List.mem_finRange n)

/-- Every filter takes the logical level of its line (spec/03 R58). -/
theorem State.readLines_inputLine (s : State) (l : InputLine) :
    (s.readLines.inputLine l).level = s.logicalLevel l ∧ (s.readLines.inputLine l).raw = (s.inputLine l).raw := by
  cases l with
  | bay b i => simp only [State.inputLine, State.logicalLevel, State.readLines_bay, BayLines.get_map, and_self]
  | general n => simp only [State.inputLine, State.readLines_line, and_self]

/-! ### The start-up faults -/

/-- Of the state s only the bays, the platform frame and the queue have changed. -/
def FaultsOnly (s t : State) : Prop := { t with bays := s.bays, platformFrame := s.platformFrame, events := s.events } = s

theorem FaultsOnly.read (h : FaultsOnly s t) {α : Type} (f : State → α)
    (hf : f { t with bays := s.bays, platformFrame := s.platformFrame, events := s.events } = f t) : f t = f s :=
  hf.symm.trans (congrArg f h)

theorem FaultsOnly.store (h : FaultsOnly s t) : t.store = s.store := h.read State.store rfl
theorem FaultsOnly.uptime (h : FaultsOnly s t) : t.uptime = s.uptime := h.read State.uptime rfl
theorem FaultsOnly.release (h : FaultsOnly s t) : t.release = s.release := h.read State.release rfl

theorem FaultsOnly.deriveAll (s : State) : FaultsOnly s s.deriveAll := by
  unfold FaultsOnly State.deriveAll
  exact foldl_same State.deriveAtStart (fun u : State => { u with
    bays := s.bays, platformFrame := s.platformFrame, events := s.events }) (fun _ _ => rfl) allBays s

theorem FaultsOnly.startStoreFault (h : FaultsOnly s t) : FaultsOnly s t.startStoreFault := by
  unfold State.startStoreFault
  split
  · simp only [State.recordPlatform]
    repeat' split
    all_goals exact h
  · exact h

theorem FaultsOnly.startConflict {e : Ev} (h : FaultsOnly s e.s) (b : BayIx) : FaultsOnly s (e.startConflict b).s := by
  unfold Ev.startConflict
  split <;> exact h

theorem FaultsOnly.startConflicts (bs : List BayIx) {e : Ev} (h : FaultsOnly s e.s) :
    FaultsOnly s (bs.foldl Ev.startConflict e).s := by
  induction bs generalizing e with
  | nil => exact h
  | cons b bs ih => exact ih (h.startConflict b)

theorem FaultsOnly.startFaulted (s : State) : FaultsOnly s.readLines s.startFaulted := by
  rw [State.startFaulted, Ev.startFaults_eq]
  exact .startConflicts allBays (FaultsOnly.startStoreFault (.deriveAll s.readLines))

/-- A bay is in its derived phase, and where that is FAULTED its frame is ACTIVE (spec/07 R142). -/
theorem State.startFaulted_bay (s : State) (b : BayIx) :
    ∃ f, s.startFaulted.bay b = { s.readLines.deriveAll.bay b with frame := f }
      ∧ ((s.readLines.deriveAll.bay b).phase = .faulted → f.state = .active) := by
  rw [State.startFaulted, Ev.startFaults_eq]
  have hbefore : (({ Ev.start s with starting := true }.on (fun s => allBays.foldl State.deriveAtStart s.readLines)).on
      State.startStoreFault).s.bays = s.readLines.deriveAll.bays := (State.startStoreFault_same _).2.1
  generalize ({ Ev.start s with starting := true }.on (fun s => allBays.foldl State.deriveAtStart s.readLines)).on
    State.startStoreFault = e at hbefore
  generalize s.readLines.deriveAll = d at hbefore ⊢
  refine foldl_each Ev.startConflict (fun c e => e.s.bay c = d.bay c)
    (fun c e => ∃ f, e.s.bay c = { d.bay c with frame := f } ∧ ((d.bay c).phase = .faulted → f.state = .active))
    (fun c e hc => ?_) (fun c k e hne hc => (e.startConflict_bay_ne hne).trans hc) (fun c k e hne hc => ?_) nodup_allBays e
    (fun c _ => by simp only [State.bay, hbefore]) b (mem_allBays b)
  · rw [← hc]
    unfold Ev.startConflict
    split
    · exact ⟨_, State.bay_setBay_self _ _ _, fun _ => rfl⟩
    · next hphase => exact ⟨_, rfl, fun hfaulted => absurd (beq_iff_eq.mpr hfaulted) hphase⟩
  · rw [e.startConflict_bay_ne hne]
    exact hc

theorem State.newPlatformFrame_congr (h : t.uptime = s.uptime) (c : FaultCode) (d : Nat) :
    t.newPlatformFrame c d = s.newPlatformFrame c d := by simp only [State.newPlatformFrame, h]

theorem State.startStoreFault_platformFrame (h : s.store.state = .invalid) (hframe : s.platformFrame.state ≠ .active) :
    s.startStoreFault.platformFrame = s.newPlatformFrame .storeInvalid 0 := by
  rw [State.startStoreFault, if_pos (beq_iff_eq.mpr h)]
  exact State.recordPlatform_inactive hframe _ _

/-- An INVALID store writes the platform frame, unless one is ACTIVE already (spec/07 R138). -/
theorem State.startFaulted_platformFrame (h : s.store.state = .invalid) (hframe : s.platformFrame.state ≠ .active) :
    s.startFaulted.platformFrame = s.newPlatformFrame .storeInvalid 0 := by
  have honly := FaultsOnly.deriveAll s.readLines
  have hread := LinesOnly.readLines s
  have hstate : s.readLines.deriveAll.store.state = .invalid := by rw [honly.store, hread.store, h]
  have hbefore : s.readLines.deriveAll.platformFrame = s.platformFrame :=
    (State.deriveAll_stands _).platform.trans (LawStands.readLines s).platform
  have huptime : s.readLines.deriveAll.uptime = s.uptime := honly.uptime.trans hread.uptime
  have hwritten := State.startStoreFault_platformFrame hstate (by rw [hbefore]; exact hframe)
  rw [State.newPlatformFrame_congr huptime] at hwritten
  rw [State.startFaulted, Ev.startFaults_eq, (Ev.startConflicts_stands allBays _).platform]
  exact hwritten

/-! ### The mode -/

theorem State.startHalt_invalid (h : s.store.state = .invalid) : s.startHalt = .fault .storeInvalid := by
  simp [State.startHalt, h]

/-- Nothing halts a start from a valid store whose proof conflicts hand no HALT on (spec/08 R147). -/
theorem State.startHalt_none (h : s.store.state ≠ .invalid) (heffect : (s.response .proofConflict).platformEffect ≠ .halt) :
    s.startHalt = .none := by
  simp [State.startHalt, h, heffect]

theorem State.startMode_mode (s : State) : s.startMode.mode
    = { s.mode with haltCause := s.startHalt, mode := if s.startHalt == HaltCause.none then .service else .halted } := rfl

/-! ### The release records -/

/-- A log that is not full takes a record beside those it holds (spec/05 R96). -/
theorem State.openRecord_log (h : s.release.log.length < 32) (k : ReleaseKind) (c : Option BayIx) (f : Option FireSource) :
    ∃ r, (s.openRecord k c f).release.log = s.release.log ++ [r] ∧ r.bay = c ∧ r.restored = none := by
  have hroom : s.makeLogRoom = s := by rw [State.makeLogRoom, if_pos (show s.release.log.length < Config.logLimit from h)]
  simp only [State.openRecord, hroom]
  cases k <;> exact ⟨_, rfl, rfl, rfl⟩

/-- The turn of a bay at the end of STARTING adds at most a record of its own to the log (spec/05 R113). -/
theorem State.startRelease_log (h : s.release.log.length < 32) (b : BayIx) :
    ∃ rs, (s.startRelease b).release.log = s.release.log ++ rs ∧ rs.length ≤ 1
      ∧ ((s.bay b).phase = .released → ∃ r ∈ rs, r.bay = some b ∧ r.restored = none) := by
  unfold State.startRelease
  split
  · obtain ⟨r, hlog, hbay, hopen⟩ := s.openRecord_log h (releaseKindOf (s.kind b)) (some b) none
    exact ⟨[r], hlog, Nat.le_refl 1, fun _ => ⟨r, List.mem_singleton_self r, hbay, hopen⟩⟩
  · next hphase => exact ⟨[], (List.append_nil _).symm, Nat.zero_le 1, fun hreleased => absurd (beq_iff_eq.mpr hreleased) hphase⟩

/-- Each bay derived RELEASED has an open record, while the log has room for all (spec/05 R113). -/
theorem State.startReleases_open (bs : List BayIx) (s : State) (hroom : s.release.log.length + bs.length ≤ 32) (b : BayIx)
    (h : s.hasOpenRecord b = true ∨ b ∈ bs ∧ (s.bay b).phase = .released) :
    (bs.foldl State.startRelease s).hasOpenRecord b = true := by
  induction bs generalizing s with
  | nil => exact h.resolve_right (fun hmem => absurd hmem.1 List.not_mem_nil)
  | cons c bs ih =>
    rw [List.length_cons] at hroom
    obtain ⟨rs, hlog, hlength, hrecord⟩ := s.startRelease_log (by omega) c
    refine ih (s.startRelease c) (by rw [hlog, List.length_append]; omega) ?_
    simp only [State.hasOpenRecord, hlog, List.any_append, Bool.or_eq_true, State.startRelease_phase]
    rcases h with hopen | ⟨hmem, hphase⟩
    · exact .inl (.inl hopen)
    · rcases List.mem_cons.mp hmem with rfl | hmem
      · obtain ⟨r, hr, hbay, hrestored⟩ := hrecord hphase
        exact .inl (.inr (List.any_eq_true.mpr ⟨r, hr, by simp [hbay, hrestored]⟩))
      · exact .inr ⟨hmem, hphase⟩

/-! ### What the evaluations leave to the tasks -/

/-- The state that the evaluations at the end of STARTING leave to the tasks. -/
def State.started (s : State) : State := (allBays.foldl State.startRelease s.startFaulted.startMode).standingKey

theorem Ev.endStarting_started (s : State) : (Ev.endStarting (Ev.start s)).1.s = s.started := Ev.endStarting_s s

theorem Ev.endStarting_tasks (s : State) : (Ev.endStarting (Ev.start s)).2
    = (if s.started.functionLevel .fireInput then [.fireSet .fireInput] else []) ++ allBays.map .presence := by
  rw [← Ev.endStarting_started]
  rfl

theorem State.startReleases_bay (s : State) (b : BayIx) : (allBays.foldl State.startRelease s).bay b = s.bay b :=
  foldl_same State.startRelease (fun u => u.bay b) (fun u c => by
    unfold State.startRelease
    split
    · simp [State.bay]
    · rfl) allBays s

theorem State.startRelease_mode (s : State) (b : BayIx) : (s.startRelease b).mode = s.mode := by
  unfold State.startRelease
  split
  · simp
  · rfl

theorem State.startRelease_latch (s : State) (b : BayIx) : (s.startRelease b).release.latch = s.release.latch := by
  unfold State.startRelease
  split
  · exact State.openRecord_latch _ _ _ _
  · rfl

theorem State.kept_startRelease (s : State) (b : BayIx) : (s.startRelease b).kept = s.kept := by
  unfold State.startRelease
  split
  · exact State.kept_openRecord _ _ _ _
  · rfl

theorem State.kept_startFaulted (s : State) : s.startFaulted.kept = s.readLines.kept := by
  have hstore (u : State) : u.startStoreFault.kept = u.kept := by
    unfold State.startStoreFault
    split
    · exact State.kept_recordPlatform _ _ _
    · rfl
  have hderived : s.readLines.deriveAll.kept = s.readLines.kept :=
    State.kept_foldl State.deriveAtStart (fun u c => u.kept_setBay_of c _ rfl) allBays s.readLines
  rw [State.startFaulted, Ev.startFaults_eq, foldl_same Ev.startConflict (fun e => e.s.kept) (fun e b => ?_)]
  · exact (hstore _).trans hderived
  · unfold Ev.startConflict
    split
    · exact Ev.kept_takeDerivedConflict e b
    · rfl

theorem State.startMode_bay (s : State) (b : BayIx) : s.startMode.bay b = s.bay b := rfl
theorem State.startMode_release (s : State) : s.startMode.release = s.release := rfl
theorem State.startMode_platformFrame (s : State) : s.startMode.platformFrame = s.platformFrame := rfl
theorem State.standingKey_hasOpenRecord (s : State) (b : BayIx) : s.standingKey.hasOpenRecord b = s.hasOpenRecord b := rfl

theorem State.startReleases_mode (s : State) : (allBays.foldl State.startRelease s).mode = s.mode :=
  foldl_same State.startRelease State.mode State.startRelease_mode allBays s

theorem State.startReleases_latch (s : State) : (allBays.foldl State.startRelease s).release.latch = s.release.latch :=
  foldl_same State.startRelease (fun u => u.release.latch) State.startRelease_latch allBays s

theorem State.startReleases_stands (s : State) : AllLawStands s (allBays.foldl State.startRelease s) :=
  LawStands.foldl LawStands.startRelease allBays s

theorem State.started_bay (s : State) (b : BayIx) : s.started.bay b = s.startFaulted.bay b := by
  rw [State.started, State.standingKey_bay, State.startReleases_bay, State.startMode_bay]

theorem State.started_mode (s : State) : s.started.mode = s.startFaulted.startMode.mode := by
  rw [State.started, State.standingKey_mode, State.startReleases_mode]

theorem State.started_latch (s : State) : s.started.release.latch = s.startFaulted.release.latch := by
  rw [State.started, State.standingKey_release, State.startReleases_latch, State.startMode_release]

theorem State.started_platformFrame (s : State) : s.started.platformFrame = s.startFaulted.platformFrame := by
  rw [State.started, State.standingKey_platformFrame, (State.startReleases_stands _).platform, State.startMode_platformFrame]

theorem State.started_open {b : BayIx} (hlog : s.startFaulted.release.log = []) (hphase : (s.startFaulted.bay b).phase = .released) :
    s.started.hasOpenRecord b = true := by
  rw [State.started, State.standingKey_hasOpenRecord]
  generalize s.startFaulted = u at hlog hphase
  refine State.startReleases_open allBays u.startMode ?_ b (.inr ⟨mem_allBays b, hphase⟩)
  rw [State.startMode_release, hlog]
  decide

/-! ### The lines and the bays that a start leaves -/

theorem FieldStands.standingKey (s : State) : FieldStands s s.standingKey :=
  ⟨⟨⟨rfl, rfl, rfl, rfl, rfl, rfl, rfl, rfl, rfl, fun _ => rfl, rfl⟩, ⟨rfl, rfl, rfl⟩, rfl, rfl⟩, fun m => by cases m <;> rfl⟩

theorem State.kept_startMode (s : State) : s.startMode.kept = s.kept := by
  rw [State.startMode, State.kept_changeMode, State.kept_setHaltCause]

/-- Once the filters are set, the evaluations leave the lines alone. -/
theorem FieldStands.started (s : State) : FieldStands s.readLines s.started := by
  refine (FieldStands.of_kept ?_).trans (.standingKey (allBays.foldl State.startRelease s.startFaulted.startMode))
  rw [State.kept_foldl State.startRelease State.kept_startRelease, State.kept_startMode, State.kept_startFaulted]

/-- A function's level is the line's that holds it. -/
theorem FieldStands.functionLevel (h : FieldStands s t) (f : LineFunction) : t.functionLevel f = s.functionLevel f := by
  have hrecords := congrArg Store.working h.store
  dsimp only at hrecords
  have hline (n : LineIx) : (t.line n).line = (s.line n).line := h.inputs (.general n)
  simp only [State.functionLevel, State.holder, State.lineRecord, hrecords, hline]

theorem State.started_keyLevel (s : State) : s.started.proof.keyLevel = s.started.functionLevel .bypassKey := by
  rw [State.started, (FieldStands.standingKey _).functionLevel, State.standingKey_keyLevel]

/-- No task of an event changes the key's level (spec/04 R86). -/
theorem Ev.finish_keyLevel (e : Ev) (ts : List Task) : (e.finish ts).s.proof.keyLevel = e.s.proof.keyLevel := by
  rw [Ev.finish, Ev.on_s, State.settle_keyLevel, State.kept_proof (run_kept _ _ _)]

theorem State.started_trainStands (s : State) : TrainStands s s.started := by
  have hscan := Ev.scan_endStarting s
  rw [Ev.endStarting_started] at hscan
  simpa only [State.scan, Prod.mk.injEq] using hscan

theorem State.started_frame (s : State) (b : BayIx) : ∃ f, s.started.bay b
      = { (s.readLines.bay b).enter (s.bayRecord b) s.platform (derivedPhase (s.kind b) (s.readLines.bay b).lines) with frame := f }
    ∧ (derivedPhase (s.kind b) (s.readLines.bay b).lines = .faulted → f.state = .active) := by
  have hstore := (LinesOnly.readLines s).store
  obtain ⟨f, hbay, hactive⟩ := s.startFaulted_bay b
  rw [State.deriveAll_phase] at hactive
  rw [State.deriveAll_bay, State.bayRecord, State.platform] at hbay
  rw [State.kind, State.bayRecord] at hbay hactive
  rw [hstore] at hbay hactive
  exact ⟨f, (s.started_bay b).trans hbay, hactive⟩

/-- A bay at the end of STARTING (spec/01 R23): its phase derived from its own lines, the timer of CLOSED_UNLOCKED running, the
frame of FAULTED ACTIVE. -/
def State.DerivedAt (s : State) (b : BayIx) (x : Bay) : Prop :=
  x.phase = derivedPhase (s.kind b) x.lines
    ∧ (x.phase = .closedUnlocked → x.timer = some { limit := (s.bayRecord b).lockLimit, elapsed := 0 })
    ∧ (x.phase = .faulted → x.frame.state = .active)

theorem State.DerivedAt.congr {x y : Bay} (h : s.DerivedAt b x) (hphase : y.phase = x.phase) (hlines : y.lines = x.lines)
    (htimer : y.timer = x.timer) (hframe : y.frame = x.frame) : s.DerivedAt b y := by
  rwa [State.DerivedAt, hphase, hlines, htimer, hframe]

theorem State.started_derivedAt (s : State) (b : BayIx) : s.DerivedAt b (s.started.bay b) := by
  obtain ⟨f, hbay, hactive⟩ := s.started_frame b
  rw [hbay]
  refine ⟨rfl, fun hphase => ?_, hactive⟩
  have htimer := congrArg (phaseTimer (s.bayRecord b) s.platform) hphase
  exact htimer

theorem State.started_calm (s : State) (b : BayIx) : (s.started.bay b).phase.calm := by
  rw [(s.started_derivedAt b).1]
  exact derivedPhase_calm _ _

/-! ### The mode of a start -/

theorem State.startFaulted_store (s : State) : s.startFaulted.store = s.store :=
  (FaultsOnly.startFaulted s).store.trans (LinesOnly.readLines s).store

theorem State.startFaulted_release (s : State) : s.startFaulted.release = s.release :=
  (FaultsOnly.startFaulted s).release.trans (LinesOnly.readLines s).release

theorem State.startMode_ends (s : State) : s.startMode.mode.mode = .service ∨ s.startMode.mode.mode = .halted := by
  rw [State.startMode_mode]
  by_cases h : (s.startHalt == HaltCause.none) = true
  · exact .inl (if_pos h)
  · exact .inr (if_neg h)

/-- An INVALID store starts in HALTED (spec/08 R147). -/
theorem State.started_invalid (h : s.store.state = .invalid) :
    s.started.mode.mode = .halted ∧ s.started.mode.haltCause = .fault .storeInvalid := by
  have hhalt : s.startFaulted.startHalt = .fault .storeInvalid := State.startHalt_invalid (by rw [State.startFaulted_store, h])
  rw [State.started_mode, State.startMode_mode, hhalt]
  exact ⟨rfl, rfl⟩

/-- Every other start is in SERVICE, where PROOF_CONFLICT hands no HALT on (spec/08 R147). -/
theorem State.started_service (h : s.store.state ≠ .invalid) (heffect : (s.response .proofConflict).platformEffect ≠ .halt) :
    s.started.mode.mode = .service ∧ s.started.mode.haltCause = .none := by
  have hhalt : s.startFaulted.startHalt = .none :=
    State.startHalt_none (by rwa [State.startFaulted_store]) (by rwa [State.response, State.startFaulted_store])
  rw [State.started_mode, State.startMode_mode, hhalt]
  exact ⟨rfl, rfl⟩

theorem State.started_mode_ends (s : State) : s.started.mode.mode = .service ∨ s.started.mode.mode = .halted := by
  rw [State.started_mode]
  exact s.startFaulted.startMode_ends

/-! ### A start without fire -/

/-- The presence of calm bays is formed, and nothing follows. -/
theorem run_presences (bs : List BayIx) (n : Nat) (e : Ev) (h : PresenceOnly s e.s) (hgap : e.s.gap = s.gap)
    (hcalm : ∀ b, (s.bay b).phase.calm) :
    PresenceOnly s (run n (bs.map .presence) e).s ∧ (run n (bs.map .presence) e).s.gap = s.gap := by
  induction bs generalizing n e with
  | nil => cases n <;> exact ⟨h, hgap⟩
  | cons b bs ih =>
    cases n with
    | zero => exact ⟨⟨h.rest, h.mask, h.authority, h.bay⟩, hgap⟩
    | succ n =>
      have hformed := h.formPresence b (hcalm b).1
      have hphase : ((e.s.formPresence b).bay b).phase ≠ .closing := by rw [hformed.phase]; exact (hcalm b).2
      have hhold : reopenHold (e.s.bay b) ((e.s.formPresence b).bay b) = false := by simp [reopenHold, hphase]
      have hnothing : ((Task.presence b).perform e).2 = [] := by simp [Task.perform, Ev.presence, hhold]
      rw [List.map_cons, run_cons, hnothing, List.nil_append]
      exact ih n _ hformed ((State.formPresence_gap _ _).trans hgap)

/-- Of the state s only presence states, the queue and the stall have changed when the event has ended. -/
def PresencesFormed (s t : State) : Prop := ∃ u, PresenceOnly s u ∧ u.gap = s.gap ∧ t = u.settle

theorem PresencesFormed.finish (e : Ev) (hcalm : ∀ b, (e.s.bay b).phase.calm) :
    PresencesFormed e.s (e.finish (allBays.map .presence)).s := by
  obtain ⟨honly, hgap⟩ := run_presences allBays Config.eventBound e (.refl e.s) rfl hcalm
  exact ⟨_, honly, hgap, rfl⟩

theorem PresencesFormed.field (h : PresencesFormed s t) {α : Type} (f : Bay → α) (hcore : ∀ x, f x.core = f x)
    (hpresence : ∀ x p, f { x with presence := p } = f x) (b : BayIx) : f (t.bay b) = f (s.bay b) := by
  obtain ⟨u, honly, -, rfl⟩ := h
  exact (State.settle_field f hcore u b).trans (honly.field f hpresence b)

theorem PresencesFormed.mode (h : PresencesFormed s t) : t.mode = s.mode := by
  obtain ⟨u, honly, -, rfl⟩ := h
  exact u.settle_mode.trans (honly.read State.mode rfl)

theorem PresencesFormed.platformFrame (h : PresencesFormed s t) : t.platformFrame = s.platformFrame := by
  obtain ⟨u, honly, -, rfl⟩ := h
  exact u.settle_platformFrame.trans (honly.read State.platformFrame rfl)

theorem PresencesFormed.latch (h : PresencesFormed s t) : t.release.latch = s.release.latch := by
  obtain ⟨u, honly, -, rfl⟩ := h
  exact u.settle_latch.trans (honly.read (fun v => v.release.latch) rfl)

theorem PresencesFormed.hasOpenRecord (h : PresencesFormed s t) (b : BayIx) : t.hasOpenRecord b = s.hasOpenRecord b := by
  obtain ⟨u, honly, -, rfl⟩ := h
  have hlog := congrArg Release.log (u.settle_release false)
  dsimp only at hlog
  have hrecords : u.settle.release.log = s.release.log := hlog.trans (honly.read (fun v => v.release.log) rfl)
  rw [State.hasOpenRecord, hrecords, State.hasOpenRecord]

theorem PresencesFormed.trainStands (h : PresencesFormed s t) : TrainStands s t := by
  obtain ⟨u, honly, hgap, rfl⟩ := h
  exact ⟨u.settle_train.trans honly.train, u.settle_gap.trans hgap⟩

theorem PresencesFormed.derivedAt {s' : State} (h : PresencesFormed s t) (hs : s'.DerivedAt b (s.bay b)) :
    s'.DerivedAt b (t.bay b) :=
  hs.congr (h.field Bay.phase (fun _ => rfl) (fun _ _ => rfl) b) (h.field Bay.lines (fun _ => rfl) (fun _ _ => rfl) b)
    (h.field Bay.timer (fun _ => rfl) (fun _ _ => rfl) b) (h.field Bay.frame (fun _ => rfl) (fun _ _ => rfl) b)

/-! ### A start with fire -/

theorem Ev.fireSet_ofBays (e : Ev) (f : FireSource) : ∀ u ∈ (e.fireSet f).2, u.OfBays (e.fireSet f).1.s := by
  unfold Ev.fireSet
  split
  · exact ofBays_nil _
  · split
    · exact ofBays_map (f := .fireRelease) (fun _ => trivial) _
    · exact ofBays_map (f := .fireOpen) (fun _ => trivial) _

theorem Ev.fireSet_mode (e : Ev) (f : FireSource) : (e.fireSet f).1.s.mode = e.s.mode := by
  unfold Ev.fireSet
  split
  · rfl
  · rw [Ev.on_s, State.openRecord_mode]

theorem Ev.finish_cons (e : Ev) (t : Task) (ts : List Task) :
    ∃ k, (e.finish (t :: ts)).s = (run k ((t.perform e).2 ++ ts) (t.perform e).1).s.settle := by
  obtain ⟨k, hk⟩ := Nat.exists_eq_succ_of_ne_zero (n := Config.eventBound) (by decide)
  exact ⟨k, by rw [Ev.finish, Ev.on_s, hk, Nat.succ_eq_add_one, run_cons]⟩

/-- The fire latch that a source sets stands, whatever the bays do behind it. -/
theorem Ev.finish_fireSet_latch (e : Ev) (f : FireSource) {ts : List Task} (hts : ∀ u ∈ ts, u.OfBays (e.fireSet f).1.s)
    (h : e.s.release.latch = none) : (e.finish (.fireSet f :: ts)).s.release.latch = some f := by
  obtain ⟨k, hfinish⟩ := e.finish_cons (.fireSet f) ts
  rw [hfinish, State.settle_latch, Task.perform, run_latch _ _ _ (ofBays_append (e.fireSet_ofBays f) hts)]
  exact (Ev.fireSet_pending h f).2

/-- A fire opening leaves SERVICE, if at all, for HALTED. -/
theorem Ev.finish_fireSet_mode (e : Ev) (f : FireSource) {ts : List Task} (hts : ∀ u ∈ ts, u.OfBays (e.fireSet f).1.s)
    (h : e.s.mode.mode = .service ∨ e.s.mode.mode = .halted) :
    (e.finish (.fireSet f :: ts)).s.mode.mode = .service ∨ (e.finish (.fireSet f :: ts)).s.mode.mode = .halted := by
  obtain ⟨k, hfinish⟩ := e.finish_cons (.fireSet f) ts
  rw [hfinish, State.settle_mode, Task.perform]
  exact run_ofBays_mode (fun m => m.mode = .service ∨ m.mode = .halted) (fun _ _ _ _ hhalted => .inr hhalted) k _ _
    (ofBays_append (e.fireSet_ofBays f) hts) (by rwa [Ev.fireSet_mode])

/-! ### LOADING_ENDS -/

theorem FieldStands.endStarting (s : State) : FieldStands s.started (s.event Ev.endStarting) := by
  rw [← Ev.endStarting_started, State.event]
  exact .finish _ _

theorem State.endStarting_keyLevel (s : State) :
    (s.event Ev.endStarting).proof.keyLevel = (s.event Ev.endStarting).functionLevel .bypassKey := by
  rw [(FieldStands.endStarting s).functionLevel, ← State.started_keyLevel, ← Ev.endStarting_started]
  exact Ev.finish_keyLevel _ _

theorem PresencesFormed.endStarting (h : s.started.functionLevel .fireInput = false) :
    PresencesFormed s.started (s.event Ev.endStarting) := by
  have hcalm := s.started_calm
  rw [State.event, Ev.endStarting_tasks, h, ← Ev.endStarting_started]
  rw [← Ev.endStarting_started] at hcalm
  exact .finish _ hcalm

theorem State.endStarting_fire (h : s.started.functionLevel .fireInput = true) :
    ((s.event Ev.endStarting).mode.mode = .service ∨ (s.event Ev.endStarting).mode.mode = .halted)
      ∧ (s.release.latch = none → (s.event Ev.endStarting).release.latch = some .fireInput) := by
  have hmode := s.started_mode_ends
  have hlatch := s.started_latch
  rw [State.startFaulted_release, ← Ev.endStarting_started] at hlatch
  rw [← Ev.endStarting_started] at hmode
  rw [State.event, Ev.endStarting_tasks, h, if_pos rfl, List.singleton_append]
  have hts := ofBays_map (s := ((Ev.endStarting (Ev.start s)).1.fireSet .fireInput).1.s) (f := .presence)
    (fun _ => trivial) allBays
  exact ⟨Ev.finish_fireSet_mode _ _ hts hmode, fun hnone => Ev.finish_fireSet_latch _ _ hts (hlatch.trans hnone)⟩

theorem State.endStarting_mode (s : State) :
    (s.event Ev.endStarting).mode.mode = .service ∨ (s.event Ev.endStarting).mode.mode = .halted := by
  cases h : s.started.functionLevel .fireInput with
  | true => exact (State.endStarting_fire h).1
  | false =>
    rw [(PresencesFormed.endStarting h).mode]
    exact s.started_mode_ends

theorem State.endStarting_inputLine (s : State) (l : InputLine) : ((s.event Ev.endStarting).inputLine l).level = s.logicalLevel l
    ∧ ((s.event Ev.endStarting).inputLine l).raw = (s.inputLine l).raw := by
  rw [(FieldStands.endStarting s).inputs, (FieldStands.started s).inputs]
  exact s.readLines_inputLine l

theorem AloneStands.endStarting (s : State) : AloneStands s (s.event Ev.endStarting) :=
  ((LinesOnly.readLines s).alone.trans (FieldStands.started s).toAloneStands).trans (FieldStands.endStarting s).toAloneStands

theorem execLoadingEnds_eq (hruns : s.runs = true) (hmode : s.mode.mode = .starting) :
    exec .loadingEnds s = .next (s.event Ev.endStarting) :=
  congrArg Host.Outcome.next (if_pos (by rw [hruns, hmode]; rfl))

/-- Settles O5: the filters take the levels of their lines, each bay its derived phase, the mode what the store and the start-up
conflicts give; of the tasks that follow, without fire the presences change none of it, and with fire the latch that is set
stands. -/
theorem loadingEndsStarting : Obligations.LoadingEndsStarting := by
  unfold Obligations.LoadingEndsStarting
  intro s hruns hmode
  obtain ⟨hstands, hlinks, hstore, hsupervision⟩ := AloneStands.endStarting s
  have hfire := (FieldStands.endStarting s).functionLevel .fireInput
  refine ⟨_, execLoadingEnds_eq hruns hmode, s.endStarting_inputLine, s.endStarting_keyLevel, s.endStarting_mode,
    fun hlevel => (State.endStarting_fire (hfire.symm.trans hlevel)).2, fun hlevel => ?_, hstands, hstore, hlinks, hsupervision⟩
  have hformed := PresencesFormed.endStarting (hfire.symm.trans hlevel)
  refine ⟨?latch, fun b => ?bay, fun hinvalid => ?invalid, fun hvalid heffect => ?service, ?train⟩
  case latch => rw [hformed.latch, s.started_latch, s.startFaulted_release]
  case bay =>
    obtain ⟨hphase, htimer, hframe⟩ := hformed.derivedAt (s.started_derivedAt b)
    refine ⟨hphase, htimer, hframe, fun hlog hreleased => ?_⟩
    rw [hformed.field Bay.phase (fun _ => rfl) (fun _ _ => rfl), State.started_bay] at hreleased
    rw [hformed.hasOpenRecord]
    exact State.started_open (by rw [s.startFaulted_release, hlog]) hreleased
  case invalid =>
    rw [hformed.mode, hformed.platformFrame, s.started_platformFrame]
    obtain ⟨hhalted, hcause⟩ := State.started_invalid hinvalid
    exact ⟨hhalted, hcause, State.startFaulted_platformFrame hinvalid⟩
  case service =>
    rw [hformed.mode]
    exact State.started_service hvalid heffect
  case train =>
    obtain ⟨htrain, hgap⟩ := hformed.trainStands
    obtain ⟨kept, kgap⟩ := s.started_trainStands
    exact ⟨htrain.trans kept, hgap.trans kgap⟩

end

end Sys2Proof.Machine
end

section
/-! The refusals of the owners, in the order of their checks (spec/09 R160, R164; spec/11 R181; spec/01 R26). -/

namespace Sys2Proof.Machine

/-! ### A refusal answered -/

section

variable {s v : State} {l : Link} {q : RequestKind} {body : List Byte} {i : Instr} {r : Result}

theorem State.recordAuthority_eq (s : State) (l : Link) (k : Byte) (r : Result) :
    s.recordAuthority l k r = refusalRecorded s l k r := by cases r <;> rfl

theorem refusalRecorded_other (s : State) (l : Link) (k : Byte) (h : r.isAuthority = false) : refusalRecorded s l k r = s := by
  rw [← State.recordAuthority_eq, State.recordAuthority_other _ _ _ _ h]

/-- Recording a refusal reads nothing of the station link and leaves it alone. -/
theorem refusalRecorded_takeFrame (s : State) (k : Byte) (r : Result) :
    refusalRecorded (s.takeFrame .station) .station k r = (refusalRecorded s .station k r).takeFrame .station := by
  unfold refusalRecorded
  split <;> rfl

theorem refusalRecorded_station (s : State) (k : Byte) (r : Result) : (refusalRecorded s .station k r).station = s.station := by
  unfold refusalRecorded
  split <;> rfl

/-- A station request that its owner refuses, in a state that differs from v by the frame taken: the refusal is recorded where it
is one of authority (spec/08 R155), and answered. -/
theorem exec_station_refused_in (hi : requestOf i = some (.station, q, body)) (h : Admits .station q body s)
    (howner : ownerOf q body (s.takeFrame .station) = .refuse (v.takeFrame .station) r) :
    exec i s = .next (stationAnswer (refusalRecorded v .station q.code r) q.code r []) := by
  have hcarried : (Answer.refuse (v.takeFrame .station) r).carryOut .station q.code
      = stationDone v ((refusalRecorded v .station q.code r).takeFrame .station) q.code r [] := by
    simp only [Answer.carryOut, Answer.outcome_refuse, Ev.start_s, State.recordAuthority_eq]
    simp only [Answer.refuse, refusalRecorded_takeFrame]
    generalize hrecorded : refusalRecorded v .station q.code r = w
    have hw : w.station = v.station := by rw [← hrecorded, refusalRecorded_station]
    simp only [State.takeFrame, State.owe, State.prepare, State.setPort, State.port, State.headBlock, State.formPins,
      State.setBuffer, hw]
    rfl
  rw [exec_request hi, State.request_admits _ _ _ _ _ h, howner, hcarried,
    stationDone_takeFrame (refusalRecorded_station v _ _)]

/-- A request that its owner refuses for a reason that is not one of authority, on either link. -/
theorem exec_refused (hi : requestOf i = some (l, q, body)) (h : Admits l q body s)
    (howner : ownerOf q body (s.takeFrame l) = .refuse (s.takeFrame l) r) (hr : r.isAuthority = false) :
    exec i s = .next (answered l s q.code r []) := by
  cases l with
  | station => exact exec_station_refused hi h howner hr
  | signalling => exact exec_signalling_refused hi h howner hr

end

/-! ### The store's checks -/

section

variable {s : State} {k : RequestKind} {body : List Byte} {r : Result}

theorem State.storeRefusal_service (h : s.mode.mode = .service) : s.storeRefusal = some .mode := by
  simp [State.storeRefusal, h]

/-- Once STARTING is over a mode other than SERVICE is one that the store admits. -/
theorem State.storeRefusal_past_mode (hstarting : s.mode.mode ≠ .starting) (hservice : s.mode.mode ≠ .service) :
    s.storeRefusal = if s.store.frozen then some .guarded else if s.store.busy then some .busy else none := by
  have hadmits : (!(s.mode.mode == .maintenance || s.mode.mode == .halted)) = false := by
    cases hmode : s.mode.mode <;> simp_all
  rw [State.storeRefusal, hadmits]
  rfl

theorem Store.busy_iff (s : Store) : s.busy = true ↔ s.state = .committing ∨ s.state = .suspended := by simp [Store.busy]

/-- Every request that writes the store is refused by the store's own checks before its body is read (spec/09 R160, R164);
WRITE_BAY by the geometry mark before them. -/
theorem ownerOf_store_refused (hk : k.writesStore = true) (hmark : k ≠ .writeBay ∨ s.store.area.mark = false)
    (h : s.storeRefusal = some r) : ownerOf k body s = .refuse s r := by
  cases k with
  | writeBay =>
    have hunmarked : s.store.area.mark = false := hmark.resolve_left (fun hne => hne rfl)
    simp [ownerOf, ownerWriteBay, State.writeBayRefusal, hunmarked, h]
  | writeProfile => simp [ownerOf, ownerWriteProfile, h]
  | eraseProfile => simp [ownerOf, ownerEraseProfile, h]
  | writeResponse => simp [ownerOf, ownerWriteResponse, h]
  | writeLine => simp [ownerOf, ownerWriteLine, h]
  | writePlatform => simp [ownerOf, ownerWritePlatform, h]
  | commit => simp [ownerOf, ownerCommit, h]
  | _ => exact absurd hk (by decide)

theorem ownerWriteBay_marked (h : s.store.area.mark = true) : ownerOf .writeBay body s = .refuse s .guarded := by
  simp [ownerOf, ownerWriteBay, State.writeBayRefusal, h]

/-- The station link alone takes the requests that write the store. -/
theorem RequestKind.writesStore_link (h : k.writesStore = true) : k.link = .station := by
  cases k with
  | writeBay | writeProfile | eraseProfile | writeResponse | writeLine | writePlatform | commit => rfl
  | _ => exact absurd h (by decide)

/-! ### Fields out of range -/

/-- A configuration write that the store admits is refused for a field out of range (spec/09 R160). -/
theorem ownerOf_store_range (hk : k.writesStore = true) (hmark : k ≠ .writeBay ∨ s.store.area.mark = false)
    (h : s.storeRefusal = none) (hrange : RangeFails k body) : ownerOf k body s = .refuse s .range := by
  cases k with
  | writeBay =>
    have hunmarked : s.store.area.mark = false := hmark.resolve_left (fun hne => hne rfl)
    have hoperand : bayOperand body = none := by simpa [RangeFails] using hrange
    simp [ownerOf, ownerWriteBay, State.writeBayRefusal, hunmarked, h, hoperand]
  | writeProfile =>
    have hoperand : profileOperand body = none := by simpa [RangeFails] using hrange
    simp [ownerOf, ownerWriteProfile, h, hoperand]
  | eraseProfile =>
    have hoperand : eraseOperand body = none := by simpa [RangeFails] using hrange
    simp [ownerOf, ownerEraseProfile, h, hoperand]
  | writeResponse =>
    have hoperand : responseOperand body = none := by simpa [RangeFails] using hrange
    simp [ownerOf, ownerWriteResponse, h, hoperand]
  | writeLine =>
    have hoperand : lineOperand body = none := by simpa [RangeFails] using hrange
    simp [ownerOf, ownerWriteLine, h, hoperand]
  | writePlatform =>
    have hoperand : platformOperand body = none := by simpa [RangeFails] using hrange
    simp [ownerOf, ownerWritePlatform, h, hoperand]
  | commit => simp [RangeFails] at hrange
  | _ => exact absurd hk (by decide)

/-- Every other owner that reads a body reads it first (spec/11 R181). -/
theorem ownerOf_range (hk : k.writesStore = false) (hrange : RangeFails k body) : ownerOf k body s = .refuse s .range := by
  rcases hrange with ⟨rfl, h⟩ | ⟨rfl, h⟩ | ⟨rfl, h⟩ | ⟨rfl, h⟩ | ⟨rfl, h⟩ | ⟨rfl, h⟩ | ⟨rfl, h⟩ | ⟨rfl, h⟩ | ⟨rfl, h⟩
    | ⟨rfl, h⟩ | ⟨rfl, h⟩ | ⟨rfl, h⟩ | ⟨rfl, h⟩ | ⟨rfl, -⟩ | ⟨rfl, -⟩ | ⟨rfl, -⟩ | ⟨rfl, -⟩ | ⟨rfl, -⟩ | ⟨rfl, -⟩
  · simp only [ownerOf, ownerAnnounce, h]
  · simp only [ownerOf, ownerBerth, h]
  · simp only [ownerOf, ownerOpenMap, h]
  · simp only [ownerOf, ownerReadBays, h]
  · simp only [ownerOf, ownerReadFault, h]
  · simp only [ownerOf, ownerReadReleases, h]
  · simp only [ownerOf, ownerReadLines, h]
  · simp only [ownerOf, ownerReadConfig, h]
  · simp only [ownerOf, ownerTakeEvents, h]
  · simp only [ownerOf, ownerSetTrace, h]
  · simp only [ownerOf, ownerBayCommand, h]
  · simp only [ownerOf, ownerAckRelease, h]
  · simp only [ownerOf, ownerExtendDwell, h]
  all_goals exact absurd hk (by decide)

/-! ### Conflicts, and actions that the mode does not admit -/

theorem ownerWriteProfile_conflict {i : Fin 12} {p : Profile} (h : s.storeRefusal = none)
    (hoperand : profileOperand body = some (i, p)) (hconflict : s.consistTaken i p.consist = true) :
    ownerOf .writeProfile body s = .refuse s .conflict := by simp [ownerOf, ownerWriteProfile, h, hoperand, hconflict]

theorem ownerWriteResponse_conflict {i : Fin 32} {x : Response} (h : s.storeRefusal = none)
    (hoperand : responseOperand body = some (i, x)) (hconflict : i.val = 19) :
    ownerOf .writeResponse body s = .refuse s .conflict := by
  have hfixed : (i.val == FaultCode.storeInvalid.number) = true := by rw [hconflict]; rfl
  simp only [ownerOf, ownerWriteResponse, h, hoperand, hfixed, if_true]

theorem ownerWriteLine_conflict {n : LineIx} {x : LineRecord} (h : s.storeRefusal = none)
    (hoperand : lineOperand body = some (n, x)) (hconflict : s.lineTaken n x = true ∨ s.endsSession n x = true) :
    ownerOf .writeLine body s = .refuse s .conflict := by
  simp [ownerOf, ownerWriteLine, h, hoperand, hconflict]

theorem ownerBayCommand_mode {bays : Nat} {a : BayAction} (hoperand : bayCommandOperand body = some (bays, a))
    (h : a.admitted s.mode.mode = false) : ownerOf .bayCommand body s = .refuse s .mode := by
  simp [ownerOf, ownerBayCommand, hoperand, h]

end

/-- Settles O49: the owner's first check that fails gives its answer; taking the frame changes nothing that a check reads. -/
theorem ownerRefusalsComeInOrder : Obligations.OwnerRefusalsComeInOrder := by
  intro c l k body s hi hadmits
  have ⟨_, hstarting, hlink, _⟩ := hadmits
  have refuses (hl : l = .station) {r : Result}
      (howner : ownerOf k body (s.takeFrame .station) = .refuse (s.takeFrame .station) r) :
      exec c s = .next (stationAnswer (refusalRecorded s .station k.code r) k.code r []) := by
    subst hl
    exact exec_station_refused_in hi hadmits howner
  have declines (hl : l = .station) {r : Result}
      (howner : ownerOf k body (s.takeFrame .station) = .refuse (s.takeFrame .station) r) (hr : r.isAuthority = false) :
      exec c s = .next (stationAnswer s k.code r []) := by
    rw [refuses hl howner, refusalRecorded_other _ _ _ hr]
  refine ⟨fun hk hmark => ?_, fun hk hmark => ?_, fun hk hrange => ?_, fun bays a hk hoperand hmode => ?_⟩
  · subst hk
    exact refuses hlink.symm (ownerWriteBay_marked hmark)
  · have hl : l = .station := hlink.symm.trans (RequestKind.writesStore_link hk)
    have store {r : Result} (h : s.storeRefusal = some r) :
        ownerOf k body (s.takeFrame .station) = .refuse (s.takeFrame .station) r := ownerOf_store_refused hk hmark h
    refine ⟨fun hmode => refuses hl (store (State.storeRefusal_service hmode)), fun hmode hfrozen => refuses hl (store ?_),
      fun hmode hfrozen hbusy => declines hl (store ?_) rfl, fun hmode hfrozen hcommitting hsuspended => ?_⟩
    · rw [State.storeRefusal_past_mode hstarting hmode, hfrozen, if_pos rfl]
    · rw [State.storeRefusal_past_mode hstarting hmode, hfrozen, (Store.busy_iff _).mpr hbusy, if_neg nofun, if_pos rfl]
    · have hidle : s.store.busy = false := by simp [Store.busy, hcommitting, hsuspended]
      have hnone : (s.takeFrame .station).storeRefusal = none := by
        refine (State.storeRefusal_past_mode (s := s) hstarting hmode).trans ?_
        rw [hfrozen, hidle, if_neg nofun, if_neg nofun]
      refine ⟨fun hrange => declines hl (ownerOf_store_range hk hmark hnone hrange) rfl,
        fun i p hk hoperand hconflict => ?_, fun i x hk hoperand hconflict => ?_, fun n x hk hoperand hconflict => ?_⟩
      · subst hk
        exact declines hl (ownerWriteProfile_conflict hnone hoperand hconflict) rfl
      · subst hk
        exact declines hl (ownerWriteResponse_conflict hnone hoperand hconflict) rfl
      · subst hk
        exact declines hl (ownerWriteLine_conflict hnone hoperand hconflict) rfl
  · exact exec_refused hi hadmits (ownerOf_range hk hrange) rfl
  · subst hk
    exact refuses hlink.symm (ownerBayCommand_mode hoperand hmode)

end Sys2Proof.Machine
end

section
/-! Events that change the store: RECORD_WRITE_COMPLETES, COMMIT, FREEZE_CONFIG and FIX_GEOMETRY (spec/09 R164 to R169). -/

namespace Sys2Proof.Machine

/-! ### What an event of the store has changed so far -/

/-- Of the state s only the store (its one-time area and its frozen flag apart), the station link and the event queue have
changed. -/
structure StoreOnly (s t : State) : Prop where
  rest : { t with store := s.store, station := s.station, events := s.events } = s
  area : t.store.area = s.store.area
  frozen : t.store.frozen = s.store.frozen
  mask : t.events.mask = s.events.mask
  authority : t.events.authority = s.events.authority

namespace StoreOnly

variable {s t : State}

theorem read (h : StoreOnly s t) {α : Type} (f : State → α)
    (hf : f { t with store := s.store, station := s.station, events := s.events } = f t) : f t = f s :=
  hf.symm.trans (congrArg f h.rest)

theorem setStore (s : State) (x : Store) (harea : x.area = s.store.area) (hfrozen : x.frozen = s.store.frozen) :
    StoreOnly s { s with store := x } := ⟨rfl, harea, hfrozen, rfl, rfl⟩

theorem setStore_post (s : State) (x : Store) (k : EventKind) (c : Option BayIx) (v : Nat) (harea : x.area = s.store.area)
    (hfrozen : x.frozen = s.store.frozen) : StoreOnly s (({ s with store := x } : State).post k c v) :=
  ⟨rfl, harea, hfrozen, State.post_mask _ k c v, State.post_authority _ k c v⟩

/-- An event whose request came in the frame just taken. -/
theorem of_takeFrame (h : StoreOnly (s.takeFrame .station) t) : StoreOnly s t :=
  ⟨congrArg (fun u => { u with station := s.station }) h.rest, h.area, h.frozen, h.mask, h.authority⟩

section

variable (h : StoreOnly s t)
include h

theorem stands : Stands s t :=
  { power := h.read State.power rfl
    uptime := h.read State.uptime rfl
    area := h.area
    frozen := h.frozen
    pending := h.read State.pending rfl
    restartCause := h.read (fun u => u.mode.restartCause) rfl
    restartAccepted := h.read (fun u => u.mode.restartAccepted) rfl
    mask := h.mask
    authority := h.authority
    trace := fun b => h.read (fun u => (u.bay b).trace) rfl
    freeCount := h.read State.freeCount rfl }

theorem linesStand : LinesStand s t := ⟨h.read State.lines rfl, fun b => h.read (fun u => (u.bay b).lines) rfl⟩

/-- What the end of the event leaves on the face. -/
theorem settled :
    Stands s t.settle ∧ LinesStand s t.settle ∧ BaysStand s t.settle ∧ TrainStands s t.settle ∧ ReleaseStands s t.settle
      ∧ FaceStands s t.settle ∧ t.settle.supervision = s.supervision :=
  ⟨h.stands.settle, LinesStand.settle h.linesStand, BaysStand.settle fun b => h.read (fun u => (u.bay b).core) rfl,
    TrainStands.settle ⟨h.read State.train rfl, h.read State.gap rfl⟩,
    ReleaseStands.settle (h.read (fun u => { u.release with alarm := s.release.alarm }) rfl),
    FaceStands.settle ⟨h.read (fun u => { u.mode with preparation := s.mode.preparation }) rfl,
      h.read State.platformFrame rfl, h.read (fun u => u.proof.keyLevel) rfl, h.read State.stalled rfl⟩,
    t.settle_supervision.trans (h.read State.supervision rfl)⟩

/-- What a station request leaves whose event has changed the store alone. -/
theorem writeStands (k : Byte) (r : Result) (content : List Byte) :
    WriteStands s (stationDone s t.settle k r content) ∧ LinesStand s (stationDone s t.settle k r content) := by
  obtain ⟨hstands, hlines, hbays, ⟨htrain, hgap⟩, hrelease, hface, hsupervision⟩ := h.settled
  refine ⟨⟨hstands.stationDone, ?_, fun b => ?_, ⟨?_, ?_⟩, ReleaseStands.stationDone hrelease, FaceStands.stationDone hface, ?_⟩,
    LinesStand.stationDone hlines⟩
  · rw [stationDone_signalling, State.settle_signalling, h.read State.signalling rfl]
  · rw [stationDone_bay, hbays]
  · rw [stationDone_train, htrain]
  · rw [stationDone_gap, hgap]
  · rw [stationDone_supervision, hsupervision]

end

end StoreOnly

/-- A store that is not suspended, or whose suspending cause stands, is not resumed by the end of an event (spec/09 R166). -/
theorem State.settle_store_kept {s : State} (h : s.store.state = .suspended → s.suspends = true) : s.settle.store = s.store := by
  by_cases hsuspended : s.store.state = .suspended
  · have hcause := h hsuspended
    have hresume : s.resumeStore = s := by
      simp only [State.suspends, Bool.or_eq_true, bne_iff_ne] at hcause
      rw [State.resumeStore, if_neg]
      rcases hcause with htrain | hfire
      · simp [htrain]
      · simp [hfire]
    have hproof := congrArg State.store s.resumeStore.watchStuck.formAlarm.formProof_same
    have hwatch := congrArg State.store s.resumeStore.watchStuck_same
    dsimp only at hproof hwatch
    rw [State.settle_eq, State.formPins_store, hproof, State.formAlarm_store, hwatch, hresume]
  · exact s.settle_store_same hsuspended

theorem State.suspends_iff (s : State) : s.suspends = true ↔ s.train.state ≠ .empty ∨ s.fire = true := by simp [State.suspends]

/-! ### RECORD_WRITE_COMPLETES -/

section

variable {s : State}

theorem StoreOnly.recordPassed (s : State) : StoreOnly s s.recordPassed := by
  simp only [State.recordPassed]
  split
  · exact .setStore_post s _ _ _ _ rfl rfl
  split
  · exact .setStore_post s _ _ _ _ rfl rfl
  · exact StoreOnly.setStore s _ rfl rfl

theorem State.recordPassed_station (s : State) : s.recordPassed.station = s.station := by
  simp only [State.recordPassed]
  repeat' split
  all_goals rfl

/-- The store after the last record, and after one that is not the last. -/
theorem State.recordPassed_store (h : s.store.state = .committing) : s.recordPassed.store =
    if s.store.written + 1 = s.store.total then s.store.recordWritten.complete
    else { s.store.recordWritten with
      state := if s.train.state ≠ .empty ∨ s.fire = true then .suspended else .committing } := by
  have hlast : (s.store.recordWritten.written == s.store.recordWritten.total) = true ↔ s.store.written + 1 = s.store.total :=
    beq_iff_eq
  have hcommitting : s.store.recordWritten = { s.store.recordWritten with state := .committing } := by rw [← h]; rfl
  simp only [State.recordPassed, hlast, State.suspends_iff]
  split
  · rfl
  split
  · rfl
  · exact hcommitting

theorem State.recordPassed_suspends (h : s.store.state = .committing) (hsuspended : s.recordPassed.store.state = .suspended) :
    s.recordPassed.suspends = true := by
  have hread : s.recordPassed.suspends = s.suspends := (StoreOnly.recordPassed s).read State.suspends rfl
  rw [hread, State.suspends_iff]
  rw [State.recordPassed_store h] at hsuspended
  split at hsuspended
  · exact absurd hsuspended nofun
  dsimp only at hsuspended
  split at hsuspended
  · assumption
  · exact absurd hsuspended nofun

theorem exec_recordWriteCompletes (hactive : s.active = true) (h : s.store.state = .committing) (verified : Bool) :
    exec (.recordWriteCompletes verified) s
      = .next (s.event (fun e => if verified then (e.on State.recordPassed, []) else e.recordFailed)) :=
  congrArg Host.Outcome.next (if_pos (by simp [hactive, h]))

/-- The store after a record that fails its verify (spec/09 R167; log 13). -/
def Store.recordFailed (x : Store) : Store :=
  { x with state := .invalid, stored := { x.stored with sound := x.stored.sound.setIfInBounds x.position false } }

/-- Tasks touch no store, and the end of an event one that is suspended alone. -/
theorem Ev.finish_store (e : Ev) (ts : List Task) (h : e.s.store.state ≠ .suspended) : (e.finish ts).s.store = e.s.store := by
  have hrun := State.kept_store (run_kept Config.eventBound ts e)
  rw [Ev.finish, Ev.on_s, State.settle_store_same _ (by rw [hrun]; exact h), hrun]

/-- A platform fault and what follows it leave the fire latch alone. -/
theorem Ev.finish_raiseFace_latch (e : Ev) (c : FaultCode) (d : Nat) :
    (e.finish [.raiseFace c d]).s.release.latch = e.s.release.latch := by
  obtain ⟨k, hk⟩ := Nat.exists_eq_succ_of_ne_zero (n := Config.eventBound) (by decide)
  obtain ⟨-, hlatch, -⟩ :=
    run_follows k _ (e.raiseFace c d).1 (followUp_singleton (.effect (e.s.response c).platformEffect c))
  rw [Ev.finish, Ev.on_s, hk, Nat.succ_eq_add_one, run_cons]
  exact (State.settle_latch _).trans (hlatch.trans (congrArg Release.latch (State.recordPlatform_release _ _ _)))

/-- RECORD_WRITE_COMPLETES of a record that verifies: an event without tasks. -/
theorem State.recordPassed_settled (h : s.store.state = .committing) :
    s.recordPassed.settle.store = s.recordPassed.store ∧ Stands s s.recordPassed.settle
      ∧ LinksStand s s.recordPassed.settle ∧ LinesStand s s.recordPassed.settle ∧ BaysStand s s.recordPassed.settle
      ∧ TrainStands s s.recordPassed.settle ∧ ReleaseStands s s.recordPassed.settle ∧ FaceStands s s.recordPassed.settle
      ∧ s.recordPassed.settle.supervision = s.supervision := by
  have honly := StoreOnly.recordPassed s
  obtain ⟨hstands, hlines, hface⟩ := honly.settled
  exact ⟨State.settle_store_kept (State.recordPassed_suspends h), hstands,
    LinksStand.settle ⟨s.recordPassed_station, honly.read State.signalling rfl, honly.read (fun u => u.mode.preparation) rfl⟩,
    hlines, hface⟩

/-- The event of a record that fails its verify, before its tasks. -/
def State.recordFails (s : State) : Ev := (Ev.start s).on (fun u => { u with store := u.store.recordFailed })

theorem State.recordFails_only (s : State) : StoreOnly s s.recordFails.s := .setStore s _ rfl rfl

/-- Settles O21: a record that verifies is an event without tasks; one that does not raises STORE_FAILED, whose tasks touch no
store. -/
theorem recordWritesCarryTheCommit : Obligations.RecordWritesCarryTheCommit := by
  intro s hactive hcommitting
  refine ⟨?passed, ?failed⟩
  case passed =>
    have hexec := exec_recordWriteCompletes hactive hcommitting true
    simp only [if_true, State.event_on] at hexec
    obtain ⟨hstore, hstands⟩ := State.recordPassed_settled hcommitting
    exact ⟨_, hexec, hstore.trans (State.recordPassed_store hcommitting), hstands⟩
  case failed =>
    have hexec : exec (.recordWriteCompletes false) s
        = .next (s.recordFails.finish [.raiseFace .storeFailed (s.store.written + 1)]).s :=
      exec_recordWriteCompletes hactive hcommitting false
    obtain ⟨hstands, -, hlinks, hlines, hsupervision⟩ :=
      s.recordFails.finish_stands [.raiseFace .storeFailed (s.store.written + 1)]
    refine ⟨_, hexec, Ev.finish_store _ _ nofun, fun hframe => ?_, s.recordFails_only.stands.trans hstands, hlinks, hlines,
      Ev.finish_raiseFace_latch _ _ _, hsupervision⟩
    exact (Ev.finish_raiseFace _ _ _).trans (State.recordPlatform_inactive (s := s.recordFails.s) hframe _ _)

end

/-! ### COMMIT, FREEZE_CONFIG and FIX_GEOMETRY -/

section

variable {s : State} {body : List Byte}

theorem StoreOnly.commit (s : State) : StoreOnly s s.commit := by
  simp only [State.commit]
  split
  · exact .setStore_post s _ _ _ _ rfl rfl
  · exact .setStore s _ rfl rfl

theorem State.commit_station (s : State) : s.commit.station = s.station := by
  simp only [State.commit]
  split <;> rfl

theorem State.commit_store (s : State) : s.commit.store = { s.store with
    state := if s.train.state ≠ .empty ∨ s.fire = true then .suspended else .committing
    total := if s.store.area.mark then 69 else 93, written := 0, stored := { s.store.stored with completion := false } } := by
  simp only [State.commit, State.suspends_iff]
  split <;> rfl

theorem State.commit_suspends (h : s.commit.store.state = .suspended) : s.commit.suspends = true := by
  have hread : s.commit.suspends = s.suspends := (StoreOnly.commit s).read State.suspends rfl
  rw [hread, State.suspends_iff]
  rw [State.commit_store] at h
  dsimp only at h
  split at h
  · assumption
  · exact absurd h nofun

theorem exec_commit (hadmits : Admits .station .commit body s) (hstore : s.storeRefusal = none) :
    exec (.commit .station body) s = .next (stationDone s (s.takeFrame .station).commit.settle RequestKind.commit.code .done
      (be8 (if s.store.area.mark then 69 else 93))) := by
  have hnone : (s.takeFrame .station).storeRefusal = none := hstore
  have howner : ownerOf .commit body (s.takeFrame .station) = .event (s.takeFrame .station)
      (fun e => (e.on State.commit, [])) (fun e => (.done, be8 e.s.store.total)) := by
    simp only [ownerOf, ownerCommit, hnone]
  have hdone := State.request_station (e' := (Ev.start (s.takeFrame .station)).on State.commit) hadmits howner (run_nil _ _)
    (State.commit_station _) rfl
  have htotal : (s.takeFrame .station).commit.settle.store.total = if s.store.area.mark then 69 else 93 := by
    rw [State.settle_store_kept State.commit_suspends, State.commit_store]
    rfl
  rw [exec_request (k := .commit) rfl, hdone]
  simp only [Ev.on_s, Ev.start_s, htotal]

/-- The owner of FIX_GEOMETRY once the geometry mark, the frozen flag and a commit under way are out of the way (spec/09 R169). -/
theorem ownerFixGeometry_verifies (hmark : s.store.area.mark = false) (hfrozen : s.store.frozen = false)
    (hbusy : s.store.busy = false) : ownerOf .fixGeometry body s =
      if Config.areaVerifies s.freeCount then .settled { s.useFree with store := s.store.fixGeometry } []
      else .refuse s.useFree .refused := by simp [ownerOf, ownerFixGeometry, hmark, hfrozen, hbusy]

theorem ownerFixGeometry_guarded (h : s.store.area.mark = true ∨ s.store.frozen = true) :
    ownerOf .fixGeometry body s = .refuse s .guarded := by simp [ownerOf, ownerFixGeometry, h]

theorem ownerFixGeometry_busy (hmark : s.store.area.mark = false) (hfrozen : s.store.frozen = false)
    (hbusy : s.store.busy = true) : ownerOf .fixGeometry body s = .refuse s .busy := by
  simp [ownerOf, ownerFixGeometry, hmark, hfrozen, hbusy]

/-- Settles O52: COMMIT is an event without tasks; the other two settle their request, or refuse it. -/
theorem commitFreezeAndFixGeometry : Obligations.CommitFreezeAndFixGeometry := by
  intro body s
  refine ⟨fun hadmits hstore => ?commit, fun hadmits => ?freeze, fun hadmits => ⟨fun hguarded => ?guarded,
    fun hmark hfrozen => ⟨fun hbusy => ?busy, fun hcommitting hsuspended => ?fix⟩⟩⟩
  case commit =>
    obtain ⟨hstands, hlines⟩ := (StoreOnly.commit (s.takeFrame .station)).of_takeFrame.writeStands RequestKind.commit.code .done
      (be8 (if s.store.area.mark then 69 else 93))
    refine ⟨_, exec_commit hadmits hstore, stationDone_answered .commit, ?_, hstands, hlines⟩
    rw [stationDone_store, State.settle_store_kept State.commit_suspends]
    exact State.commit_store _
  case freeze =>
    exact exec_station_settled (v := { s with store := { s.store with frozen := true } }) rfl hadmits rfl rfl
  case guarded => exact exec_station_refused_in rfl hadmits (ownerFixGeometry_guarded hguarded)
  case busy => exact exec_station_refused rfl hadmits (ownerFixGeometry_busy hmark hfrozen ((Store.busy_iff _).mpr hbusy)) rfl
  case fix =>
    have hidle : s.store.busy = false := by simp [Store.busy, hcommitting, hsuspended]
    have howner := ownerFixGeometry_verifies (s := s.takeFrame .station) (body := body) hmark hfrozen hidle
    refine ⟨fun hverifies => ?_, fun hfails => ?_⟩
    · refine exec_station_settled (v := { s.useFree with store := s.store.fixGeometry }) rfl hadmits rfl ?_
      exact howner.trans (if_pos hverifies)
    · have hrefused := exec_station_refused_in (v := s.useFree) (i := .fixGeometry .station body) rfl hadmits
        (howner.trans (if_neg (by simpa [State.takeFrame_station] using hfails)))
      rwa [refusalRecorded_other _ _ _ rfl] at hrefused

end

end Sys2Proof.Machine
end

section
/-! The configuration writes other than WRITE_BAY (spec/09 R160 to R162; spec/02 R30; spec/03 R62, R63; spec/07 R130). -/

namespace Sys2Proof.Machine

/-! ### A write answered -/

section

variable {s : State} {q : RequestKind} {body : List Byte} {i : Instr} {f : Ev → Ev × List Task}

theorem stationDone_line {w : State} {k : Byte} {r : Result} {content : List Byte} (m : LineIx) :
    (stationDone s w k r content).line m = w.line m := rfl

/-- A station request that its owner carries out as an event and answers DONE. -/
theorem exec_station_done (hi : requestOf i = some (.station, q, body)) (h : Admits .station q body s)
    (howner : ownerOf q body (s.takeFrame .station) = .event (s.takeFrame .station) f doneReply) {e : Ev} {ts : List Task}
    (hf : f (Ev.start (s.takeFrame .station)) = (e, ts)) (hstation : e.s.station = (s.takeFrame .station).station) :
    exec i s = .next (stationDone s (e.finish ts).s q.code .done []) := by
  have hrun : run Config.eventBound (f (Ev.start (s.takeFrame .station))).2 (f (Ev.start (s.takeFrame .station))).1
      = run Config.eventBound ts e := by rw [hf]
  have hkept := (State.kept_station (run_kept Config.eventBound ts e)).trans hstation
  rw [exec_request hi, State.request_station h howner hrun hkept rfl]
  rfl

/-- The state of an accepted write once the record is replaced, to the end of its event: the store has the new working copy and
is dirty, and nothing else on the face has changed (spec/09 R161). -/
theorem State.setWorking_done (hstore : s.storeRefusal = none) (w : Records) (k : Byte) :
    (stationDone s ((s.takeFrame .station).setWorking w).settle k .done []).store
        = { s.store with dirty := true, working := w }
      ∧ WriteStands s (stationDone s ((s.takeFrame .station).setWorking w).settle k .done [])
      ∧ LinesStand s (stationDone s ((s.takeFrame .station).setWorking w).settle k .done []) := by
  have honly : StoreOnly s ((s.takeFrame .station).setWorking w) := .of_takeFrame (.setStore _ _ rfl rfl)
  have hidle : ((s.takeFrame .station).setWorking w).store.state ≠ .suspended := State.storeRefusal_none hstore
  obtain ⟨hstands, hlines⟩ := honly.writeStands k .done []
  exact ⟨by rw [stationDone_store, State.settle_store_same _ hidle]; rfl, hstands, hlines⟩

/-- A write that replaces a record and has no task. -/
theorem exec_station_replaces (hi : requestOf i = some (.station, q, body)) (h : Admits .station q body s)
    (hstore : s.storeRefusal = none)
    (howner : ownerOf q body (s.takeFrame .station) = .event (s.takeFrame .station) f doneReply) {w : Records}
    (hf : f (Ev.start (s.takeFrame .station)) = ((Ev.start (s.takeFrame .station)).on (fun u => u.setWorking w), [])) :
    ∃ t, exec i s = .next t ∧ StationAnswered s t q .done [] ∧ t.store = { s.store with dirty := true, working := w }
      ∧ WriteStands s t ∧ LinesStand s t := by
  have hexec := exec_station_done hi h howner hf rfl
  rw [Ev.finish_nil, Ev.on_s, Ev.start_s] at hexec
  exact ⟨_, hexec, stationDone_answered q, State.setWorking_done hstore w q.code⟩

end

/-! ### What the owners accept -/

section

variable {s : State} {body : List Byte} (hstore : s.storeRefusal = none)
include hstore

theorem ownerWriteProfile_accepts {i : Fin 12} {p : Profile} (hoperand : profileOperand body = some (i, p))
    (hfree : s.consistTaken i p.consist = false) :
    ownerOf .writeProfile body s = .event s (fun e => (e.on (fun t => t.setProfile i p), [])) doneReply := by
  simp [ownerOf, ownerWriteProfile, hstore, hoperand, hfree]

theorem ownerEraseProfile_accepts {i : Fin 12} (hoperand : eraseOperand body = some i) :
    ownerOf .eraseProfile body s = .event s (fun e => (e.on (fun t => t.eraseProfile i), [])) doneReply := by
  simp [ownerOf, ownerEraseProfile, hstore, hoperand]

/-- Entry 19 alone is fixed (spec/07 R130). -/
theorem ownerWriteResponse_accepts {i : Fin 32} {r : Response} (hoperand : responseOperand body = some (i, r))
    (hfree : i.val ≠ 19) :
    ownerOf .writeResponse body s = .event s (fun e => (e.on (fun t => t.setResponse i r), [])) doneReply := by
  have hopen : (i.val == FaultCode.storeInvalid.number) = false := beq_eq_false_iff_ne.mpr hfree
  simp [ownerOf, ownerWriteResponse, hstore, hoperand, hopen]

theorem ownerWritePlatform_accepts {p : Platform} (hoperand : platformOperand body = some p) :
    ownerOf .writePlatform body s = .event s (fun e => e.writePlatform p) doneReply := by
  simp [ownerOf, ownerWritePlatform, hstore, hoperand]

theorem ownerWriteLine_accepts {n : LineIx} {r : LineRecord} (hoperand : lineOperand body = some (n, r))
    (hfree : s.lineTaken n r = false) (hsession : s.endsSession n r = false) :
    ownerOf .writeLine body s = .event s (fun e => e.writeLine n r) doneReply := by
  simp [ownerOf, ownerWriteLine, hstore, hoperand, hfree, hsession]

end

/-! ### WRITE_PLATFORM -/

section

variable {s : State}

/-- A train that does not depart has no departure watch (spec/02 R49). -/
theorem Ev.finish_writePlatform (h : s.train.state ≠ .departing) (p : Platform) :
    (((Ev.start s).writePlatform p).1.finish ((Ev.start s).writePlatform p).2).s = (s.setPlatform p).settle := by
  have hwatch : Task.departWatch.perform ((Ev.start s).on (fun u => u.setPlatform p))
      = ((Ev.start s).on (fun u => u.setPlatform p), []) := by
    have hstate : (s.setPlatform p).train.state ≠ .departing := h
    simp [Task.perform, Ev.departWatch, hstate]
  simp only [Ev.writePlatform, Ev.placedChange]
  split
  · have hruns : Runs 1 [.departWatch] ((Ev.start s).on (fun u => u.setPlatform p)) ((Ev.start s).on (fun u => u.setPlatform p)) :=
      .single (by rw [hwatch]; exact .nil _)
    rw [Ev.finish, run_of_runs hruns (by decide)]
    rfl
  · exact Ev.finish_nil _

/-- What an accepted WRITE_PLATFORM leaves, whatever its departure watch does. -/
theorem exec_writePlatform {body : List Byte} {p : Platform} (h : Admits .station .writePlatform body s)
    (hstore : s.storeRefusal = none) (hoperand : platformOperand body = some p) :
    ∃ t, exec (.writePlatform .station body) s = .next t ∧ StationAnswered s t .writePlatform .done []
      ∧ t.store = { s.store with dirty := true, working := { s.store.working with platform := p } }
      ∧ Stands s t ∧ LinesStand s t ∧ (s.train.state ≠ .departing → WriteStands s t) := by
  have hnone : (s.takeFrame .station).storeRefusal = none := hstore
  have hexec := exec_station_done (i := .writePlatform .station body) (e := ((Ev.start (s.takeFrame .station)).writePlatform p).1)
    (ts := ((Ev.start (s.takeFrame .station)).writePlatform p).2) rfl h (ownerWritePlatform_accepts hnone hoperand) rfl rfl
  have honly : StoreOnly s ((s.takeFrame .station).setPlatform p) := .of_takeFrame (.setStore _ _ rfl rfl)
  have hidle : ((s.takeFrame .station).setPlatform p).store.state ≠ .suspended := State.storeRefusal_none hstore
  obtain ⟨hstands, -, -, hlines, -⟩ := ((Ev.start (s.takeFrame .station)).writePlatform p).1.finish_stands
    ((Ev.start (s.takeFrame .station)).writePlatform p).2
  refine ⟨_, hexec, stationDone_answered .writePlatform, ?_, (honly.stands.trans hstands).stationDone,
    LinesStand.stationDone hlines, fun hstate => ?_⟩
  · rw [stationDone_store]
    exact Ev.finish_store _ _ hidle
  · rw [Ev.finish_writePlatform (s := s.takeFrame .station) hstate]
    obtain ⟨hwrites, -⟩ := honly.writeStands RequestKind.writePlatform.code .done []
    exact hwrites

end

/-! ### WRITE_LINE -/

section

variable {s t u : State} {n : LineIx} {r : LineRecord}

theorem State.writeLine_store (s : State) (n : LineIx) (r : LineRecord) :
    (s.writeLine n r).store = (s.setLineRecord n r).store := by
  simp only [State.writeLine]
  split <;> rfl

theorem State.writeLine_station (s : State) (n : LineIx) (r : LineRecord) : (s.writeLine n r).station = s.station := by
  simp only [State.writeLine]
  split <;> rfl

theorem State.writeLine_signalling (s : State) (n : LineIx) (r : LineRecord) : (s.writeLine n r).signalling = s.signalling := by
  simp only [State.writeLine]
  split <;> rfl

theorem State.writeLine_stands (s : State) (n : LineIx) (r : LineRecord) : Stands s (s.writeLine n r) := by
  simp only [State.writeLine]
  split <;> exact ⟨rfl, rfl, rfl, rfl, rfl, rfl, rfl, rfl, rfl, fun _ => rfl, rfl⟩

theorem State.writeLine_other {m : LineIx} (h : m ≠ n) : (s.writeLine n r).line m = s.line m := by
  simp only [State.writeLine]
  split
  · rw [State.restartLine, State.line_setLine_ne _ _ _ _ h, State.refilter, State.setInputLine,
      State.line_setLine_ne _ _ _ _ h]
    rfl
  · rfl

/-- The record of a line as it has just been written. -/
theorem State.setLineRecord_self (s : State) (n : LineIx) (r : LineRecord) : (s.setLineRecord n r).lineRecord n = r := by
  simp [State.setLineRecord, State.setWorking, State.lineRecord]

/-- A change of function or polarity has the filter start afresh, and clears the change latch (spec/03 R63). -/
theorem State.writeLine_restarts (h : (s.lineRecord n).function ≠ r.function ∨ (s.lineRecord n).polarity ≠ r.polarity) :
    ((s.writeLine n r).line n).line
        = { (s.line n).line with level := r.polarity.apply (s.line n).line.raw, candidate := none }
      ∧ ((s.writeLine n r).line n).changeLatch = false := by
  have hwritten : s.writeLine n r = (s.setLineRecord n r).restartLine n (s.lineRecord n).function := by
    rw [State.writeLine, if_pos (by simpa using h)]
  have hlevel : (s.setLineRecord n r).logicalLevel (.general n) = r.polarity.apply (s.line n).line.raw := by
    rw [State.logicalLevel, State.setLineRecord_self]
    rfl
  rw [hwritten, State.restartLine, State.line_setLine_self, State.refilter, hlevel, State.setInputLine, State.line_setLine_self]
  exact ⟨rfl, rfl⟩

theorem State.writeLine_same (hfunction : (s.lineRecord n).function = r.function)
    (hpolarity : (s.lineRecord n).polarity = r.polarity) : (s.writeLine n r).line n = s.line n := by
  rw [State.writeLine, if_neg (by simp [hfunction, hpolarity])]
  rfl

/-- The owners of a line that has been written leave alone what a filtered change does, the lines with their latches, and the
store. -/
structure OwnersStand (s t : State) : Prop extends FieldStands s t where
  lines : t.lines = s.lines
  kept : t.store = s.store

theorem OwnersStand.of_kept (h : t.kept = s.kept) : OwnersStand s t :=
  ⟨.of_kept h, State.kept_lines (State.kept_same h), State.kept_store (State.kept_same h)⟩

theorem OwnersStand.trans (h : OwnersStand s t) (k : OwnersStand t u) : OwnersStand s u :=
  ⟨h.toFieldStands.trans k.toFieldStands, k.lines.trans h.lines, k.kept.trans h.kept⟩

theorem OwnersStand.functionChange (e : Ev) (f : LineFunction) (level : Bool) (n : LineIx) :
    OwnersStand e.s (e.functionChange f level n).1.s := by
  cases f with
  | bypassKey => exact ⟨.functionChange e .bypassKey level n, rfl, rfl⟩
  | keyReset =>
    simp only [Ev.functionChange]
    split
    · exact .of_kept (Ev.kept_fireReset e)
    · exact .of_kept rfl
  | maintenanceKey =>
    simp only [Ev.functionChange]
    split
    · exact .of_kept (Ev.kept_leaveMaintenance e)
    · exact .of_kept rfl
  | _ => exact .of_kept rfl

theorem OwnersStand.compareOwner (e : Ev) (before : State) (f : LineFunction) (n : LineIx) :
    OwnersStand e.s (e.compareOwner before f n).1.s := by
  simp only [Ev.compareOwner]
  split
  · exact .functionChange e _ _ n
  · exact .of_kept rfl

theorem OwnersStand.receiveStanding (e : Ev) (f : LineFunction) : OwnersStand e.s (e.receiveStanding f).s := by
  unfold Ev.receiveStanding
  split
  · exact ⟨.standingKey e.s, rfl, rfl⟩
  · exact .of_kept rfl

/-- The owner of the function taken off the line, then that of the function given to it (spec/03 R63). -/
theorem OwnersStand.writeLine (e : Ev) (n : LineIx) (r : LineRecord) :
    OwnersStand (e.s.writeLine n r) (e.writeLine n r).1.s := by
  simp only [Ev.writeLine, Ev.andThen, Ev.placedChange]
  split
  · exact .receiveStanding (e.on (fun s => s.writeLine n r)) _
  · exact (OwnersStand.compareOwner (e.on (fun s => s.writeLine n r)) _ _ _).trans (.compareOwner _ _ _ _)

/-- The event of an accepted WRITE_LINE to its end: the lines and the store are as the write left them. -/
theorem Ev.finish_writeLine (e : Ev) (n : LineIx) (r : LineRecord) (h : e.s.store.state ≠ .suspended) :
    ((e.writeLine n r).1.finish (e.writeLine n r).2).s.store = (e.s.setLineRecord n r).store
      ∧ Stands e.s ((e.writeLine n r).1.finish (e.writeLine n r).2).s
      ∧ ((e.writeLine n r).1.finish (e.writeLine n r).2).s.signalling = e.s.signalling
      ∧ ∀ m, ((e.writeLine n r).1.finish (e.writeLine n r).2).s.line m = (e.s.writeLine n r).line m := by
  have howners := OwnersStand.writeLine e n r
  obtain ⟨-, hsignalling, -⟩ := howners.links
  have hstored := howners.kept.trans (e.s.writeLine_store n r)
  have hfinished := (e.writeLine n r).1.finish_store (e.writeLine n r).2 (by rw [hstored]; exact h)
  obtain ⟨hstands, -, ⟨-, hlink, -⟩, ⟨hlines, -⟩, -⟩ := (e.writeLine n r).1.finish_stands (e.writeLine n r).2
  exact ⟨hfinished.trans hstored, (e.s.writeLine_stands n r).trans (howners.stands.trans hstands),
    hlink.trans (hsignalling.trans (e.s.writeLine_signalling n r)),
    fun m => congrArg (fun v : Vector GeneralLine 24 => v[m.val]) (hlines.trans howners.lines)⟩

theorem exec_writeLine {body : List Byte} (h : Admits .station .writeLine body s) (hstore : s.storeRefusal = none)
    (hoperand : lineOperand body = some (n, r)) (hfree : s.lineTaken n r = false) (hsession : s.endsSession n r = false) :
    exec (.writeLine .station body) s = .next (stationDone s
      (((Ev.start (s.takeFrame .station)).writeLine n r).1.finish ((Ev.start (s.takeFrame .station)).writeLine n r).2).s
      RequestKind.writeLine.code .done []) := by
  have hnone : (s.takeFrame .station).storeRefusal = none := hstore
  have howners := OwnersStand.writeLine (Ev.start (s.takeFrame .station)) n r
  obtain ⟨hstation, -, -⟩ := howners.links
  exact exec_station_done rfl h (ownerWriteLine_accepts hnone hoperand hfree hsession) rfl
    (hstation.trans (State.writeLine_station _ n r))

end

/-- Settles O50: three of the writes have no task; the departure watch of WRITE_PLATFORM and the owners of a line written touch
neither the store nor a line. -/
theorem configurationWritesReplaceTheRecord : Obligations.ConfigurationWritesReplaceTheRecord := by
  intro body s hstore
  have hnone : (s.takeFrame .station).storeRefusal = none := hstore
  refine ⟨fun i p hadmits hoperand hfree => ?profile, fun i hadmits hoperand => ?erase,
    fun i r hadmits hoperand hfree => ?response, fun p hadmits hoperand => exec_writePlatform hadmits hstore hoperand,
    fun n r hadmits hoperand hfree hsession => ?line⟩
  case profile =>
    exact exec_station_replaces rfl hadmits hstore (ownerWriteProfile_accepts hnone hoperand hfree) rfl
  case erase => exact exec_station_replaces rfl hadmits hstore (ownerEraseProfile_accepts hnone hoperand) rfl
  case response =>
    exact exec_station_replaces rfl hadmits hstore (ownerWriteResponse_accepts hnone hoperand hfree) rfl
  case line =>
    have hidle : (s.takeFrame .station).store.state ≠ .suspended := State.storeRefusal_none hstore
    obtain ⟨hstored, hstands, hsignalling, hlines⟩ := Ev.finish_writeLine (Ev.start (s.takeFrame .station)) n r hidle
    have htaken : Stands s (s.takeFrame .station) := (TrainOnly.takeFrame s .station).stands
    refine ⟨_, exec_writeLine hadmits hstore hoperand hfree hsession, stationDone_answered .writeLine,
      stationDone_store.trans hstored, (htaken.trans hstands).stationDone, stationDone_signalling.trans hsignalling,
      fun m hm => ?_, fun hchanged => ?_, fun hfunction hpolarity => ?_⟩
    · rw [stationDone_line, hlines]
      exact State.writeLine_other hm
    · rw [stationDone_line, hlines]
      exact State.writeLine_restarts (s := s.takeFrame .station) hchanged
    · rw [stationDone_line, hlines]
      exact State.writeLine_same (s := s.takeFrame .station) hfunction hpolarity

end Sys2Proof.Machine
end

section
/-! The event queue makes room by class (spec/10 R177, R178), and the release log by age (spec/05 R98). -/

namespace Sys2Proof.Machine

/-! ### Making room in the queue -/

section

variable {u : EventUnit} {r : EventRecord} {q q' : List EventRecord} {c : EventClass}

theorem EventUnit.add_room (h : u.queue.length < 64) : u.add r = { u with queue := u.queue ++ [r] } := if_pos h

theorem EventUnit.add_full (h : 64 ≤ u.queue.length) (hroom : makeRoom r.kind.cls u.queue = some q) :
    u.add r = { u with queue := q ++ [r], lost := true } := by
  have hfull : ¬u.queue.length < Config.queueLimit := Nat.not_lt.mpr h
  rw [EventUnit.add, if_neg hfull, hroom]

theorem EventUnit.add_discarded (h : 64 ≤ u.queue.length) (hroom : makeRoom r.kind.cls u.queue = none) :
    u.add r = { u with lost := true } := by
  have hfull : ¬u.queue.length < Config.queueLimit := Nat.not_lt.mpr h
  rw [EventUnit.add, if_neg hfull, hroom]

/-- A record that is neither SAFETY nor FAULT gives way to both (spec/10 R178). -/
theorem makeRoom_ordinary {before after : List EventRecord} {x : EventRecord} (hc : c = .safety ∨ c = .fault)
    (hbefore : ∀ y ∈ before, y.kind.cls = .safety ∨ y.kind.cls = .fault) (hsafety : x.kind.cls ≠ .safety)
    (hfault : x.kind.cls ≠ .fault) : makeRoom c (before ++ x :: after) = some (before ++ after) := by
  have hremoves : removeFirst (fun r : EventRecord => r.kind.cls != .safety && r.kind.cls != .fault) (before ++ x :: after)
      = some (before ++ after) :=
    removeFirst_at _ before x after (fun y hy => by rcases hbefore y hy with h | h <;> simp [h]) (by simp [hsafety, hfault])
  rcases hc with rfl | rfl <;> simp only [makeRoom, hremoves]

/-- With SAFETY and FAULT records alone there is no record of another class to give way. -/
theorem removeFirst_ordinary_none (h : ∀ y ∈ q, y.kind.cls = .safety ∨ y.kind.cls = .fault) :
    removeFirst (fun r : EventRecord => r.kind.cls != .safety && r.kind.cls != .fault) q = none :=
  (removeFirst_none _ _).mpr (fun y hy => by rcases h y hy with hcls | hcls <;> simp [hcls])

/-- A FAULT record gives way to a SAFETY record where there is no record of another class (spec/10 R178). -/
theorem makeRoom_fault {before after : List EventRecord} {x : EventRecord}
    (hbefore : ∀ y ∈ before, y.kind.cls = .safety) (hafter : ∀ y ∈ after, y.kind.cls = .safety ∨ y.kind.cls = .fault)
    (hx : x.kind.cls = .fault) : makeRoom .safety (before ++ x :: after) = some (before ++ after) := by
  have hnone := removeFirst_ordinary_none (q := before ++ x :: after) (fun y hy => by
    rcases List.mem_append.mp hy with hy | hy
    · exact .inl (hbefore y hy)
    · rcases List.mem_cons.mp hy with rfl | hy
      · exact .inr hx
      · exact hafter y hy)
  have hremoves : removeFirst (fun r : EventRecord => r.kind.cls == .fault) (before ++ x :: after) = some (before ++ after) :=
    removeFirst_at _ before x after (fun y hy => by simp [hbefore y hy]) (by simp [hx])
  simp only [makeRoom, hnone, hremoves]

theorem makeRoom_fault_none (h : ∀ y ∈ q, y.kind.cls = .safety ∨ y.kind.cls = .fault) : makeRoom .fault q = none :=
  removeFirst_ordinary_none h

theorem makeRoom_safety_none (h : ∀ y ∈ q, y.kind.cls = .safety) : makeRoom .safety q = none := by
  have hnone : removeFirst (fun r : EventRecord => r.kind.cls == .fault) q = none :=
    (removeFirst_none _ _).mpr (fun y hy => by simp [h y hy])
  simp only [makeRoom, removeFirst_ordinary_none (fun y hy => .inl (h y hy)), hnone]

/-- No record gives way to one that is neither SAFETY nor FAULT. -/
theorem makeRoom_ordinary_none (hsafety : c ≠ .safety) (hfault : c ≠ .fault) : makeRoom c q = none := by
  cases c <;> first | rfl | contradiction

/-- Room is made by removing one record, which is not SAFETY. -/
theorem makeRoom_some (h : makeRoom c q = some q') :
    q'.length + 1 = q.length ∧ ∀ y ∈ q, y.kind.cls = .safety → y ∈ q' := by
  have removes {p : EventRecord → Bool} (hp : ∀ x : EventRecord, x.kind.cls = .safety → p x = false)
      (h : removeFirst p q = some q') : q'.length + 1 = q.length ∧ ∀ y ∈ q, y.kind.cls = .safety → y ∈ q' := by
    refine ⟨removeFirst_length p h, fun y hy hsafety => ?_⟩
    obtain ⟨before, x, after, rfl, rfl, hx, -⟩ := removeFirst_some p h
    have hne : y ≠ x := by
      rintro rfl
      exact absurd (hx.symm.trans (hp y hsafety)) nofun
    simpa [hne] using hy
  have hordinary (x : EventRecord) (hx : x.kind.cls = .safety) :
      (x.kind.cls != .safety && x.kind.cls != .fault) = false := by rw [hx]; rfl
  have hfault (x : EventRecord) (hx : x.kind.cls = .safety) : (x.kind.cls == .fault) = false := by rw [hx]; rfl
  cases c with
  | safety =>
    simp only [makeRoom] at h
    split at h
    · next hq =>
      obtain rfl := Option.some.inj h
      exact removes hordinary hq
    · exact removes hfault h
  | fault => exact removes hordinary h
  | _ => exact absurd h nofun

/-- A SAFETY record finds room as long as the queue holds one of another class. -/
theorem makeRoom_safety_isSome (h : ∃ y ∈ q, y.kind.cls ≠ .safety) : ∃ q', makeRoom .safety q = some q' := by
  obtain ⟨y, hy, hcls⟩ := h
  simp only [makeRoom]
  split
  · exact ⟨_, rfl⟩
  · next hnone =>
    rw [← Option.ne_none_iff_exists']
    intro hfault
    have hkept := (removeFirst_none _ _).mp hnone y hy
    have hother := (removeFirst_none _ _).mp hfault y hy
    simp_all

/-- A full queue keeps its length, whatever is posted to it. -/
theorem EventUnit.add_length (h : 64 ≤ u.queue.length) : (u.add r).queue.length = u.queue.length := by
  cases hroom : makeRoom r.kind.cls u.queue with
  | none => rw [EventUnit.add_discarded h hroom]
  | some q =>
    rw [EventUnit.add_full h hroom, List.length_append, List.length_singleton]
    exact (makeRoom_some hroom).1

theorem EventUnit.add_bounded (h : u.queue.length ≤ 64) : (u.add r).queue.length ≤ 64 := by
  by_cases hroom : u.queue.length < 64
  · rw [EventUnit.add_room hroom, List.length_append, List.length_singleton]
    exact hroom
  · rw [EventUnit.add_length (Nat.not_lt.mp hroom)]
    exact h

/-- No SAFETY record is removed. -/
theorem EventUnit.add_keeps_safety {y : EventRecord} (hy : y ∈ u.queue) (hsafety : y.kind.cls = .safety) :
    y ∈ (u.add r).queue := by
  by_cases hroom : u.queue.length < 64
  · rw [EventUnit.add_room hroom]
    exact List.mem_append_left _ hy
  · have hfull := Nat.not_lt.mp hroom
    cases hmade : makeRoom r.kind.cls u.queue with
    | none =>
      rw [EventUnit.add_discarded hfull hmade]
      exact hy
    | some q =>
      rw [EventUnit.add_full hfull hmade]
      exact List.mem_append_left _ ((makeRoom_some hmade).2 y hy hsafety)

/-- A SAFETY record joins a queue that holds a record of another class. -/
theorem EventUnit.add_takes_safety (hother : ∃ y ∈ u.queue, y.kind.cls ≠ .safety) (hsafety : r.kind.cls = .safety) :
    r ∈ (u.add r).queue := by
  by_cases hroom : u.queue.length < 64
  · rw [EventUnit.add_room hroom]
    exact List.mem_append_right _ (List.mem_singleton_self r)
  · obtain ⟨q, hmade⟩ := makeRoom_safety_isSome hother
    rw [EventUnit.add_full (Nat.not_lt.mp hroom) (hsafety ▸ hmade)]
    exact List.mem_append_right _ (List.mem_singleton_self r)

end

/-- Settles O39: which record gives way is the first that its class lets go, and only a record that is not SAFETY does. -/
theorem queueMakesRoomByClass : Obligations.QueueMakesRoomByClass := by
  intro u r
  refine ⟨EventUnit.add_room, fun hfull => ⟨fun before x after hq hbefore hsafety hfault hr => ?_,
    fun before x after hq hbefore hafter hx hr => ?_, fun hq hr => ?_, fun hq hr => ?_, fun hsafety hfault => ?_⟩,
    EventUnit.add_bounded, fun hother => ⟨fun y hy => EventUnit.add_keeps_safety hy, EventUnit.add_takes_safety hother⟩⟩
  · exact EventUnit.add_full hfull (by rw [hq, makeRoom_ordinary hr hbefore hsafety hfault])
  · exact EventUnit.add_full hfull (by rw [hq, hr, makeRoom_fault hbefore hafter hx])
  · exact EventUnit.add_discarded hfull (by rw [hr, makeRoom_fault_none hq])
  · exact EventUnit.add_discarded hfull (by rw [hr, makeRoom_safety_none hq])
  · exact EventUnit.add_discarded hfull (makeRoom_ordinary_none hsafety hfault)

/-! ### Making room in the log -/

section

variable {s : State}

theorem takeOldest_none {log : List ReleaseRecord} (h : takeOldest log = none) : log = [] := by
  unfold takeOldest at h
  split at h
  · exact absurd h nofun
  · split at h
    · rfl
    · exact absurd h nofun

/-- A log within its bound has room for one more record after room has been made (spec/05 R98). -/
theorem State.makeLogRoom_log (h : s.release.log.length ≤ 32) : s.makeLogRoom.release.log.length < 32 := by
  unfold State.makeLogRoom
  split
  · next hroom => exact hroom
  · next hfull =>
    split
    · next r rest holdest =>
      have hlength := takeOldest_length holdest
      rw [State.post_release]
      dsimp only
      omega
    · next holdest => exact absurd (by rw [takeOldest_none holdest]; decide) hfull

theorem State.makeLogRoom_queue (h : s.events.queue.length ≤ 64) : s.makeLogRoom.events.queue.length ≤ 64 := by
  unfold State.makeLogRoom
  split
  · exact h
  · split
    · exact EventUnit.add_bounded h
    · exact h

theorem State.openRecord_bounded (h : Bounded s) (k : ReleaseKind) (b : Option BayIx) (f : Option FireSource) :
    Bounded (s.openRecord k b f) := by
  obtain ⟨hqueue, hlog⟩ := h
  have hroom := State.makeLogRoom_queue hqueue
  have hlength (r : ReleaseRecord) : (s.makeLogRoom.release.log ++ [r]).length ≤ 32 := by
    rw [List.length_append, List.length_singleton]
    exact State.makeLogRoom_log hlog
  unfold State.openRecord
  cases k <;> exact ⟨EventUnit.add_bounded hroom, hlength _⟩

theorem State.restoreRecord_bounded (h : Bounded s) (p : ReleaseRecord → Bool) : Bounded (s.restoreRecord p) := by
  have hlog : (restoreIn s.uptime p s.release.log).1.length ≤ 32 := (restoreIn_length s.uptime p _).trans h.2
  unfold State.restoreRecord
  generalize restoreIn s.uptime p s.release.log = restored at hlog
  obtain ⟨log, found⟩ := restored
  cases found with
  | none => exact h
  | some r =>
    dsimp only
    split <;> exact ⟨EventUnit.add_bounded h.1, hlog⟩

end

end Sys2Proof.Machine
end

section
/-! What an event does beside the store and the supply: the queue and the log keep their bounds (spec/10 R177, spec/05 R98), and
the maintenance mode its law (spec/08 R150). -/

namespace Sys2Proof.Machine

/-! ### Changes beside the store and the supply -/

/-- The supply and the store stand, and the bounds and the law of the maintenance mode are kept. -/
structure BesideStore (s t : State) : Prop where
  bounded : Bounded s → Bounded t
  maintenance : MaintenanceLaw s → MaintenanceLaw t
  power : t.power = s.power
  store : t.store = s.store

section

variable {s t u : State} {e : Ev} {b : BayIx}

theorem BesideStore.refl (s : State) : BesideStore s s := ⟨id, id, rfl, rfl⟩

theorem BesideStore.trans (h : BesideStore s t) (k : BesideStore t u) : BesideStore s u :=
  ⟨k.bounded ∘ h.bounded, k.maintenance ∘ h.maintenance, k.power.trans h.power, k.store.trans h.store⟩

/-- The queue and the log stand, and so does the mode; an EMPTY train is EMPTY still. -/
theorem BesideStore.of_train (hqueue : t.events.queue = s.events.queue) (hlog : t.release.log = s.release.log)
    (hmode : t.mode.mode = s.mode.mode) (htrain : s.train.state = .empty → t.train.state = .empty)
    (hsupervision : t.supervision.state = s.supervision.state) (hpower : t.power = s.power) (hstore : t.store = s.store) :
    BesideStore s t := by
  refine ⟨fun hs => by rw [Bounded, hqueue, hlog]; exact hs, fun hs hm => ?_, hpower, hstore⟩
  obtain ⟨hempty, hdisarmed⟩ := hs (hmode ▸ hm)
  exact ⟨htrain hempty, hsupervision.trans hdisarmed⟩

theorem BesideStore.of_fields (hqueue : t.events.queue = s.events.queue) (hlog : t.release.log = s.release.log)
    (hmode : t.mode.mode = s.mode.mode) (htrain : t.train.state = s.train.state)
    (hsupervision : t.supervision.state = s.supervision.state) (hpower : t.power = s.power) (hstore : t.store = s.store) :
    BesideStore s t := .of_train hqueue hlog hmode htrain.trans hsupervision hpower hstore

/-- The law of the maintenance mode asks nothing of another mode. -/
theorem BesideStore.of_mode (hqueue : t.events.queue = s.events.queue) (hlog : t.release.log = s.release.log)
    (hmode : t.mode.mode ≠ .maintenance) (hpower : t.power = s.power) (hstore : t.store = s.store) : BesideStore s t :=
  ⟨fun hs => by rw [Bounded, hqueue, hlog]; exact hs, fun _ hm => absurd hm hmode, hpower, hstore⟩

/-! ### The shared operations -/

theorem BesideStore.post (h : BesideStore s t) (k : EventKind) (c : Option BayIx) (v : Nat) :
    BesideStore s (t.post k c v) :=
  ⟨fun hs => ⟨EventUnit.add_bounded (h.bounded hs).1, (h.bounded hs).2⟩, h.maintenance, h.power, h.store⟩

theorem BesideStore.postTaken (h : BesideStore s t) (c : Option BayIx) (f : FaultCode) (a : FaultAnswer) :
    BesideStore s (t.postTaken c f a) := h.post _ _ _

theorem BesideStore.setBay (h : BesideStore s t) (b : BayIx) (x : Bay) : BesideStore s (t.setBay b x) :=
  h.trans (.of_fields rfl rfl rfl rfl rfl rfl rfl)

theorem BesideStore.setLine (h : BesideStore s t) (n : LineIx) (x : GeneralLine) : BesideStore s (t.setLine n x) :=
  h.trans (.of_fields rfl rfl rfl rfl rfl rfl rfl)

theorem BesideStore.setInputLine (h : BesideStore s t) (l : InputLine) (x : Line) :
    BesideStore s (t.setInputLine l x) := by
  cases l with
  | bay b i => exact h.setBay b _
  | general n => exact h.setLine n _

theorem BesideStore.setFrame (h : BesideStore s t) (b : BayIx) (f : Frame) : BesideStore s (t.setFrame b f) :=
  h.setBay b _

theorem BesideStore.clearFrame (h : BesideStore s t) (c : ClearCause) (b : BayIx) :
    BesideStore s (t.clearFrame c b) := (h.setFrame b _).post _ _ _

theorem BesideStore.openRecord (h : BesideStore s t) (k : ReleaseKind) (c : Option BayIx) (f : Option FireSource) :
    BesideStore s (t.openRecord k c f) :=
  h.trans ⟨fun ht => State.openRecord_bounded ht k c f, fun ht => by simpa [MaintenanceLaw] using ht, by simp, by simp⟩

theorem BesideStore.restoreRecord (h : BesideStore s t) (p : ReleaseRecord → Bool) :
    BesideStore s (t.restoreRecord p) :=
  h.trans ⟨fun ht => State.restoreRecord_bounded ht p, fun ht => by simpa [MaintenanceLaw] using ht, by simp, by simp⟩

theorem BesideStore.restoreBay (h : BesideStore s t) (b : BayIx) : BesideStore s (t.restoreBay b) :=
  h.restoreRecord _

theorem BesideStore.setGap (h : BesideStore s t) (g : GapResult) : BesideStore s (t.setGap g) := by
  have hset : BesideStore s { t with gap :=
      { result := g, timer := if g == .scanning then some (.start t.platform.gapScanPeriod) else none } } :=
    h.trans (.of_fields rfl rfl rfl rfl rfl rfl rfl)
  cases g with
  | occupied | clear => exact hset.post _ _ _
  | _ => exact hset

theorem BesideStore.formPresence (h : BesideStore s t) (b : BayIx) : BesideStore s (t.formPresence b) := by
  simp only [State.formPresence]
  split
  · exact h
  · exact (h.setBay b _).post _ _ _

theorem BesideStore.foldl {α : Type} {f : State → α → State} (hf : ∀ {t} a, BesideStore s t → BesideStore s (f t a))
    (as : List α) (h : BesideStore s t) : BesideStore s (as.foldl f t) := by
  induction as generalizing t with
  | nil => exact h
  | cons a as ih => exact ih (hf a h)

theorem BesideStore.formMembers (h : BesideStore s t) : BesideStore s t.formMembers :=
  .foldl (fun b ht => ht.formPresence b) _ h

theorem BesideStore.changeMode (h : BesideStore s t) {m : Mode} (hm : m ≠ .maintenance) :
    BesideStore s (t.changeMode m) := by
  have hset : BesideStore t { t with mode := { t.mode with mode := m } } := .of_mode rfl rfl hm rfl rfl
  exact (h.trans hset).post _ _ _

theorem BesideStore.recordPlatform (h : BesideStore s t) (c : FaultCode) (d : Nat) :
    BesideStore s (t.recordPlatform c d) := by
  have hframe (f : Frame) : BesideStore s { t with platformFrame := f } := h.trans (.of_fields rfl rfl rfl rfl rfl rfl rfl)
  simp only [State.recordPlatform]
  split
  · split
    · exact (hframe _).post _ _ _
    · exact (hframe _).postTaken _ _ _
  · exact (hframe _).postTaken _ _ _

/-! ### Claims and stops -/

theorem BesideStore.onBay (h : BesideStore s e.s) (b : BayIx) (f : Bay → Bay) : BesideStore s (e.onBay b f).s := h.setBay b _

theorem BesideStore.enter (h : BesideStore s e.s) (b : BayIx) (q : Phase) : BesideStore s (e.enter b q).s := by
  simp only [Ev.enter]
  split
  · exact (h.setBay b _).post _ _ _
  · exact h.setBay b _

theorem BesideStore.openClaim (h : BesideStore s e.s) (b : BayIx) : BesideStore s (e.openClaim b).1.s := by
  unfold Ev.openClaim
  split
  · exact ((h.onBay b _).onBay b _).enter b _
  · exact h
  · exact h

theorem BesideStore.closeClaim (h : BesideStore s e.s) (b : BayIx) : BesideStore s (e.closeClaim b).1.s := by
  unfold Ev.closeClaim
  split
  · have hentered := (h.onBay b (.move .closes)).enter b
    dsimp only
    split
    · exact (hentered _).enter b _
    · exact hentered _
  · exact h
  · exact h

theorem BesideStore.handOpen (h : BesideStore s e.s) (b : BayIx) : BesideStore s (e.handOpen b).1.s := by
  unfold Ev.handOpen
  repeat' split
  · exact h
  · exact h
  · exact h.openClaim b

theorem BesideStore.openMember (h : BesideStore s e.s) (again : Bool) (b : BayIx) :
    BesideStore s (e.openMember again b).1.s := by
  unfold Ev.openMember
  repeat' split
  all_goals first | exact h | exact h.handOpen b

theorem BesideStore.closeMember (h : BesideStore s e.s) (reported : Bool) (b : BayIx) :
    BesideStore s (e.closeMember reported b).1.s := by
  simp only [Ev.closeMember]
  repeat' split
  all_goals first | exact h | exact h.closeClaim b

theorem BesideStore.stopBay (h : BesideStore s e.s) (b : BayIx) : BesideStore s (e.stopBay b).1.s := by
  unfold Ev.stopBay
  split
  · exact h.enter b _
  · exact h

/-! ### Checks at entry -/

theorem BesideStore.obstruct (h : BesideStore s e.s) (atEntry : Bool) (b : BayIx) :
    BesideStore s (e.obstruct atEntry b).1.s := by
  have hreopened := (h.onBay b (fun y => { y with reclose := y.reclose + 1 })).enter b .reopening
  simp only [Ev.obstruct]
  repeat' split
  · exact h
  · exact hreopened.post _ _ _
  · exact hreopened
  · exact h
  · exact h

theorem BesideStore.pauseAtEntry (h : BesideStore s e.s) (b : BayIx) : BesideStore s (e.pauseAtEntry b).s := by
  simp only [Ev.pauseAtEntry]
  split
  · exact h.setBay b _
  · exact h

theorem BesideStore.entryChecks (h : BesideStore s e.s) (b : BayIx) : BesideStore s (e.entryChecks b).1.s := by
  simp only [Ev.entryChecks]
  repeat' split
  · exact h.enter b _
  all_goals exact h.pauseAtEntry b

theorem BesideStore.raiseConflict (h : BesideStore s e.s) (b : BayIx) : BesideStore s (e.raiseConflict b).1.s := by
  simp only [Ev.raiseConflict]
  split <;> exact h

theorem BesideStore.presence (h : BesideStore s e.s) (b : BayIx) : BesideStore s (e.presence b).1.s :=
  h.formPresence b

theorem BesideStore.judgeEntry (h : BesideStore s e.s) (b : BayIx) :
    BesideStore s (if e.s.sliding b then e.entryChecks b else (e, [])).1.s := by
  split
  · exact h.entryChecks b
  · exact h

theorem BesideStore.arrive (h : BesideStore s e.s) (b : BayIx) : BesideStore s (e.arrive b).1.s := by
  have hformed : BesideStore s (if e.starting then e.s else e.s.formPresence b) := by
    split
    · exact h
    · exact h.formPresence b
  unfold Ev.arrive
  split
  · exact BesideStore.judgeEntry
      (e := { e with s := if e.starting then e.s else e.s.formPresence b, awaiting := e.awaiting.filter (· != b) }) hformed b
  · exact h

theorem BesideStore.formGap (h : BesideStore s e.s) : BesideStore s e.formGap.1.s := by
  unfold Ev.formGap
  split
  · exact h
  · exact h.setGap _

/-! ### Faults -/

theorem BesideStore.raiseNested (h : BesideStore s e.s) (b : BayIx) (c : FaultCode) :
    BesideStore s (e.raiseNested b c).1.s := by
  simp only [Ev.raiseNested]
  repeat' split
  · exact h.postTaken _ _ _
  · exact (h.setFrame b _).post _ _ _
  · exact (h.setFrame b _).postTaken _ _ _

theorem BesideStore.retry (h : BesideStore s e.s) (b : BayIx) (c : FaultCode) : BesideStore s (e.retry b c).s :=
  BesideStore.enter (e := (e.onBay b _).on _) ((h.onBay b _).post _ _ _) b _

theorem BesideStore.writeFrame (h : BesideStore s e.s) (b : BayIx) (c : FaultCode) (d : Nat) (st : FrameState)
    (a : FaultAnswer) : BesideStore s (e.writeFrame b c d st a).s := (h.setFrame b _).postTaken _ _ _

theorem BesideStore.raise (h : BesideStore s e.s) (b : BayIx) (c : FaultCode) (d : Nat) :
    BesideStore s (e.raise b c d).1.s := by
  simp only [Ev.raise]
  repeat' split
  · exact h.raiseNested b c
  · exact h.retry b c
  · exact (h.writeFrame b c d _ _).enter b _
  · exact h.writeFrame b c d _ _
  · exact (h.writeFrame b c d _ _).enter b _

theorem BesideStore.raiseAtEntry (h : BesideStore s e.s) (b : BayIx) (c : FaultCode) (d : Nat) :
    BesideStore s (e.raiseAtEntry b c d).1.s := h.raise b c d

theorem BesideStore.raiseFace (h : BesideStore s e.s) (c : FaultCode) (d : Nat) :
    BesideStore s (e.raiseFace c d).1.s := h.recordPlatform c d

theorem BesideStore.enterHalted (h : BesideStore s e.s) (c : HaltCause) : BesideStore s (e.enterHalted c).1.s := by
  unfold Ev.enterHalted
  split
  · exact h
  · have hcause : BesideStore e.s { e.s with mode := { e.s.mode with haltCause := c } } :=
      .of_fields rfl rfl rfl rfl rfl rfl rfl
    exact BesideStore.changeMode (h.trans hcause) (m := .halted) nofun

/-- A train is closed that is ENABLED or CLOSING, and so not in MAINTENANCE (spec/08 R150). -/
theorem BesideStore.closeTrain (h : BesideStore s e.s) (hruns : e.s.train.dwellRuns = true) (origin : Nat) (reported : Bool) :
    BesideStore s (e.closeTrain origin reported).1.s := by
  have hclosing : BesideStore e.s { e.s with train := { e.s.train with state := .closing } } :=
    .of_train rfl rfl rfl (fun hempty => by simp [Train.dwellRuns, hempty] at hruns) rfl rfl rfl
  exact (h.trans hclosing).post _ _ _

theorem BesideStore.effect (h : BesideStore s e.s) (p : PlatformEffect) (c : FaultCode) :
    BesideStore s (e.effect p c).1.s := by
  cases p with
  | none => exact h
  | closeMap =>
    simp only [Ev.effect, Ev.closeMapEffect]
    split
    · next hcloses => exact h.closeTrain (Bool.and_eq_true_iff.mp hcloses).1 _ _
    · exact h
  | halt => exact h.enterHalted _

theorem BesideStore.takeDerivedConflict (h : BesideStore s e.s) (b : BayIx) :
    BesideStore s (e.takeDerivedConflict b).s := (h.setFrame b _).postTaken _ _ _

/-! ### Releases, derived phases and the fire latch -/

theorem BesideStore.enterReleased (h : BesideStore s e.s) (b : BayIx) (k : ReleaseKind) :
    BesideStore s (e.enterReleased b k).s := by
  have hopened := (h.enter b .released).openRecord k (some b) none
  simp only [Ev.enterReleased]
  split
  · exact hopened.clearFrame .release b
  · exact hopened

theorem BesideStore.derive (h : BesideStore s e.s) (b : BayIx) : BesideStore s (e.derive b).1.s := by
  have hentered := (h.onBay b (fun x => { x with movement := .none, retry := 0, reclose := 0 })).enter b
  simp only [Ev.derive]
  split
  · split
    · exact hentered _
    · exact (hentered _).openRecord _ _ _
  · exact (hentered _).takeDerivedConflict b
  all_goals exact hentered _

theorem BesideStore.deriveBack (h : BesideStore s e.s) (b : BayIx) :
    BesideStore s ((e.on (fun s => s.restoreBay b)).derive b).1.s :=
  BesideStore.derive (e := e.on (fun s => s.restoreBay b)) (h.restoreBay b) b

theorem BesideStore.keyActive (h : BesideStore s e.s) (b : BayIx) : BesideStore s (e.keyActive b).1.s := by
  unfold Ev.keyActive
  split
  all_goals first | exact h | exact h.enterReleased b _

theorem BesideStore.keyInactive (h : BesideStore s e.s) (b : BayIx) : BesideStore s (e.keyInactive b).1.s := by
  unfold Ev.keyInactive
  split
  · exact h.deriveBack b
  · exact h

theorem BesideStore.doorInput (h : BesideStore s e.s) (b : BayIx) : BesideStore s (e.doorInput b).1.s := by
  simp only [Ev.doorInput]
  repeat' split
  all_goals first | exact h | exact h.enterReleased b _ | exact (h.enter b _).restoreBay b

theorem BesideStore.setLatch (h : BesideStore s t) (f : Option FireSource) :
    BesideStore s { t with release := { t.release with latch := f } } := h.trans (.of_fields rfl rfl rfl rfl rfl rfl rfl)

theorem BesideStore.fireSet (h : BesideStore s e.s) (f : FireSource) : BesideStore s (e.fireSet f).1.s := by
  unfold Ev.fireSet
  split
  · exact h
  · exact BesideStore.openRecord (h.setLatch (some f)) .fireLatch none (some f)

theorem BesideStore.fireOpen (h : BesideStore s e.s) (b : BayIx) : BesideStore s (e.fireOpen b).1.s := by
  simp only [Ev.fireOpen]
  split
  · exact h.openClaim b
  · exact h

theorem BesideStore.fireRelease (h : BesideStore s e.s) (b : BayIx) : BesideStore s (e.fireRelease b).1.s := by
  simp only [Ev.fireRelease]
  split
  · exact h.enterReleased b _
  · exact h

theorem BesideStore.fireBack (h : BesideStore s e.s) (b : BayIx) : BesideStore s (e.fireBack b).1.s := by
  simp only [Ev.fireBack]
  repeat' split
  · exact h
  · exact h.enterReleased b _
  · exact h.openClaim b

theorem BesideStore.fireClose (h : BesideStore s e.s) (b : BayIx) : BesideStore s (e.fireClose b).1.s := by
  simp only [Ev.fireClose]
  split
  · exact h.closeClaim b
  · exact h

theorem BesideStore.fireUndo (h : BesideStore s e.s) (b : BayIx) : BesideStore s (e.fireUndo b).1.s := by
  unfold Ev.fireUndo
  split
  · exact h.deriveBack b
  · exact h

theorem BesideStore.fireReset (h : BesideStore s e.s) : BesideStore s e.fireReset.1.s := by
  simp only [Ev.fireReset]
  split
  · exact h
  · split
    · exact h.post _ _ _
    · exact (h.setLatch none).restoreRecord _

theorem BesideStore.linkLoss (h : BesideStore s e.s) (b : BayIx) : BesideStore s (e.linkLoss b).1.s := by
  simp only [Ev.linkLoss]
  repeat' split
  all_goals first | exact h | exact h.closeClaim b | exact h.stopBay b

theorem BesideStore.exitClose (h : BesideStore s e.s) (b : BayIx) : BesideStore s (e.exitClose b).1.s := by
  simp only [Ev.exitClose]
  split
  · exact h.closeClaim b
  · exact h

/-! ### The train, BAY_COMMAND on one bay, and every task -/

theorem BesideStore.returnEmpty (h : BesideStore s e.s) (k : EventKind) (v : Nat) :
    BesideStore s (e.returnEmpty k v).1.s := by
  have hempty : BesideStore e.s { e.s with train := .reset } := .of_train rfl rfl rfl (fun _ => rfl) rfl rfl rfl
  exact ((h.trans hempty).post k none v).setGap .none

theorem BesideStore.departWatch (h : BesideStore s e.s) : BesideStore s e.departWatch.1.s := by
  unfold Ev.departWatch
  split
  · exact h.returnEmpty _ _
  · exact h

theorem BesideStore.act (h : BesideStore s e.s) (a : BayAction) (b : BayIx) : BesideStore s (e.act a b).1.s := by
  cases a with
  | opens => exact h.openClaim b
  | closes => exact h.closeClaim b
  | stop => exact h.stopBay b
  | hold | free => exact h.onBay b _
  | isolate =>
    simp only [Ev.act, Ev.isolate]
    split
    · exact (h.enter b _).clearFrame _ b
    · exact h.enter b _
  | restore =>
    have hheld := (h.enter b .closedLocked).onBay b (fun x => { x with hold := true })
    simp only [Ev.act, Ev.restore]
    split
    · exact hheld.enterReleased b _
    · exact hheld
  | clearFault => exact BesideStore.derive (e := e.on (fun s => s.clearFrame .clearFault b)) (h.clearFrame _ b) b

theorem BesideStore.command (h : BesideStore s e.s) (a : BayAction) (b : BayIx) :
    BesideStore s (e.command a b).1.s := by
  unfold Ev.command
  split
  · exact h
  · exact BesideStore.act (e := { e with accepted := e.accepted ++ [b] }) h a b

theorem BesideStore.perform (h : BesideStore s e.s) (x : Task) : BesideStore s (x.perform e).1.s := by
  cases x with
  | formGap => exact h.formGap
  | presence b => exact h.presence b
  | arrive b => exact h.arrive b
  | obstruct atEntry b => exact h.obstruct atEntry b
  | conflict b => exact h.raiseConflict b
  | raise b c d => exact h.raise b c d
  | raiseAtEntry b c d => exact h.raiseAtEntry b c d
  | raiseFace c d => exact h.raiseFace c d
  | effect p c => exact h.effect p c
  | openMember again b => exact h.openMember again b
  | closeMember reported b => exact h.closeMember reported b
  | haltStop b => exact h.stopBay b
  | fireSet f => exact h.fireSet f
  | fireOpen b => exact h.fireOpen b
  | fireRelease b => exact h.fireRelease b
  | fireBack b => exact h.fireBack b
  | fireClose b => exact h.fireClose b
  | fireUndo b => exact h.fireUndo b
  | linkLoss b => exact h.linkLoss b
  | postExpired period => exact h.post _ _ _
  | departWatch => exact h.departWatch
  | exitClose b => exact h.exitClose b
  | command a b => exact h.command a b

theorem BesideStore.run (h : BesideStore s e.s) (n : Nat) (ts : List Task) : BesideStore s (run n ts e).s :=
  run_keeps (fun e => BesideStore s e.s) (fun x _ he => he.perform x)
    (fun _ he => he.trans (.of_fields rfl rfl rfl rfl rfl rfl rfl)) n ts e h

end

end Sys2Proof.Machine
end

section
/-! How events begin beside the store: filtered changes, timers, the train, the end of STARTING and the end of every event. -/

namespace Sys2Proof.Machine

section

variable {s t : State} {e : Ev} {b : BayIx}

/-! ### Filtered changes -/

theorem BesideStore.slidingInput (h : BesideStore s e.s) (b : BayIx) (i : BayInput) :
    BesideStore s (e.slidingInput b i).1.s := by
  simp only [Ev.slidingInput]
  split
  · exact h
  · exact h.enter b _
  · exact h
  · exact h.onBay b _
  · exact h

theorem BesideStore.sensorInput (h : BesideStore s e.s) (b : BayIx) : (sensor : Sensor) →
    BesideStore s (e.sensorInput b sensor).1.s
  | .gap => h.onBay b _
  | .curtain => h.onBay b _

theorem BesideStore.bayInput (h : BesideStore s e.s) (b : BayIx) (i : BayInput) : BesideStore s (e.bayInput b i).1.s := by
  unfold Ev.bayInput
  split
  · exact h
  · cases i with
    | curtain | gap => exact h.sensorInput b _
    | releaseKey =>
      dsimp only
      split
      · exact h.keyActive b
      · exact h.keyInactive b
    | _ => exact h.slidingInput b _
  · cases i <;> first | exact h | exact h.doorInput b
  · cases i <;> first | exact h | exact h.doorInput b

theorem BesideStore.leaveMaintenance (h : BesideStore s e.s) : BesideStore s e.leaveMaintenance.1.s :=
  h.changeMode (m := .service) nofun

theorem BesideStore.functionChange (h : BesideStore s e.s) (f : LineFunction) (level : Bool) (n : LineIx) :
    BesideStore s (e.functionChange f level n).1.s := by
  have hkey : BesideStore s { e.s with proof := { e.s.proof with keyLevel := level } } :=
    h.trans (.of_fields rfl rfl rfl rfl rfl rfl rfl)
  unfold Ev.functionChange
  repeat' split
  all_goals first
    | exact h
    | exact h.fireReset
    | exact h.leaveMaintenance
    | exact hkey.post _ _ _

theorem BesideStore.berthSensor (h : BesideStore s e.s) (n : LineIx) : BesideStore s (e.berthSensor n).1.s := by
  have hstale : BesideStore s { e.s with train := { e.s.train with alignment := .stale } } :=
    h.trans (.of_fields rfl rfl rfl rfl rfl rfl rfl)
  unfold Ev.berthSensor
  repeat' split
  all_goals first
    | exact h
    | exact hstale.post _ _ _
    | exact h.departWatch

theorem BesideStore.generalEdge (h : BesideStore s t) (n : LineIx) : BesideStore s (t.generalEdge n) := by
  have hlatched := h.setLine n { t.line n with changeLatch := true }
  unfold State.generalEdge
  dsimp only
  generalize (if (t.line n).line.level then (t.lineRecord n).rising else (t.lineRecord n).falling) = edge
  split
  · exact hlatched.post _ _ _
  · exact h

theorem BesideStore.generalChange (h : BesideStore s e.s) (n : LineIx) : BesideStore s (e.generalChange n).1.s := by
  unfold Ev.generalChange
  split
  · exact h.berthSensor n
  · exact h.generalEdge n
  · exact h.functionChange _ _ n

theorem BesideStore.filteredChange (h : BesideStore s e.s) (l : InputLine) : BesideStore s (e.filteredChange l).1.s := by
  have hlevel (l : InputLine) : BesideStore s (e.on (fun s => s.changeLevel l)).s := h.setInputLine l _
  cases l with
  | bay b i => exact (hlevel _).bayInput b i
  | general n => exact (hlevel _).generalChange n

/-! ### Lines and bays written, after their record -/

theorem BesideStore.restartLine (h : BesideStore s t) (n : LineIx) (f : LineFunction) : BesideStore s (t.restartLine n f) :=
  (h.setInputLine (.general n) _).setLine n _

theorem BesideStore.standingKey (h : BesideStore s t) : BesideStore s t.standingKey :=
  h.trans (.of_fields rfl rfl rfl rfl rfl rfl rfl)

theorem BesideStore.compareOwner (h : BesideStore s e.s) (before : State) (f : LineFunction) (n : LineIx) :
    BesideStore s (e.compareOwner before f n).1.s := by
  simp only [Ev.compareOwner]
  split
  · exact h.functionChange _ _ n
  · exact h

/-- What WRITE_LINE does once the record is written (spec/03 R63). -/
theorem BesideStore.writeLine (e : Ev) (n : LineIx) (r : LineRecord) :
    BesideStore (e.s.setLineRecord n r) (e.writeLine n r).1.s := by
  have hwritten : BesideStore (e.s.setLineRecord n r) (e.on (fun s => s.writeLine n r)).s := by
    simp only [Ev.on_s, State.writeLine]
    split
    · exact BesideStore.restartLine (.refl _) n _
    · exact .refl _
  have hplaced {p : Ev × List Task} (h : BesideStore (e.s.setLineRecord n r) p.1.s) :
      BesideStore (e.s.setLineRecord n r) (Ev.andThen p (fun e2 => e2.placedChange e.s)).1.s := h
  refine hplaced ?_
  split
  · unfold Ev.receiveStanding
    split
    · exact hwritten.standingKey
    · exact hwritten
  · exact (hwritten.compareOwner _ _ n).compareOwner _ _ n

/-- What WRITE_BAY does once the record is written (spec/01 R2). -/
theorem BesideStore.restartBay (h : BesideStore s e.s) (b : BayIx) : BesideStore s (e.restartBay b).1.s := by
  have hcleared : BesideStore s (e.clearForKind b).s := by
    unfold Ev.clearForKind
    split
    · exact h.clearFrame _ b
    · exact h
  rw [Ev.restartBay_eq]
  split
  · exact (hcleared.onBay b Bay.startedAgain).derive b
  · exact (hcleared.onBay b Bay.startedAgain).enter b _

/-! ### Timers -/

theorem BesideStore.toClosing (h : BesideStore s e.s) (b : BayIx) : BesideStore s (e.toClosing b).1.s := h.enter b _

theorem BesideStore.forceClosing (h : BesideStore s e.s) (b : BayIx) (x : Timer) : BesideStore s (e.forceClosing b x).1.s :=
  ((h.enter b .closing).onBay b _).post _ _ _

theorem BesideStore.markStuck (h : BesideStore s e.s) (b : BayIx) : (sensor : Sensor) →
    BesideStore s (e.markStuck b sensor).1.s
  | .gap => h.onBay b _
  | .curtain => h.onBay b _

/-- Supervision expires that is ARMED, and so not in MAINTENANCE (spec/06 R126). -/
theorem BesideStore.supervisionExpires (e : Ev) (x : Timer) (h : e.s.supervision.state = .armed) :
    BesideStore e.s (e.supervisionExpires x).1.s :=
  ⟨id, fun hs hm => by have hdisarmed := (hs hm).2; rw [h] at hdisarmed; exact absurd hdisarmed nofun, rfl, rfl⟩

theorem BesideStore.compareDwell (h : BesideStore s t) : BesideStore s t.compareDwell := by
  have setDue {u : State} (hu : BesideStore s u) : BesideStore s u.setDue := by
    have hdue : BesideStore u { u with train := { u.train with due := true } } := .of_fields rfl rfl rfl rfl rfl rfl rfl
    exact (hu.trans hdue).post _ _ _
  have setOverstay {u : State} (hu : BesideStore s u) : BesideStore s u.setOverstay := by
    have hover : BesideStore u { u with train := { u.train with overstay := true } } := .of_fields rfl rfl rfl rfl rfl rfl rfl
    exact (hu.trans hover).post _ _ _
  have hcompared : BesideStore s (if !t.train.due && t.train.dueAt ≤ t.train.dwellElapsed then t.setDue else t) := by
    split
    · exact setDue h
    · exact h
  unfold State.compareDwell
  split
  · exact h
  · dsimp only
    generalize (if !t.train.due && t.train.dueAt ≤ t.train.dwellElapsed then t.setDue else t) = compared at hcompared ⊢
    split
    · exact setOverstay hcompared
    · exact hcompared

theorem BesideStore.reachDwell (h : BesideStore s t) (threshold : Nat) : BesideStore s (t.reachDwell threshold) :=
  have hreached : BesideStore t { t with train := { t.train with dwellElapsed := max t.train.dwellElapsed threshold } } :=
    .of_fields rfl rfl rfl rfl rfl rfl rfl
  (h.trans hreached).compareDwell

/-! ### Requests of the train, of supervision and of the mode -/

theorem BesideStore.announce (units : List TrainUnit) (target : Mm) (h : s.mode.mode ≠ .maintenance) :
    BesideStore s (s.announce units target) :=
  have hannounced : BesideStore s
      { s with train := { Train.reset with state := .announced, units := units, target := some target } } :=
    .of_mode rfl rfl h rfl rfl
  hannounced.post _ _ _

theorem BesideStore.berthAt (measured : Mm) (ds : List PlacedDoorway)
    (h : s.train.state = .announced ∨ s.train.state = .berthed) : BesideStore s (s.berthAt measured ds) := by
  have hberthed : BesideStore s { s with train := { s.train with
      state := .berthed, measured := some measured, stopError := some (measured - s.train.target.getD 0)
      alignment := s.alignmentOf measured (measured - s.train.target.getD 0), checked := !s.placed.isEmpty
      aligned := s.alignedSet ds } } :=
    .of_train rfl rfl rfl (fun hempty => by simp [hempty] at h) rfl rfl rfl
  exact hberthed.post _ _ _

theorem BesideStore.openMap (e : Ev) (map : List BayIx) (excluded : List (BayIx × Reason)) (dwell : Nat)
    (h : e.s.train.state ≠ .empty) : BesideStore e.s (e.openMap map excluded dwell).1.s := by
  have hformed : BesideStore e.s { e.s with train := { e.s.train with
      map := map, state := .enabled, dwellLimit := dwell, dwellElapsed := 0, due := false, overstay := false } } :=
    .of_train rfl rfl rfl (fun hempty => absurd hempty h) rfl rfl rfl
  exact (hformed.setGap .pending).formMembers.post _ _ _

theorem BesideStore.reopenMap (e : Ev) (h : e.s.train.state ≠ .empty) : BesideStore e.s e.reopenMap.1.s := by
  have hopened : BesideStore e.s { e.s with train := { e.s.train with state := .enabled } } :=
    .of_train rfl rfl rfl (fun hempty => absurd hempty h) rfl rfl rfl
  exact (hopened.setGap .pending).formMembers.post _ _ _

theorem BesideStore.depart (e : Ev) (h : e.s.train.state ≠ .empty) : BesideStore e.s e.depart.1.s := by
  have hdeparting : BesideStore e.s { e.s with train := { e.s.train with state := .departing } } :=
    .of_train rfl rfl rfl (fun hempty => absurd hempty h) rfl rfl rfl
  exact BesideStore.departWatch
    (e := e.on (fun s => ({ s with train := { s.train with state := .departing } }).post .departed none s.proof.value.code))
    (hdeparting.post _ _ _)

/-- Supervision is resumed that is EXPIRED, and so not in MAINTENANCE (spec/06 R126). -/
theorem BesideStore.resume (h : s.supervision.state = .expired) : BesideStore s s.resume := by
  have hresumed : BesideStore s { s with supervision :=
      { state := .armed, timer := some (.start s.platform.supervisionPeriod), expiredAt := none } } :=
    ⟨id, fun hs hm => by have hdisarmed := (hs hm).2; rw [h] at hdisarmed; exact absurd hdisarmed nofun, rfl, rfl⟩
  exact hresumed.post _ _ _

/-- MAINTENANCE is entered with the train EMPTY and supervision DISARMED (spec/08 R149, spec/06 R126). -/
theorem BesideStore.enterMaintenance (h : s.train.state = .empty) : BesideStore s s.enterMaintenance :=
  ⟨fun hs => ⟨EventUnit.add_bounded hs.1, hs.2⟩, fun _ _ => ⟨h, rfl⟩, rfl, rfl⟩

theorem BesideStore.extendDwell (s : State) (step : Nat) : BesideStore s (s.extendDwell step) := by
  have hextended : BesideStore s { s with train := { s.train with
      dwellLimit := s.train.extended step, due := (s.extendFlags (s.train.extended step)).1
      overstay := (s.extendFlags (s.train.extended step)).2 } } := .of_fields rfl rfl rfl rfl rfl rfl rfl
  exact (hextended.post .dwellExtended none (s.train.extended step)).compareDwell

/-! ### The end of STARTING -/

theorem BesideStore.endStarting (s : State) : BesideStore s (Ev.endStarting (Ev.start s)).1.s := by
  have hread : BesideStore s s.readLines :=
    .foldl (fun n ht => ht.setInputLine (.general n) _) allLines (.of_fields rfl rfl rfl rfl rfl rfl rfl)
  have hderived : BesideStore s (allBays.foldl State.deriveAtStart s.readLines) := .foldl (fun b ht => ht.setBay b _) _ hread
  have hconflict {e : Ev} (b : BayIx) (he : BesideStore s e.s) : BesideStore s (e.startConflict b).s := by
    unfold Ev.startConflict
    split
    · exact he.takeDerivedConflict b
    · exact he
  have hconflicts (bs : List BayIx) (e : Ev) (he : BesideStore s e.s) : BesideStore s (bs.foldl Ev.startConflict e).s := by
    induction bs generalizing e with
    | nil => exact he
    | cons b bs ih => exact ih _ (hconflict b he)
  have hstore {u : State} (hu : BesideStore s u) : BesideStore s u.startStoreFault := by
    unfold State.startStoreFault
    split
    · exact hu.recordPlatform _ _
    · exact hu
  have hfaulted : BesideStore s s.startFaulted := by
    rw [State.startFaulted, Ev.startFaults_eq]
    exact hconflicts _ _ (hstore hderived)
  have hmode {u : State} (hu : BesideStore s u) : BesideStore s u.startMode := by
    have hcause : BesideStore s { u with mode := { u.mode with haltCause := u.startHalt } } :=
      hu.trans (.of_fields rfl rfl rfl rfl rfl rfl rfl)
    exact hcause.changeMode (by split <;> nofun)
  have hrelease {u : State} (b : BayIx) (hu : BesideStore s u) : BesideStore s (u.startRelease b) := by
    unfold State.startRelease
    split
    · exact hu.openRecord _ _ _
    · exact hu
  rw [Ev.endStarting_s]
  exact (BesideStore.foldl hrelease allBays (hmode hfaulted)).standingKey

/-! ### The end of an event -/

/-- Once a suspended commit has been seen to, the end of an event is beside the store. -/
theorem BesideStore.settles (s : State) : BesideStore s.resumeStore s.settle := by
  have hwatched : BesideStore s.resumeStore s.resumeStore.watchStuck := by
    refine .foldl (fun b ht => ?_) allBays (.refl _)
    simp only [State.stuckWatch]
    split
    · exact ht
    · exact ht.setBay b _
  have halarm (u : State) : BesideStore u u.formAlarm := .of_fields rfl rfl rfl rfl rfl rfl rfl
  have hproof {u : State} (hu : BesideStore s.resumeStore u) : BesideStore s.resumeStore u.formProof := by
    have hset : BesideStore s.resumeStore { u with proof := u.proofNow } := hu.trans (.of_fields rfl rfl rfl rfl rfl rfl rfl)
    simp only [State.formProof]
    split
    · exact hset
    · exact hset.post _ _ _
  have hpins (u : State) : BesideStore u u.formPins := .of_fields rfl rfl rfl rfl rfl rfl rfl
  exact (hproof (hwatched.trans (halarm _))).trans (hpins _)

/-! ### The links -/

theorem BesideStore.setPort (s : State) (l : Link) (p : Port) : BesideStore s (s.setPort l p) := by
  cases l <;> exact .of_fields rfl rfl rfl rfl rfl rfl rfl

/-- A counted frame arms supervision in SERVICE alone (spec/06 R118). -/
theorem BesideStore.countFrame (s : State) : BesideStore s s.countFrame := by
  unfold State.countFrame
  dsimp only
  split
  · split
    · next harms =>
      have hservice : s.mode.mode = .service := beq_iff_eq.mp (Bool.and_eq_true_iff.mp harms).1
      exact .of_mode rfl rfl (by rw [hservice]; exact nofun) rfl rfl
    · exact .refl s
  · split
    · exact .of_fields rfl rfl rfl rfl rfl rfl rfl
    · exact ⟨id, fun hs hm => ⟨(hs hm).1, rfl⟩, rfl, rfl⟩
  · exact .refl s

theorem BesideStore.takeFrame (s : State) (l : Link) : BesideStore s (s.takeFrame l) := by
  cases l with
  | station => exact .setPort s .station _
  | signalling => exact (BesideStore.setPort s .signalling _).trans (.countFrame _)

theorem BesideStore.carryOut (a : Answer) (l : Link) (k : Byte) : BesideStore a.outcome.s (a.carryOut l k) := by
  have hrecorded (u : State) (r : Result) : BesideStore u (u.recordAuthority l k r) := by
    have hflag : BesideStore u { u with events := { u.events with authority := true } } :=
      .of_fields rfl rfl rfl rfl rfl rfl rfl
    unfold State.recordAuthority
    split
    · exact hflag.post _ _ _
    · exact .refl u
  have howed (u : State) (p : Bool) (r : Result) (c : List Byte) : BesideStore u ((u.formPins.prepare l p).owe l k r c) := by
    cases l <;> exact .of_fields rfl rfl rfl rfl rfl rfl rfl
  exact (hrecorded _ _).trans (howed _ _ _ _)

theorem BesideStore.tick (s : State) : BesideStore s s.tick := by
  unfold State.tick
  split
  · refine .of_fields rfl rfl rfl ?_ rfl rfl rfl
    simp only [State.count, Train.tick]
    split <;> rfl
  · exact .refl s

end

end Sys2Proof.Machine
end

section
/-! What every step keeps of the bounds, of the maintenance mode, of the supply and of the store (spec/05 R98, spec/08 R146 and
R150, spec/09 R164 and R165, spec/10 R177). -/

namespace Sys2Proof.Machine

/-- What one step keeps: the bounds, the law of the maintenance mode, the mark of a commit, the law of the supply, and the law
of the store. -/
structure KeepsStanding (s t : State) : Prop where
  bounded : Bounded s → Bounded t
  maintenance : MaintenanceLaw s → MaintenanceLaw t
  commitMark : CommitMarkLaw s → CommitMarkLaw t
  supply : SupplyLaw s → SupplyLaw t
  store : StoreLaw s t

section

variable {s t u : State} {e : Ev} {ts : List Task}

/-! ### Composition -/

theorem StoreLaw.of_same (h : t.store = s.store) : StoreLaw s t :=
  ⟨fun _ _ => by rw [h], fun ht hmoves => by rw [h] at ht hmoves; exact absurd ht (by simpa using hmoves)⟩

theorem BesideStore.keepsStanding (h : BesideStore s t) : KeepsStanding s t :=
  ⟨h.bounded, h.maintenance, fun hs => by rw [CommitMarkLaw, h.store]; exact hs,
    fun hs => by rw [SupplyLaw, h.power]; exact hs, .of_same h.store⟩

theorem KeepsStanding.refl (s : State) : KeepsStanding s s := (BesideStore.refl s).keepsStanding

/-- Changes beside the store come before. -/
theorem KeepsStanding.of_start (h : BesideStore s t) (k : KeepsStanding t u) : KeepsStanding s u where
  bounded := k.bounded ∘ h.bounded
  maintenance := k.maintenance ∘ h.maintenance
  commitMark := k.commitMark ∘ h.keepsStanding.commitMark
  supply := k.supply ∘ h.keepsStanding.supply
  store := ⟨by rw [← h.store]; exact k.store.working, by rw [← h.store]; exact k.store.committing⟩

/-- Changes beside the store come after, once the law of the store holds of them. -/
theorem KeepsStanding.then_beside (k : KeepsStanding s t) (h : BesideStore t u) (hstore : StoreLaw s u) :
    KeepsStanding s u where
  bounded := h.bounded ∘ k.bounded
  maintenance := h.maintenance ∘ k.maintenance
  commitMark := h.keepsStanding.commitMark ∘ k.commitMark
  supply := h.keepsStanding.supply ∘ k.supply
  store := hstore

/-- Changes beside the store, the train and the fire latch come after. -/
theorem KeepsStanding.ends (k : KeepsStanding s t) (h : BesideStore t u) (htrain : u.train.state = t.train.state)
    (hfire : u.fire = t.fire) : KeepsStanding s u :=
  k.then_beside h ⟨by rw [h.store]; exact k.store.working, by rw [h.store, htrain, hfire]; exact k.store.committing⟩

/-- Changes beside a store that is not busy come after. -/
theorem KeepsStanding.idle_ends (k : KeepsStanding s t) (hidle : t.store.busy = false) (h : BesideStore t u) :
    KeepsStanding s u := by
  refine k.then_beside h ⟨fun _ ht => ?_, fun ht => ?_⟩
  · rw [h.store, hidle] at ht
    exact absurd ht nofun
  · have hbusy := (Store.busy_iff _).mpr (.inl ht)
    rw [h.store, hidle] at hbusy
    exact absurd hbusy nofun

/-! ### The store -/

/-- No suspending cause stands: the train is EMPTY and the fire latch clear (spec/09 R165). -/
theorem State.suspends_false (h : s.suspends = false) : s.train.state = .empty ∧ s.fire = false := by
  simpa [State.suspends] using h

/-- The store changes: a busy one has no mark and, if it was busy before, its working copy; a COMMITTING one no suspending
cause. -/
theorem KeepsStanding.setStore {x : Store} (hmark : CommitMarkLaw s → x.busy = true → x.stored.completion = false)
    (hworking : s.store.busy = true → x.busy = true → x.working = s.store.working)
    (hclear : x.state = .committing → s.suspends = false) : KeepsStanding s { s with store := x } :=
  ⟨id, id, hmark, id, hworking, fun hx _ => State.suspends_false (hclear hx)⟩

/-- A store that is left not busy. -/
theorem KeepsStanding.setIdle {x : Store} (h : x.busy = false) : KeepsStanding s { s with store := x } :=
  .setStore (fun _ hx => absurd hx (by simp [h])) (fun _ hx => absurd hx (by simp [h]))
    (fun hx => absurd ((Store.busy_iff x).mpr (.inl hx)) (by simp [h]))

theorem KeepsStanding.setWorking (h : s.store.busy = false) (w : Records) : KeepsStanding s (s.setWorking w) := .setIdle h

theorem KeepsStanding.post (h : KeepsStanding s t) (k : EventKind) (v : Nat) : KeepsStanding s (t.post k none v) :=
  h.ends ((BesideStore.refl t).post k none v) rfl rfl

/-- A suspended commit resumes with the train EMPTY and the fire latch clear, and begins nothing (spec/09 R166). -/
theorem KeepsStanding.resumeStore (h : KeepsStanding s t) : KeepsStanding s t.resumeStore := by
  unfold State.resumeStore
  split
  · next hresumes =>
    simp only [Bool.and_eq_true, beq_iff_eq, Bool.not_eq_eq_eq_not, Bool.not_true] at hresumes
    obtain ⟨⟨hsuspended, hempty⟩, hfire⟩ := hresumes
    have hbusy : t.store.busy = true := (Store.busy_iff _).mpr (.inr hsuspended)
    have hcommitting : KeepsStanding s { t with store := { t.store with state := .committing } } :=
      ⟨h.bounded, h.maintenance, fun hs _ => h.commitMark hs hbusy, h.supply,
        fun hs _ => h.store.working hs hbusy, fun _ _ => ⟨hempty, hfire⟩⟩
    exact hcommitting.post _ _
  · exact h

theorem State.resumeStore_train (s : State) : s.resumeStore.train = s.train := by
  unfold State.resumeStore
  split <;> rfl

theorem State.resumeStore_fire (s : State) : s.resumeStore.fire = s.fire := by
  unfold State.resumeStore
  split <;> rfl

theorem State.settle_fire (s : State) : s.settle.fire = s.fire := by rw [State.fire, State.settle_latch, State.fire]

theorem KeepsStanding.settle (h : KeepsStanding s t) : KeepsStanding s t.settle :=
  h.resumeStore.ends (.settles t) (by rw [State.settle_train, State.resumeStore_train])
    (by rw [State.settle_fire, State.resumeStore_fire])

/-- An accepted COMMIT begins with the mark taken away, COMMITTING where no suspending cause stands (spec/09 R164). -/
theorem KeepsStanding.commit (h : s.store.busy = false) : KeepsStanding s s.commit := by
  have hidle : ¬s.store.busy = true := by simp [h]
  simp only [State.commit]
  split
  · refine .post ?_ _ _
    exact .setStore (fun _ _ => rfl) (fun hs => absurd hs hidle) nofun
  · next hclear => exact .setStore (fun _ _ => rfl) (fun hs => absurd hs hidle) (fun _ => by simpa using hclear)

/-- A record is written: the commit is done, suspended, or goes on where no suspending cause stands (spec/09 R165). -/
theorem KeepsStanding.recordPassed (h : s.store.state = .committing) : KeepsStanding s s.recordPassed := by
  have hbusy : s.store.busy = true := (Store.busy_iff _).mpr (.inl h)
  simp only [State.recordPassed]
  split
  · exact .post (.setIdle rfl) _ _
  · split
    · refine .post ?_ _ _
      exact .setStore (fun hs _ => hs hbusy) (fun _ _ => rfl) nofun
    · next hclear => exact .setStore (fun hs _ => hs hbusy) (fun _ _ => rfl) (fun _ => by simpa using hclear)

/-! ### Events -/

/-- How an event begins: beside the store, or with all that it does, or with the store left not busy. -/
inductive Begins (s : State) (e : Ev) (ts : List Task) : Prop
  | beside (h : BesideStore s e.s)
  | quiet (h : KeepsStanding s e.s) (hts : ts = [])
  | idle (h : KeepsStanding s e.s) (hidle : e.s.store.busy = false)

theorem Begins.run (h : Begins s e ts) : KeepsStanding s (run Config.eventBound ts e).s := by
  cases h with
  | beside h => exact (h.run _ ts).keepsStanding
  | quiet h hts =>
    subst hts
    simpa using h
  | idle h hidle => exact h.idle_ends hidle (.run (.refl _) _ ts)

theorem Begins.event {f : Ev → Ev × List Task} (h : Begins s (f (Ev.start s)).1 (f (Ev.start s)).2) :
    KeepsStanding s (s.event f) := h.run.settle

/-- An answer that begins so, carried out to the end of its event. -/
theorem Begins.outcome {a : Answer} (h : Begins s a.ev a.tasks) : KeepsStanding s a.outcome.s := by
  unfold Answer.outcome
  dsimp only
  split
  · exact h.run.settle
  · exact h.run

/-- An event that begins beside the store. -/
theorem KeepsStanding.event {f : Ev → Ev × List Task} (h : BesideStore s (f (Ev.start s)).1.s) : KeepsStanding s (s.event f) :=
  Begins.event (.beside h)

theorem Begins.carryOut {a : Answer} (h : Begins s a.ev a.tasks) (l : Link) (k : Byte) : KeepsStanding s (a.carryOut l k) := by
  have hfire : (a.carryOut l k).fire = a.outcome.s.fire := by rw [State.fire, (PhasesStand.carryOut a l k).latch, State.fire]
  exact h.outcome.ends (.carryOut a l k) (LawStands.carryOut a l k).state hfire

end

end Sys2Proof.Machine
end

section
/-! Every request and every command keeps the bounds, the law of the maintenance mode, and the laws of the supply and of the store
(spec/05 R98, spec/08 R146 and R150, spec/09 R164 and R165, spec/10 R177). -/

namespace Sys2Proof.Machine

section

variable {s t u : State} {e : Ev} {ts : List Task} {a : Answer}

/-! ### What the owners do beside the store -/

theorem BesideStore.clearTarget (s : State) (target : Option BayIx) : BesideStore s (s.clearTarget target) := by
  cases target with
  | none =>
    have hcleared : BesideStore s { s with platformFrame := s.platformFrame.clear } := .of_fields rfl rfl rfl rfl rfl rfl rfl
    exact hcleared.post _ _ _
  | some b => exact (BesideStore.refl s).clearFrame _ b

/-- Records leave the queue (spec/10 R179). -/
theorem BesideStore.takeEvents (s : State) (count : Nat) : BesideStore s (s.takeEvents count) :=
  ⟨fun hs => ⟨(List.drop_sublist count _).length_le.trans hs.1, hs.2⟩, id, rfl, rfl⟩

/-- An acknowledgement leaves no more records in the log (spec/05 R116). -/
theorem BesideStore.ackRelease (s : State) (p : ReleaseRecord → Bool) :
    BesideStore s { s with release := { s.release with log := ackIn p s.release.log } } :=
  ⟨fun hs => ⟨hs.1, (ackIn_length p s.release.log).trans hs.2⟩, id, rfl, rfl⟩

/-- A change of the placed sensors asks for the departure watch, and changes nothing itself (spec/02 R49). -/
theorem BesideStore.placedChange (h : BesideStore s e.s) (before : State) : BesideStore s (e.placedChange before).1.s := h

/-! ### Configuration writes -/

theorem State.storeRefusal_idle (h : s.storeRefusal = none) : s.store.busy = false := by
  simp only [State.storeRefusal] at h
  repeat' split at h
  all_goals simp_all

/-- A working copy is written that no commit is reading, and the rest of the event is beside the store. -/
theorem Begins.written {w : Records} (h : s.store.busy = false) (hrest : BesideStore (s.setWorking w) e.s) :
    Begins s e ts :=
  have hidle : (s.setWorking w).store.busy = false := h
  .idle ((KeepsStanding.setWorking h w).idle_ends hidle hrest) (by rw [hrest.store]; exact hidle)

theorem Begins.writeBay (h : s.store.busy = false) (b : BayIx) (r : BayRecord) :
    Begins s ((Ev.start s).writeBay b r).1 ((Ev.start s).writeBay b r).2 := by
  unfold Ev.writeBay
  dsimp only
  split
  · exact .written h (BesideStore.restartBay (e := (Ev.start s).on fun s => s.setBayRecord b r) (.refl _) b)
  · exact .written h (.refl _)

theorem Begins.writeLine (h : s.store.busy = false) (n : LineIx) (r : LineRecord) :
    Begins s ((Ev.start s).writeLine n r).1 ((Ev.start s).writeLine n r).2 := .written h (.writeLine (Ev.start s) n r)

theorem Begins.writePlatform (h : s.store.busy = false) (p : Platform) :
    Begins s ((Ev.start s).writePlatform p).1 ((Ev.start s).writePlatform p).2 :=
  .written h (BesideStore.placedChange (e := (Ev.start s).on fun s => s.setPlatform p) (.refl _) s)

/-! ### Owners -/

/-- An owner's answer begins so. -/
def Answer.Begins (s : State) (a : Answer) : Prop := Machine.Begins s a.ev a.tasks

theorem Answer.Begins.refuse (s : State) (r : Result) : (Answer.refuse s r).Begins s := .beside (.refl s)

theorem Answer.Begins.settled (h : BesideStore s t) (content : List Byte) : (Answer.settled t content).Begins s := .beside h

theorem Answer.Begins.stands {f : Ev → Ev × List Task} {reply : Ev → Result × List Byte}
    (h : BesideStore s (f (Ev.start s)).1.s) : (Answer.event s f reply).Begins s := .beside h

/-- FREEZE_CONFIG touches neither the state of the store nor its working copy (spec/09 R168). -/
theorem Answer.Begins.freezeConfig (s : State) (body : List Byte) : (ownerFreezeConfig body s).Begins s :=
  .quiet ⟨id, id, id, id, ⟨fun _ _ => rfl,
    fun ht hmoves => absurd ht (by simpa [ownerFreezeConfig, Answer.settled] using hmoves)⟩⟩ rfl

/-- FIX_GEOMETRY is refused while the store is busy (spec/09 R169). -/
theorem Answer.Begins.fixGeometry (s : State) (body : List Byte) : (ownerFixGeometry body s).Begins s := by
  have hcounted : BesideStore s s.useFree := .of_fields rfl rfl rfl rfl rfl rfl rfl
  unfold ownerFixGeometry
  split
  · exact .refuse s _
  · split
    · exact .refuse s _
    · next hbusy =>
      split
      · exact .quiet (.of_start hcounted (.setIdle (Bool.eq_false_iff.mpr hbusy))) rfl
      · exact .beside hcounted

theorem ownerOf_begins (k : RequestKind) (body : List Byte) (s : State) (hmode : k.admitted s.mode.mode = true) :
    (ownerOf k body s).Begins s := by
  have refuse {r : Result} : (Answer.refuse s r).Begins s := .refuse s r
  have settled {t : State} {content : List Byte} (h : BesideStore s t) : (Answer.settled t content).Begins s := .settled h content
  have begins {f : Ev → Ev × List Task} {reply : Ev → Result × List Byte} (h : BesideStore s (f (Ev.start s)).1.s) :
      (Answer.event s f reply).Begins s := .stands h
  cases k with
  | poll | readTrain | readMap => exact settled (.refl s)
  | prepareRestart => exact .beside (.refl s)
  | readStatus => exact settled (.of_fields rfl rfl rfl rfl rfl rfl rfl)
  | freezeConfig => exact .freezeConfig s body
  | fixGeometry => exact .fixGeometry s body
  | readBays | readReleases | readConfig =>
    simp only [ownerOf, ownerReadBays, ownerReadReleases, ownerReadConfig]
    split
    · exact refuse
    · exact settled (.refl s)
  | readLines =>
    simp only [ownerOf, ownerReadLines]
    split
    · exact refuse
    · exact settled (.of_fields rfl rfl rfl rfl rfl rfl rfl)
  | takeEvents =>
    simp only [ownerOf, ownerTakeEvents]
    split
    · exact refuse
    · exact settled (.takeEvents s _)
  | setAttention =>
    simp only [ownerOf, ownerSetAttention]
    split
    · exact settled (.of_fields rfl rfl rfl rfl rfl rfl rfl)
    · exact refuse
  | readFault =>
    simp only [ownerOf, ownerReadFault]
    split
    · exact refuse
    · split
      · exact settled (.clearTarget s _)
      · exact settled (.refl s)
  | setTrace =>
    simp only [ownerOf, ownerSetTrace]
    split
    · exact refuse
    · exact settled (.of_fields rfl rfl rfl rfl rfl rfl rfl)
  | ackRelease =>
    simp only [ownerOf, ownerAckRelease]
    repeat' split
    · exact refuse
    · exact refuse
    · exact settled (.ackRelease s _)
  | setOutput =>
    simp only [ownerOf, ownerSetOutput]
    repeat' split
    · exact refuse
    · exact refuse
    · exact settled (.of_fields rfl rfl rfl rfl rfl rfl rfl)
  | restart =>
    simp only [ownerOf, ownerRestart]
    split
    · exact settled (.of_fields rfl rfl rfl rfl rfl rfl rfl)
    · exact refuse
  | announce =>
    have hservice : s.mode.mode = .service := by simpa [RequestKind.admitted] using hmode
    simp only [ownerOf, ownerAnnounce]
    repeat' split
    · exact refuse
    · exact refuse
    · exact refuse
    · exact begins (.announce _ _ (by rw [hservice]; exact nofun))
  | berth =>
    simp only [ownerOf, ownerBerth]
    split
    · exact refuse
    · split
      · next hstate =>
        split
        · exact refuse
        · exact begins (.berthAt _ _ (by simpa using hstate))
      · exact refuse
  | cancel =>
    simp only [ownerOf, ownerCancel]
    split
    · exact begins (BesideStore.returnEmpty (e := Ev.start s) (.refl s) _ _)
    · exact refuse
  | openMap =>
    have hrefused (x : List (BayIx × Reason)) : (Answer.emptyMap s x).Begins s := .beside (.refl s)
    simp only [ownerOf, ownerOpenMap]
    split
    · exact refuse
    · split
      · exact refuse
      · exact refuse
      · exact refuse
      · next hberthed =>
        repeat' split
        · exact refuse
        · exact refuse
        · exact hrefused _
        · exact begins (.openMap (Ev.start s) _ _ _ (by simp [hberthed]))
      · next henabled =>
        split
        · exact refuse
        · exact begins (.reopenMap (Ev.start s) (by simp [henabled]))
      · next hclosing =>
        split
        · exact refuse
        · exact begins (.reopenMap (Ev.start s) (by simp [hclosing]))
  | closeMap =>
    simp only [ownerOf, ownerCloseMap]
    split
    · exact refuse
    · next hruns =>
      split
      · exact refuse
      · exact begins (BesideStore.closeTrain (e := Ev.start s) (.refl s) (by simpa using hruns) _ _)
  | depart =>
    simp only [ownerOf, ownerDepart]
    split
    · next hstate =>
      repeat' split
      · exact refuse
      · exact refuse
      · have hplaced : s.train.state ≠ .empty := fun hempty => by simp [hempty] at hstate
        exact begins (.depart (Ev.start s) hplaced)
    · exact refuse
  | resume =>
    simp only [ownerOf, ownerResume]
    split
    · next hexpired => exact begins (.resume (beq_iff_eq.mp hexpired))
    · exact refuse
  | bayCommand =>
    simp only [ownerOf, ownerBayCommand]
    repeat' split
    · exact refuse
    · exact refuse
    · exact begins (.refl s)
  | emergencyOpen => exact begins (.refl s)
  | halt => exact begins (BesideStore.enterHalted (e := Ev.start s) (.refl s) _)
  | extendDwell =>
    simp only [ownerOf, ownerExtendDwell]
    repeat' split
    · exact refuse
    · exact begins (.extendDwell s _)
    · exact refuse
  | enterMaintenance =>
    simp only [ownerOf, ownerEnterMaintenance]
    split
    · exact refuse
    · split
      · exact refuse
      · split
        · exact refuse
        · next hempty => exact begins (.enterMaintenance (by simpa using hempty))
  | leaveMaintenance =>
    simp only [ownerOf, ownerLeaveMaintenance]
    split
    · exact begins (BesideStore.leaveMaintenance (e := Ev.start s) (.refl s))
    · exact refuse
  | writeBay =>
    simp only [ownerOf, ownerWriteBay]
    split
    · exact refuse
    · exact refuse
    · next hrefusal _ =>
      have hstore : s.storeRefusal = none := by
        unfold State.writeBayRefusal at hrefusal
        split at hrefusal
        · exact absurd hrefusal nofun
        · exact hrefusal
      split
      · exact refuse
      · exact Begins.writeBay (State.storeRefusal_idle hstore) _ _
  | writeProfile | writeResponse =>
    simp only [ownerOf, ownerWriteProfile, ownerWriteResponse]
    split
    · exact refuse
    · exact refuse
    · next hrefusal _ =>
      split
      · exact refuse
      · exact .written (State.storeRefusal_idle hrefusal) (.refl _)
  | eraseProfile =>
    simp only [ownerOf, ownerEraseProfile]
    split
    · exact refuse
    · exact refuse
    · next hrefusal _ => exact .written (State.storeRefusal_idle hrefusal) (.refl _)
  | writeLine =>
    simp only [ownerOf, ownerWriteLine]
    split
    · exact refuse
    · exact refuse
    · next hrefusal _ =>
      split
      · exact refuse
      · exact Begins.writeLine (State.storeRefusal_idle hrefusal) _ _
  | writePlatform =>
    simp only [ownerOf, ownerWritePlatform]
    split
    · exact refuse
    · exact refuse
    · next hrefusal _ => exact Begins.writePlatform (State.storeRefusal_idle hrefusal) _
  | commit =>
    simp only [ownerOf, ownerCommit]
    split
    · exact refuse
    · next hrefusal => exact .quiet (KeepsStanding.commit (State.storeRefusal_idle hrefusal)) rfl

/-! ### Requests -/

theorem State.admitted_of_linkRefusal {l : Link} {k : RequestKind} {body : List Byte} (h : s.linkRefusal l k body = none) :
    k.admitted s.mode.mode = true := by
  simp only [State.linkRefusal] at h
  repeat' split at h
  all_goals simp_all

theorem judge_begins (l : Link) (k : RequestKind) (body : List Byte) (s : State) :
    (judge l k body (ownerOf k) s).Begins s := by
  unfold judge
  split
  · exact .refuse s _
  · next hnone => exact ownerOf_begins k body s (State.admitted_of_linkRefusal hnone)

theorem State.receive_keepsStanding (s : State) (l : Link) (k : Byte) {answer : State → Answer}
    (h : ∀ u, (answer u).Begins u) : KeepsStanding s (s.receive l k answer) := by
  unfold State.receive
  repeat' split
  · exact .refl s
  · exact (BesideStore.setPort s l _).keepsStanding
  · exact (BesideStore.setPort s .signalling _).keepsStanding
  · exact .of_start (.takeFrame s l) ((h _).carryOut l k)

theorem State.request_keepsStanding (s : State) (l : Link) (k : RequestKind) (body : List Byte) :
    KeepsStanding s (s.request l k body (ownerOf k)) := s.receive_keepsStanding l _ (judge_begins l k body)

theorem State.receiveFrame_keepsStanding (s : State) (l : Link) (k : Byte) (body : List Byte) :
    KeepsStanding s (s.receiveFrame l k body) := by
  unfold State.receiveFrame
  split
  · exact s.request_keepsStanding l _ body
  · exact s.receive_keepsStanding l k (fun u => .refuse u _)

theorem State.completeFrame_keepsStanding (s : State) (l : Link) (length : Byte) (bytes : List Byte) :
    KeepsStanding s (s.completeFrame l length bytes) := by
  unfold State.completeFrame
  repeat' split
  · exact s.receiveFrame_keepsStanding l _ _
  · exact (BesideStore.setPort s l _).keepsStanding
  · exact (BesideStore.setPort s l _).keepsStanding

/-! ### The supply, and every other command -/

/-- A restart takes back what RESET_N has shown, begins in STARTING, and leaves the store VALID or INVALID (spec/08 R146,
spec/09 R159). -/
theorem KeepsStanding.restart (s : State) (c : RestartCause) (h : u.power.resetAsserted = false) :
    KeepsStanding s (u.restart c) := by
  have hidle : (u.restart c).store.busy = false := by
    simp only [State.restart, Store.restart, Store.busy]
    split <;> rfl
  refine ⟨fun _ => ⟨Nat.zero_le _, Nat.zero_le _⟩, fun _ => nofun, fun _ hbusy => ?_, fun _ hasserted => ?_,
    fun _ hbusy => ?_, fun hcommitting => ?_⟩
  · exact absurd hbusy (by simp [hidle])
  · exact absurd (show u.power.resetAsserted = true from hasserted) (by simp [h])
  · exact absurd hbusy (by simp [hidle])
  · exact absurd ((Store.busy_iff _).mpr (.inl hcommitting)) (by simp [hidle])

/-- The supply or RESET_N changes with nothing but the pins. -/
theorem KeepsStanding.setPower (p : Power) (x : Pins) (h : SupplyLaw s → p.resetAsserted = true → p.resetSeen = true) :
    KeepsStanding s { s with power := p, pins := x } :=
  ⟨id, id, id, h, .of_same rfl⟩

theorem State.beginRestart_keepsStanding (s : State) (p : Power)
    (h : SupplyLaw s → p.resetAsserted = true → p.resetSeen = true) :
    KeepsStanding s ({ s with power := p }).beginRestart := by
  unfold State.beginRestart
  split
  · next hruns => exact .restart s _ (by simpa using (Bool.and_eq_true_iff.mp hruns).2)
  · exact .setPower p s.pins h

theorem execRawLevelChange_keepsStanding (s : State) (l : InputLine) (high : Bool) :
    ∃ t, execRawLevelChange l high s = .next t ∧ KeepsStanding s t := by
  refine ⟨_, rfl, ?_⟩
  have hraw : BesideStore s (s.setRaw l high) := (BesideStore.refl s).setInputLine l _
  split
  · exact .refl s
  · split
    · unfold State.filterTakes
      repeat' split
      · exact (hraw.setInputLine l _).keepsStanding
      · exact .of_start hraw (.event (.filteredChange (e := Ev.start (s.setRaw l high)) (.refl _) l))
      · exact (hraw.setInputLine l _).keepsStanding
    · exact hraw.keepsStanding

theorem State.limitRow_keepsStanding (s : State) (b : BayIx) (p : Bay → Bool) (c : FaultCode) :
    KeepsStanding s (s.limitRow b p c) := by
  unfold State.limitRow
  split
  · exact KeepsStanding.event (BesideStore.onBay (e := Ev.start s) (.refl s) b _)
  · exact .refl s

theorem State.closingRow_keepsStanding (s : State) (b : BayIx) (p : Bay → Bool) :
    KeepsStanding s (match s.phaseTimerIn b p with
      | some _ => s.event (fun e => e.toClosing b)
      | none => s) := by
  split
  · exact KeepsStanding.event (BesideStore.toClosing (e := Ev.start s) (.refl s) b)
  · exact .refl s

/-- An event that happens where a condition holds. -/
theorem KeepsStanding.event_if {c : Bool} {f : Ev → Ev × List Task} (h : c = true → BesideStore s (f (Ev.start s)).1.s) :
    KeepsStanding s (if c then s.event f else s) := by
  split
  · next hc => exact .event (h hc)
  · exact .refl s

theorem State.supervisionRunning_armed {x : Timer} (h : s.supervisionRunning = some x) : s.supervision.state = .armed := by
  unfold State.supervisionRunning at h
  split at h
  · next hp => exact beq_iff_eq.mp (Bool.and_eq_true_iff.mp hp).2
  · exact absurd h nofun

/-- A record write that fails leaves the store INVALID (spec/09 R167). -/
theorem Begins.recordFailed (s : State) : Begins s (Ev.start s).recordFailed.1 (Ev.start s).recordFailed.2 :=
  .idle (.setIdle rfl) rfl

theorem State.runs_reset (h : s.runs = true) : s.power.resetAsserted = false := by
  simp only [State.runs, Bool.and_eq_true, Bool.not_eq_eq_eq_not, Bool.not_true] at h
  exact h.1.2

theorem exec_other_keepsStanding {i : Instr} (h : requestOf i = none) (s : State) :
    ∃ t, exec i s = .next t ∧ KeepsStanding s t := by
  cases i with
  | powerOn =>
    refine ⟨_, rfl, ?_⟩
    split
    · exact .refl s
    · exact s.beginRestart_keepsStanding _ id
  | resetNReleased =>
    refine ⟨_, rfl, ?_⟩
    split
    · exact s.beginRestart_keepsStanding _ (fun _ => nofun)
    · exact .refl s
  | supplyOutOfRange =>
    refine ⟨_, rfl, ?_⟩
    split
    · exact .setPower { s.power with supplyInRange := false } Pins.off id
    · exact .refl s
  | resetNAsserted =>
    refine ⟨_, rfl, ?_⟩
    split
    · exact .refl s
    · exact .setPower { s.power with resetAsserted := true, resetSeen := true } Pins.off (fun _ _ => rfl)
  | loadingEnds => exact ⟨_, rfl, .event_if (fun _ => .endStarting s)⟩
  | rawLevelChange l high => exact execRawLevelChange_keepsStanding s l high
  | filterHoldExpires l => exact ⟨_, rfl, .event_if (fun _ => .filteredChange (.refl s) l)⟩
  | unlockLimitExpires b | openLimitExpires b | closeLimitExpires b | lockLimitExpires b =>
    exact ⟨_, rfl, s.limitRow_keepsStanding b _ _⟩
  | warningPeriodExpires b | reopenPauseExpires b => exact ⟨_, rfl, s.closingRow_keepsStanding b _⟩
  | curtainHoldLimitExpires b =>
    refine ⟨_, rfl, ?_⟩
    split
    · exact KeepsStanding.event (BesideStore.forceClosing (e := Ev.start s) (.refl s) b _)
    · exact .refl s
  | stuckTimerExpires b sensor => exact ⟨_, rfl, .event_if (fun _ => .markStuck (.refl s) b sensor)⟩
  | gapScanTimerExpires =>
    exact ⟨_, rfl, .event_if (f := fun e => e.setGap .clear) (fun _ => (BesideStore.refl s).setGap .clear)⟩
  | supervisionTimerExpires =>
    refine ⟨_, rfl, ?_⟩
    split
    · next x hrunning => exact KeepsStanding.event (.supervisionExpires (Ev.start s) x (State.supervisionRunning_armed hrunning))
    · exact .refl s
  | dwellDue => exact ⟨_, rfl, .event_if (fun _ => .reachDwell (.refl s) _)⟩
  | dwellOverstay => exact ⟨_, rfl, .event_if (fun _ => .reachDwell (.refl s) _)⟩
  | recordWriteCompletes verified =>
    refine ⟨_, rfl, ?_⟩
    split
    · next hwrites =>
      have hcommitting : s.store.state = .committing := beq_iff_eq.mp (Bool.and_eq_true_iff.mp hwrites).2
      cases verified with
      | true => exact Begins.event (.quiet (KeepsStanding.recordPassed hcommitting) rfl)
      | false => exact Begins.event (.recordFailed s)
    · exact .refl s
  | interByteGap l =>
    refine ⟨_, rfl, ?_⟩
    split
    · exact (BesideStore.setPort s l _).keepsStanding
    · exact .refl s
  | frameCrcMismatch l =>
    refine ⟨_, rfl, ?_⟩
    repeat' split
    · exact .refl s
    · exact (BesideStore.setPort s l _).keepsStanding
    · exact (BesideStore.setPort s l _).keepsStanding
  | byteWhileReplyOwed l =>
    refine ⟨_, rfl, ?_⟩
    split
    · exact (BesideStore.setPort s l _).keepsStanding
    · exact .refl s
  | replySent l =>
    refine ⟨_, rfl, ?_⟩
    split
    · next hruns _ =>
      dsimp only
      split
      · refine .restart s _ ?_
        rw [(BesideStore.setPort s l _).power]
        exact State.runs_reset hruns
      · exact (BesideStore.setPort s l _).keepsStanding
    · exact .refl s
  | unknownKind l k body => exact ⟨_, rfl, s.receiveFrame_keepsStanding l k body⟩
  | byteReceived l x =>
    refine ⟨_, rfl, ?_⟩
    repeat' split
    · exact .refl s
    · exact (BesideStore.setPort s l _).keepsStanding
    · exact (BesideStore.setPort s l _).keepsStanding
    · exact s.completeFrame_keepsStanding l _ _
  | _ => exact absurd h (by simp [requestOf])

theorem exec_keepsStanding (i : Instr) (s : State) : ∃ t, exec i s = .next t ∧ KeepsStanding s t := by
  rcases h : requestOf i with _ | ⟨l, k, body⟩
  · exact exec_other_keepsStanding h s
  · exact ⟨_, exec_request h s, s.request_keepsStanding l k body⟩

theorem step_keepsStanding (h : step s = .next t) : KeepsStanding s t := by
  have hexec (i : Instr) (u : State) (h : exec i u = .next t) : KeepsStanding u t := by
    obtain ⟨t', ht, hkeeps⟩ := exec_keepsStanding i u
    cases h.symm.trans ht
    exact hkeeps
  rcases hp : s.pending with _ | ⟨c, rest⟩
  · rcases hd : s.dueCommand with _ | c
    · cases h.symm.trans (step_of_none_due hp hd)
      exact (BesideStore.tick s).keepsStanding
    · exact hexec c s (step_of_due hp hd ▸ h)
  · have hpending : BesideStore s { s with pending := rest } := .of_fields rfl rfl rfl rfl rfl rfl rfl
    exact .of_start hpending (hexec c _ (step_of_pending hp ▸ h))

end

/-- Settles O55: a step is begun and ended beside the store, but for the commit, its resuming and the configuration writes, which
the store's own laws are shown of one by one. -/
theorem boundsAndStandingLawsKept : Obligations.BoundsAndStandingLawsKept := by
  refine ⟨fun s t hs h => (step_keepsStanding h).bounded hs, fun s t h => ?_⟩
  have hkeeps := step_keepsStanding h
  exact ⟨hkeeps.maintenance, hkeeps.commitMark, hkeeps.supply, hkeeps.store⟩

end Sys2Proof.Machine
end

section
/-! Bytes, owed replies and refusals at the links (spec/10 R170 to R173, spec/08 R154 to R156), and the requests that act on the
event queue (spec/10 R179, R180, spec/01 R25). -/

namespace Sys2Proof.Machine

/-! ### Bytes that move a receive buffer -/

section

variable {l : Link} {s : State} {x : Byte} {b : Buffer} {n : Byte} {bytes : List Byte}

/-- A byte that moves the receive buffer of a link that owes no reply. -/
theorem exec_byteReceived_moves (hruns : s.runs = true) (hreply : (s.port l).reply = none)
    (hmoves : (s.port l).buffer.take x = .moves b) : exec (.byteReceived l x) s = .next (s.setBuffer l b) := by
  simp [exec, execByteReceived, hruns, hreply, hmoves]

/-- A byte that completes a frame on a link that owes no reply. -/
theorem exec_byteReceived_frame (hruns : s.runs = true) (hreply : (s.port l).reply = none)
    (hframe : (s.port l).buffer.take x = .frame n bytes) :
    exec (.byteReceived l x) s = .next (s.completeFrame l n bytes) := by
  simp [exec, execByteReceived, hruns, hreply, hframe]

theorem Buffer.take_hunting (x : Byte) :
    Buffer.hunting.take x = .moves (if x = 0x5A#8 then .synced else .hunting) := by simp [Buffer.take]

theorem Buffer.take_synced (x : Byte) :
    Buffer.synced.take x = .moves (if 1 ≤ x.toNat ∧ x.toNat ≤ 241 then .awaiting x [] else .hunting) := by simp [Buffer.take]

theorem Buffer.take_awaiting (x : Byte) (h : bytes.length + 1 ≠ n.toNat + 2) :
    (Buffer.awaiting n bytes).take x = .moves (.awaiting n (bytes ++ [x])) := by
  rw [Buffer.take, if_neg (by simpa using h)]

theorem Buffer.take_last (x : Byte) (h : bytes.length + 1 = n.toNat + 2) :
    (Buffer.awaiting n bytes).take x = .frame n (bytes ++ [x]) := by
  rw [Buffer.take, if_pos (by simpa using h)]

/-- A frame whose CRC does not match brings the buffer back to hunting (spec/10 R170). -/
theorem State.completeFrame_mismatch (s : State) (l : Link) (h : crcMatches n bytes = false) :
    s.completeFrame l n bytes = s.setBuffer l .hunting := by simp [State.completeFrame, h]

/-- Settles O22: what a byte does is what the receive buffer makes of it. -/
theorem bytesMoveTheBuffer : Obligations.BytesMoveTheBuffer := by
  intro l x s hruns hreply
  refine ⟨fun hb => ?_, fun hb => ?_, fun n bytes hb => ⟨fun hmore => ?_, fun hlast hcrc => ?_⟩, fun hb => ?_, ?_⟩
  · exact exec_byteReceived_moves hruns hreply (hb ▸ Buffer.take_hunting x)
  · exact exec_byteReceived_moves hruns hreply (hb ▸ Buffer.take_synced x)
  · exact exec_byteReceived_moves hruns hreply (hb ▸ Buffer.take_awaiting x hmore)
  · have hcovered : (bytes ++ [x]).take n.toNat = bytes.take n.toNat := List.take_append_of_le_length (by omega)
    have hmismatch : crcMatches n (bytes ++ [x]) = false := by
      rw [crcMatches, hcovered]
      exact beq_false_of_ne hcrc
    rw [exec_byteReceived_frame hruns hreply (hb ▸ Buffer.take_last x hlast), State.completeFrame_mismatch s l hmismatch]
  · have hpartly : (s.port l).buffer.partly = true := by
      cases hbuffer : (s.port l).buffer with
      | hunting => exact absurd hbuffer hb
      | synced => rfl
      | awaiting n bytes => rfl
    simp [exec, execInterByteGap, hruns, hpartly]
  · simp [exec, execFrameCrcMismatch, hruns, hreply]

end

/-! ### A reply that is owed -/

section

variable {l : Link} {s : State} {r : Reply}

/-- Whatever arrives while a reply is owed is discarded and sets OVERRUN (spec/10 R173). -/
theorem exec_discards (x : Byte) (hruns : s.runs = true) (hreply : (s.port l).reply = some r) :
    exec (.byteReceived l x) s = .next (s.discard l) ∧ exec (.byteWhileReplyOwed l) s = .next (s.discard l)
      ∧ exec (.frameCrcMismatch l) s = .next (s.discard l) := by
  simp [exec, execByteReceived, execByteWhileReplyOwed, execFrameCrcMismatch, hruns, hreply]

/-- REPLY_SENT, and the restart that an accepted RESTART is waiting to begin with it (spec/10 R173, spec/08 R156). -/
theorem exec_replySent (hruns : s.runs = true) (hreply : (s.port l).reply = some r) :
    exec (.replySent l) s = .next (if l == .station && s.mode.restartAccepted
      then (s.setPort l ((s.port l).sent r)).restart .request else s.setPort l ((s.port l).sent r)) := by
  simp [exec, execReplySent, hruns, hreply]

/-- A part that runs restarts, whatever its links hold. -/
theorem State.restart_of_runs (s : State) (l : Link) (p : Port) (c : RestartCause) (h : s.runs = true) :
    Restarted s ((s.setPort l p).restart c) c := by
  obtain ⟨hpower, _⟩ := Bool.and_eq_true_iff.mp h
  obtain ⟨hsupply, hreset⟩ := Bool.and_eq_true_iff.mp hpower
  have hrestarted := s.restart_restarted s.power c hsupply (by simpa using hreset)
  cases l <;> exact hrestarted

/-- Settles O23: discarding, sending and receiving are each one case of the model's operations on the port. -/
theorem owedRepliesHoldTheLink : Obligations.OwedRepliesHoldTheLink := by
  refine ⟨fun l x s r hruns hreply => exec_discards x hruns hreply, fun l s r hruns hreply => ⟨fun hstays => ?_,
    fun hl haccepted => ?_⟩, fun c l k body s hc => ⟨fun hstopped => ?_, fun hruns howed => ?_,
    fun hruns hfree hl haccepted => ?_⟩⟩
  · have hgoes : (l == .station && s.mode.restartAccepted) = false := by
      rcases hstays with rfl | hnone
      · rfl
      · rw [hnone, Bool.and_false]
    rw [exec_replySent hruns hreply, hgoes]
    rfl
  · have hrestarts : (l == .station && s.mode.restartAccepted) = true := by rw [hl, haccepted]; rfl
    refine ⟨_, exec_replySent hruns hreply, ?_⟩
    rw [if_pos hrestarts]
    exact s.restart_of_runs l _ .request hruns
  · rw [exec_request hc, State.request, State.receive_stopped _ _ _ _ hstopped]
  · rw [exec_request hc, State.request, State.receive_owed _ _ _ _ hruns howed]
    rfl
  · subst hl
    rw [exec_request hc, State.request, State.receive_restarting _ _ _ hruns hfree haccepted]

end

/-! ### Requests and their frames -/

theorem RequestKind.ofCode_code (k : RequestKind) : RequestKind.ofCode k.code = some k := by cases k <;> rfl

/-- Settles O25: the kind byte of a request names it. -/
theorem requestRowsAreTheirFrames : Obligations.RequestRowsAreTheirFrames := by
  intro c l k body s hc
  rw [exec_request hc, State.receiveFrame, RequestKind.ofCode_code]

/-! ### Refusals at the link -/

section

variable {l : Link} {s : State} {k : Byte} {r : Result}

/-- Counting a frame neither reads nor changes the queue. -/
theorem State.countFrame_events (s : State) (u : EventUnit) :
    ({ s with events := u } : State).countFrame = { s.countFrame with events := u } := by
  have hplatform : ({ s with events := u } : State).platform = s.platform := rfl
  simp only [State.countFrame, hplatform]
  rcases s.supervision.state <;> dsimp only
  · split <;> rfl
  · split <;> rfl

/-- The AUTHORITY flag and the queue, once a refusal is recorded (spec/08 R155). -/
theorem refusalRecorded_fields (l : Link) (k : Byte) (r : Result) :
    ∃ f : Uptime → EventUnit → EventUnit, ∀ s, refusalRecorded s l k r = { s with events := f s.uptime s.events } := by
  by_cases hr : r = .mode ∨ r = .wrongLink ∨ r = .key ∨ r = .guarded
  · exact ⟨fun time u => ({ u with authority := true }).add ⟨time, .authorityRefused, none,
      BitVec.ofNat 16 (highLow (linkCode l) k.toNat)⟩, fun s => by rw [refusalRecorded, if_pos hr]; rfl⟩
  · exact ⟨fun _ u => u, fun s => by rw [refusalRecorded, if_neg hr]⟩

/-- A refusal is recorded on the signalling link as before its frame was taken. -/
theorem refusalRecorded_takeFrame_signalling (s : State) (k : Byte) (r : Result) :
    refusalRecorded (s.takeFrame .signalling) .signalling k r = (refusalRecorded s .signalling k r).takeFrame .signalling := by
  obtain ⟨f, hf⟩ := refusalRecorded_fields .signalling k r
  have hcounted := s.countFrame_same
  have huptime := congrArg State.uptime hcounted
  have hevents := congrArg State.events hcounted
  dsimp only at huptime hevents
  simp only [hf, State.takeFrame_signalling_eq, State.countFrame_events, huptime, hevents]

/-- A refusal carried out: it is recorded where it is one of authority, and answered. -/
theorem Answer.carryOut_refuse (s : State) (l : Link) (k : Byte) (r : Result) :
    (Answer.refuse (s.takeFrame l) r).carryOut l k = answered l (refusalRecorded s l k r) k r [] := by
  have hrecorded : refusalRecorded (s.takeFrame l) l k r = (refusalRecorded s l k r).takeFrame l := by
    cases l with
    | station => exact refusalRecorded_takeFrame s k r
    | signalling => exact refusalRecorded_takeFrame_signalling s k r
  simp only [Answer.carryOut, Answer.outcome_refuse, Ev.start_s, State.recordAuthority_eq]
  simp only [Answer.refuse, hrecorded]
  generalize refusalRecorded s l k r = w
  cases l with
  | station => rfl
  | signalling =>
    simp only [State.takeFrame_signalling_eq]
    rfl

theorem RequestKind.ofCode_unassigned (h : kindAssigned k = false) : RequestKind.ofCode k = none := by
  revert k
  decide

/-- Settles O26: what a refusal changes besides the link is what recording it changes. -/
theorem linkRefusalsChangeNothing : Obligations.LinkRefusalsChangeNothing := by
  refine ⟨fun l kind body s hkind hready => ?_, fun c l k body s r hc hready hrefuses => ?_⟩
  · have hframe : exec (.unknownKind l kind body) s = .next (s.receive l kind judgeUnknown) := by
      show Host.Outcome.next (s.receiveFrame l kind body) = _
      rw [State.receiveFrame, RequestKind.ofCode_unassigned hkind]
    have hresult (m : Mode) : (if m == .starting then Result.busy else .unknown).isAuthority = false := by cases m <;> rfl
    have hjudged : judgeUnknown (s.takeFrame l)
        = .refuse (s.takeFrame l) (if s.mode.mode == .starting then .busy else .unknown) := by
      rw [judgeUnknown, State.takeFrame_mode]
    rw [hframe, State.receive_ready _ _ _ _ hready, hjudged, Answer.carryOut_refuse, refusalRecorded_other _ _ _ (hresult _)]
    simp only [beq_iff_eq]
  · rw [exec_request hc, State.request_refused _ _ _ _ _ _ hready hrefuses, Answer.carryOut_refuse]

end

/-! ### The event queue -/

/-- Settles O38: each owner settles its request with the queue, the mask or the trace that it sets. -/
theorem eventRequestsActOnTheQueue : Obligations.EventRequestsActOnTheQueue := by
  refine fun body s => ⟨fun h n hop => ?_, fun mask hbody h => ?_, fun h bays on hop => ?_⟩
  · exact exec_station_settled (v := s.takeEvents n) rfl h rfl (by simp only [ownerOf, ownerTakeEvents, hop]; rfl)
  · exact exec_station_settled (v := { s with events := { s.events with mask := mask } }) rfl h rfl (by rw [hbody]; rfl)
  · exact exec_station_settled (v := s.setTrace bays on) rfl h rfl (by simp only [ownerOf, ownerSetTrace, hop]; rfl)

end Sys2Proof.Machine
end

section
/-! A frame's bytes, one after another, bring the frame (spec/10 R170). -/

namespace Sys2Proof.Machine

/-! ### A receive buffer set again -/

section

variable {l : Link} {s : State} {b : Buffer}

@[simp] theorem State.setBuffer_buffer (s : State) (l : Link) (b : Buffer) : ((s.setBuffer l b).port l).buffer = b := by
  simp [State.setBuffer]

@[simp] theorem State.setBuffer_reply (s : State) (l : Link) (b : Buffer) :
    ((s.setBuffer l b).port l).reply = (s.port l).reply := by simp [State.setBuffer]

/-- Only the last buffer set counts. -/
theorem State.setBuffer_setBuffer (s : State) (l : Link) (b c : Buffer) : (s.setBuffer l b).setBuffer l c = s.setBuffer l c := by
  cases l <;> rfl

/-- Taking a frame brings the buffer back to hunting, whatever it held. -/
theorem State.takeFrame_setBuffer (s : State) (l : Link) (b : Buffer) : (s.setBuffer l b).takeFrame l = s.takeFrame l := by
  cases l <;> rfl

/-- What a link holds of a frame is not read when the frame is received. -/
theorem State.receive_setBuffer (hruns : s.runs = true) (hreply : (s.port l).reply = none) (k : Byte) (answer : State → Answer) :
    (s.setBuffer l b).receive l k answer = s.receive l k answer := by
  have hruns' : (s.setBuffer l b).runs = true := (s.setBuffer_runs l b).trans hruns
  have hreply' : ((s.setBuffer l b).port l).reply = none := (s.setBuffer_reply l b).trans hreply
  by_cases hrestarting : l = .signalling ∧ s.mode.restartAccepted = true
  · obtain ⟨rfl, haccepted⟩ := hrestarting
    have haccepted' : (s.setBuffer .signalling b).mode.restartAccepted = true := haccepted
    rw [State.receive_restarting _ _ _ hruns hreply haccepted, State.receive_restarting _ _ _ hruns' hreply' haccepted',
      State.setBuffer_setBuffer]
  · have hready : l = .signalling → s.mode.restartAccepted = false := fun hl => by simpa [hl] using hrestarting
    have hready' : l = .signalling → (s.setBuffer l b).mode.restartAccepted = false := by simpa using hready
    rw [State.receive_ready _ _ _ _ ⟨hruns, hreply, hready⟩, State.receive_ready _ _ _ _ ⟨hruns', hreply', hready'⟩,
      State.takeFrame_setBuffer]

theorem State.receiveFrame_setBuffer (hruns : s.runs = true) (hreply : (s.port l).reply = none) (k : Byte) (body : List Byte) :
    (s.setBuffer l b).receiveFrame l k body = s.receiveFrame l k body := by
  unfold State.receiveFrame
  split
  · exact State.receive_setBuffer hruns hreply _ _
  · exact State.receive_setBuffer hruns hreply _ _

end

/-! ### Bytes one after another -/

/-- A part of the machine's run: bytes wait for the link l, and the commands of rest after them. -/
def State.sending (s : State) (l : Link) (xs : List Byte) (rest : List Instr) : State :=
  { s with pending := xs.map (fun x => .byteReceived l x) ++ rest }

section

variable {l : Link} {s t : State} {x n : Byte} {bytes xs : List Byte} {rest : List Instr} {b c : Buffer}

theorem State.sending_nil (s : State) (l : Link) (rest : List Instr) : s.sending l [] rest = { s with pending := rest } := rfl

theorem State.sending_setBuffer (s : State) (l : Link) (b : Buffer) (xs : List Byte) (rest : List Instr) :
    (s.sending l xs rest).setBuffer l b = (s.setBuffer l b).sending l xs rest := by cases l <;> rfl

theorem State.sending_port (s : State) (l : Link) (xs : List Byte) (rest : List Instr) :
    (s.sending l xs rest).port l = s.port l := by cases l <;> rfl

theorem run_succ (h : step s = .next t) (k : Nat) : Host.Core.run Sys2Proof.core (k + 1) s = Host.Core.run Sys2Proof.core k t := by
  have hstep : Sys2Proof.core.step s = .next t := h
  simp only [Host.Core.run, hstep]

theorem step_sending (s : State) (l : Link) (x : Byte) (xs : List Byte) (rest : List Instr) :
    step (s.sending l (x :: xs) rest) = exec (.byteReceived l x) (s.sending l xs rest) := step_of_pending rfl

/-- One byte more moves the receive buffer. -/
theorem step_sending_moves (hruns : s.runs = true) (hreply : (s.port l).reply = none)
    (hmoves : (s.port l).buffer.take x = .moves c) :
    step (s.sending l (x :: xs) rest) = .next ((s.setBuffer l c).sending l xs rest) := by
  have hruns' : (s.sending l xs rest).runs = true := hruns
  rw [step_sending, exec_byteReceived_moves hruns' (by rwa [State.sending_port]) (by rwa [State.sending_port]),
    State.sending_setBuffer]

/-- The same from a buffer that a byte before it has set. -/
theorem step_sending_moves_again (hruns : s.runs = true) (hreply : (s.port l).reply = none) (hmoves : b.take x = .moves c) :
    step ((s.setBuffer l b).sending l (x :: xs) rest) = .next ((s.setBuffer l c).sending l xs rest) := by
  rw [step_sending_moves ((s.setBuffer_runs l b).trans hruns) ((s.setBuffer_reply l b).trans hreply)
    ((s.setBuffer_buffer l b).symm ▸ hmoves), State.setBuffer_setBuffer]

/-- A byte that completes a frame has the frame judged. -/
theorem step_sending_frame (hruns : s.runs = true) (hreply : (s.port l).reply = none) (hframe : b.take x = .frame n bytes) :
    step ((s.setBuffer l b).sending l (x :: xs) rest)
      = .next (((s.setBuffer l b).sending l xs rest).completeFrame l n bytes) := by
  have hruns' : ((s.setBuffer l b).sending l xs rest).runs = true := (s.setBuffer_runs l b).trans hruns
  rw [step_sending, exec_byteReceived_frame hruns' (by simpa [State.sending_port] using hreply)
    (by simpa [State.sending_port] using hframe)]

/-- Bytes short of the frame's end are gathered one after another. -/
theorem run_gathers (hruns : s.runs = true) (hreply : (s.port l).reply = none) (ys : List Byte) (k : Nat)
    (hshort : bytes.length + xs.length < n.toNat + 2) :
    Host.Core.run Sys2Proof.core (xs.length + k) ((s.setBuffer l (.awaiting n bytes)).sending l (xs ++ ys) rest)
      = Host.Core.run Sys2Proof.core k ((s.setBuffer l (.awaiting n (bytes ++ xs))).sending l ys rest) := by
  induction xs generalizing bytes with
  | nil => simp
  | cons x xs ih =>
    simp only [List.length_cons] at hshort
    have hmoves : (Buffer.awaiting n bytes).take x = .moves (.awaiting n (bytes ++ [x])) :=
      Buffer.take_awaiting x (by omega)
    have hstep : step ((s.setBuffer l (.awaiting n bytes)).sending l (x :: (xs ++ ys)) rest)
        = .next ((s.setBuffer l (.awaiting n (bytes ++ [x]))).sending l (xs ++ ys) rest) :=
      step_sending_moves_again hruns hreply hmoves
    calc Host.Core.run Sys2Proof.core ((x :: xs).length + k) ((s.setBuffer l (.awaiting n bytes)).sending l (x :: xs ++ ys) rest)
        = Host.Core.run Sys2Proof.core (xs.length + k + 1) ((s.setBuffer l (.awaiting n bytes)).sending l (x :: (xs ++ ys)) rest) := by
          rw [List.length_cons, List.cons_append, Nat.add_right_comm]
      _ = Host.Core.run Sys2Proof.core (xs.length + k) ((s.setBuffer l (.awaiting n (bytes ++ [x]))).sending l (xs ++ ys) rest) :=
          run_succ hstep _
      _ = Host.Core.run Sys2Proof.core k ((s.setBuffer l (.awaiting n (bytes ++ x :: xs))).sending l ys rest) := by
          rw [ih (by simp only [List.length_append, List.length_cons, List.length_nil]; omega), List.append_assoc]
          rfl

end

/-! ### The bytes of a frame -/

section

variable {l : Link} {s : State} {kind : Byte} {body : List Byte} {rest : List Instr}

/-- The length byte of a frame: it counts the kind and the body. -/
def lengthByte (body : List Byte) : Byte := BitVec.ofNat 8 (body.length + 1)

/-- The CRC bytes of a frame. -/
def crcBytes (kind : Byte) (body : List Byte) : List Byte := be16 (crc16 (lengthByte body :: kind :: body)).toNat

theorem lengthByte_toNat (h : body.length ≤ 240) : (lengthByte body).toNat = body.length + 1 := by
  rw [lengthByte, BitVec.toNat_ofNat]
  exact Nat.mod_eq_of_lt (by omega)

theorem frameBytes_eq (kind : Byte) (body : List Byte) :
    frameBytes kind body = 0x5A#8 :: lengthByte body :: ((kind :: body) ++ crcBytes kind body) := rfl

/-- A frame of its own length and CRC is received. -/
theorem State.completeFrame_matching (s : State) (l : Link) (h : body.length ≤ 240) :
    s.completeFrame l (lengthByte body) ((kind :: body) ++ crcBytes kind body) = s.receiveFrame l kind body := by
  have hlength : (lengthByte body).toNat = (kind :: body).length := lengthByte_toNat h
  have hmatches : crcMatches (lengthByte body) ((kind :: body) ++ crcBytes kind body) = true := by
    rw [crcMatches, hlength, List.drop_left, List.take_left]
    exact beq_self_eq_true _
  rw [State.completeFrame, if_pos hmatches, hlength, List.take_left]

/-- A frame begins with its sync byte and its length byte. -/
theorem run_begins (hruns : s.runs = true) (hreply : (s.port l).reply = none) (hhunting : (s.port l).buffer = .hunting)
    (h : body.length ≤ 240) (ys : List Byte) (k : Nat) :
    Host.Core.run Sys2Proof.core (k + 2) (s.sending l (0x5A#8 :: lengthByte body :: ys) rest)
      = Host.Core.run Sys2Proof.core k ((s.setBuffer l (.awaiting (lengthByte body) [])).sending l ys rest) := by
  have hrange : 1 ≤ (lengthByte body).toNat ∧ (lengthByte body).toNat ≤ 241 := by rw [lengthByte_toNat h]; omega
  have hlength : Buffer.synced.take (lengthByte body) = .moves (.awaiting (lengthByte body) []) := by
    rw [Buffer.take_synced, if_pos hrange]
  have hsync : (s.port l).buffer.take 0x5A#8 = .moves .synced := hhunting ▸ Buffer.take_hunting _
  rw [run_succ (step_sending_moves hruns hreply hsync), run_succ (step_sending_moves_again hruns hreply hlength)]

/-- The last byte of a frame has it received. -/
theorem run_closes (hruns : s.runs = true) (hreply : (s.port l).reply = none) (h : body.length ≤ 240) {c₁ c₂ : Byte}
    (hcrc : crcBytes kind body = [c₁, c₂]) :
    Host.Core.run Sys2Proof.core 1 ((s.setBuffer l (.awaiting (lengthByte body) ((kind :: body) ++ [c₁]))).sending l [c₂] rest)
      = .next (({ s with pending := rest } : State).receiveFrame l kind body) := by
  have hlast : ((kind :: body) ++ [c₁]).length + 1 = (lengthByte body).toNat + 2 := by
    rw [lengthByte_toNat h]
    simp
  have hframe : (Buffer.awaiting (lengthByte body) ((kind :: body) ++ [c₁])).take c₂
      = .frame (lengthByte body) ((kind :: body) ++ crcBytes kind body) := by
    rw [Buffer.take_last _ hlast, List.append_assoc, hcrc]
    rfl
  have hruns' : ({ s with pending := rest } : State).runs = true := hruns
  have hwaits : (({ s with pending := rest } : State).port l).reply = none := by
    rw [← State.sending_nil s l, State.sending_port, hreply]
  rw [run_succ (step_sending_frame hruns hreply hframe), State.completeFrame_matching _ _ h, ← State.sending_setBuffer]
  exact congrArg Host.Outcome.next (State.receiveFrame_setBuffer hruns' hwaits kind body)

end

/-- Settles O24: a frame begins with the sync and length bytes, all bytes but the last are gathered, and the last has it received. -/
theorem frameBytesBringTheirFrame : Obligations.FrameBytesBringTheirFrame := by
  intro l kind body rest s hbody hruns hreply hhunting
  obtain ⟨c₁, c₂, hcrc⟩ : ∃ c₁ c₂, crcBytes kind body = [c₁, c₂] := ⟨_, _, rfl⟩
  have hbytes : frameBytes kind body = 0x5A#8 :: lengthByte body :: (((kind :: body) ++ [c₁]) ++ [c₂]) := by
    rw [frameBytes_eq, hcrc, List.append_assoc]
    rfl
  have hlength : (frameBytes kind body).length = ((kind :: body) ++ [c₁]).length + 1 + 2 := by
    rw [hbytes]
    simp
  have hshort : ([] : List Byte).length + ((kind :: body) ++ [c₁]).length < (lengthByte body).toNat + 2 := by
    rw [lengthByte_toNat hbody]
    simp
  calc Host.Core.run Sys2Proof.core (frameBytes kind body).length (s.sending l (frameBytes kind body) rest)
      = Host.Core.run Sys2Proof.core (((kind :: body) ++ [c₁]).length + 1)
          ((s.setBuffer l (.awaiting (lengthByte body) [])).sending l (((kind :: body) ++ [c₁]) ++ [c₂]) rest) := by
        rw [hlength, hbytes, run_begins hruns hreply hhunting hbody]
    _ = Host.Core.run Sys2Proof.core 1
          ((s.setBuffer l (.awaiting (lengthByte body) ((kind :: body) ++ [c₁]))).sending l [c₂] rest) :=
        run_gathers hruns hreply _ _ hshort
    _ = .next (({ s with pending := rest } : State).receiveFrame l kind body) := run_closes hruns hreply hbody hcrc

end Sys2Proof.Machine
end
